-- ==== Sys2Proof/Word.lean ====
section
/-! DEFINITION. The word types of the part: the byte of the command link and of the frame output port, the pixel word of
the pixel port, the masks of the Condition Unit and the 32-bit counters. -/

namespace Sys2Proof

/-- One byte of the command link, the frame output port or the non-volatile store. -/
abbrev Byte := BitVec 8

/-- A 16-bit word: a pixel word (R8) or a mask with one bit for each condition source (R168). -/
abbrev Word16 := BitVec 16

/-- A 32-bit word: an exposure number (R97), a frame number (R123) or a CRC-32 check value (R145). -/
abbrev Word32 := BitVec 32

end Sys2Proof
end

