-- ==== Sys2Proof/Syntax.lean ====
section
/-! DEFINITION. The commands of the part: one constructor for each row of spec/opcode_table.json, with its operands. Events
of the ports, timers and jobs carry what the outside brings (a pixel word, a conversion code, bytes of the link, store cells
that did not take). A request row carries the request's body, as the Command Link chapter lays it out. -/

namespace Sys2Proof

/-- A lamp bank: F, the flood bank, or B, the beam bank (00_scope, Terms). -/
inductive Bank where
  | flood
  | beam
deriving DecidableEq, Repr

/-- Cells of the non-volatile store that do not hold what was last written or erased there, as a read-back finds them: the
byte's position and the byte found. Empty when the store holds what was written. -/
abbrev LostCells := List (Nat × Byte)

/-- The commands of the part, in the order of spec/opcode_table.json. -/
inductive Instr where
  /-- FULL_RESET (R95): power-on or assertion of the reset input. -/
  | fullReset
  /-- STARTUP_SCAN_DONE (R158). -/
  | startupScanDone
  /-- TRIGGER (R98). -/
  | trigger
  /-- EXPOSURE_END (R5). -/
  | exposureEnd
  /-- FRAME_OPEN (R6). -/
  | frameOpen
  /-- LINE_OPEN (R7). -/
  | lineOpen
  /-- PIXEL_WORD (R9): one 16-bit word of the pixel port. -/
  | pixelWord (word : Word16)
  /-- LINE_CLOSE (R10). -/
  | lineClose
  /-- FRAME_CLOSE (R12, R13). -/
  | frameClose
  /-- READOUT_TIMEOUT (R14). -/
  | readoutTimeout
  /-- INTERVAL_EXPIRY (R99). -/
  | intervalExpiry
  /-- FOLD_COMPLETE (R35), of the accumulator of one bank. -/
  | foldComplete (bank : Bank)
  /-- STILL_START (R108). -/
  | stillStart
  /-- FINALISE_START (R111). -/
  | finaliseStart
  /-- FINALISE_COMPLETE (R39). -/
  | finaliseComplete
  /-- RENDER_START (R42). -/
  | renderStart
  /-- RENDER_COMPLETE (R56). -/
  | renderComplete
  /-- SEND_START (R127). -/
  | sendStart
  /-- SEND_PERIOD_EXPIRY (R128). -/
  | sendPeriodExpiry
  /-- SEND_COMPLETE (R130). -/
  | sendComplete
  /-- SWITCH_DRAIN (R114). -/
  | switchDrain
  /-- SWITCH_LOAD (R114). -/
  | switchLoad
  /-- VERIFY_PASS_DONE (R147), with the cells of the slot the pass finds lost. -/
  | verifyPassDone (lost : LostCells)
  /-- COPY_PASS_DONE (R147). -/
  | copyPassDone
  /-- SAVE_ERASE_DONE (R150). -/
  | saveEraseDone
  /-- SAVE_PROGRAM_DONE (R150), with the cells the read-back finds lost. -/
  | saveProgramDone (lost : LostCells)
  /-- ERASE_DONE (R151), with the cells the read-back finds not erased. -/
  | eraseDone (lost : LostCells)
  /-- ERASE_ALL_SLOT_DONE (R152), with the cells the read-back finds not erased. -/
  | eraseAllSlotDone (lost : LostCells)
  /-- BOOT_WRITE_ERASE_DONE (R157). -/
  | bootWriteEraseDone
  /-- BOOT_WRITE_PROGRAM_DONE (R157), with the cells of the record the read-back finds lost (data byte `i` at `2i`, its
  complement at `2i + 1`). -/
  | bootWriteProgramDone (lost : LostCells)
  /-- PROBE_PERIOD_EXPIRY (R160). -/
  | probePeriodExpiry
  /-- ID_CONVERSION_DONE (R161), with the code converted. -/
  | idConversionDone (code : Nat)
  /-- TEMP_CONVERSION_DONE (R163), with the code converted. -/
  | tempConversionDone (code : Nat)
  /-- FRAME_RECEIVED (R175): bytes arriving on the link with no gap above 2 ms between them. -/
  | frameReceived (bytes : List Byte)
  /-- BYTE_GAP_TIMEOUT (R175). -/
  | byteGapTimeout
  /-- FRAME_SENT (R177). -/
  | frameSent
  /-- BAD_KIND (R176): a request of a kind outside the request index. -/
  | badKind (kind : Byte) (body : List Byte)
  /-- IDNT (R178). -/
  | idnt (body : List Byte)
  /-- STAT (R179). -/
  | stat (body : List Byte)
  /-- PGET (R181). -/
  | pget (body : List Byte)
  /-- PSET (R181), of a parameter with no row of its own. -/
  | pset (body : List Byte)
  /-- PSET_LEVEL (R78). -/
  | psetLevel (bank style : Byte) (value : Word32)
  /-- PSET_MIN (R78). -/
  | psetMin (bank style : Byte) (value : Word32)
  /-- PSET_MAX (R78). -/
  | psetMax (bank style : Byte) (value : Word32)
  /-- PSET_EXPO (R78). -/
  | psetExpo (bank style : Byte) (value : Word32)
  /-- PSET_MODE (R79). -/
  | psetMode (bank style : Byte) (value : Word32)
  /-- PSET_STEER (R79). -/
  | psetSteer (bank style : Byte) (value : Word32)
  /-- PSET_CEILING (R80). -/
  | psetCeiling (bank style : Byte) (value : Word32)
  /-- PSET_DERATE_START (R81). -/
  | psetDerateStart (bank style : Byte) (value : Word32)
  /-- PSET_CUTOFF (R81). -/
  | psetCutoff (bank style : Byte) (value : Word32)
  /-- PSET_SEND_MODE (R131). -/
  | psetSendMode (bank style : Byte) (value : Word32)
  /-- PSET_RISE_EN (R170). -/
  | psetRiseEn (bank style : Byte) (value : Word32)
  /-- PSET_FALL_EN (R170). -/
  | psetFallEn (bank style : Byte) (value : Word32)
  /-- PSET_NOTICE_EN (R171). -/
  | psetNoticeEn (bank style : Byte) (value : Word32)
  /-- PSET_OUT_WIDTH (R144). -/
  | psetOutWidth (bank style : Byte) (value : Word32)
  /-- PSET_OUT_HEIGHT (R144). -/
  | psetOutHeight (bank style : Byte) (value : Word32)
  /-- PSET_BANK_SET (R144). -/
  | psetBankSet (bank style : Byte) (value : Word32)
  /-- PSET_HAS_TONE (R144). -/
  | psetHasTone (bank style : Byte) (value : Word32)
  /-- PSET_PROFILE_ID (R143). -/
  | psetProfileId (bank style : Byte) (value : Word32)
  /-- PSET_HEAD_BIND (R143). -/
  | psetHeadBind (bank style : Byte) (value : Word32)
  /-- PSET_LABEL (R143): the value is 16 bytes. -/
  | psetLabel (bank style : Byte) (label : List Byte)
  /-- LTCH (R172). -/
  | ltch (body : List Byte)
  /-- SGO (R104). -/
  | sgo (body : List Byte)
  /-- SHLT (R105). -/
  | shlt (body : List Byte)
  /-- STIL (R107). -/
  | stil (body : List Byte)
  /-- SCAN (R112). -/
  | scan (body : List Byte)
  /-- ZSET (R63). -/
  | zset (body : List Byte)
  /-- ZGET (R73). -/
  | zget (body : List Byte)
  /-- TWRT (R141). -/
  | twrt (body : List Byte)
  /-- TRD (R142). -/
  | trd (body : List Byte)
  /-- PACT (R148). -/
  | pact (body : List Byte)
  /-- PSAV (R149). -/
  | psav (body : List Byte)
  /-- PERS (R151). -/
  | pers (body : List Byte)
  /-- SERS (R152). -/
  | sers (body : List Byte)
  /-- PPRT (R153). -/
  | pprt (body : List Byte)
  /-- PLST (R146). -/
  | plst (body : List Byte)
  /-- BWRT (R157). -/
  | bwrt (body : List Byte)
  /-- BRD (R157). -/
  | brd (body : List Byte)
  /-- HPRB (R165). -/
  | hprb (body : List Byte)
  /-- RSET (R182). -/
  | rset (body : List Byte)
  /-- MODEM_READY (R129): the modem takes the byte the frame output port presents. -/
  | modemReady
  /-- LEN_OUT_OF_RANGE (R175): the start byte and then a LEN byte of 0 or above 241. -/
  | lenOutOfRange (len : Byte)
deriving DecidableEq, Repr

end Sys2Proof
end

