-- ==== Sys2Proof/Config.lean ====
section
/-! DEFINITION. What the part fixes (sizes and codes the spec gives once) and the free values: opaque constants for what the
spec leaves open, which no proof can evaluate. -/

namespace Sys2Proof.Config

/-- Columns of the sensor frame (00_scope, Pixel coordinates). -/
abbrev sensorWidth : Nat := 1280

/-- Rows of the sensor frame (00_scope, Pixel coordinates). -/
abbrev sensorHeight : Nat := 1024

/-- Entries of GAIN_F, GAIN_B and WEIGHT: 21 by 17 nodes (R138). -/
abbrev gainEntries : Nat := 357

/-- Entries of TONE (R138). -/
abbrev toneEntries : Nat := 1025

/-- Bytes of a store slot: 32 KiB (08, The store and its directory). -/
abbrev storeSlotBytes : Nat := 32768

/-- An erased byte of the store (08, The startup record). -/
abbrev erasedByte : Byte := 0xFF#8

/-- The start byte of a link frame (R174). -/
abbrev startByte : Byte := 0xA5#8

/-- FREE VALUE (log entry 3). How far a startup-record write has got when the record is looked at, or cut off, before its
phase has ended: whether storage cell `cell` has been erased (or written) by then, at the model's draw `draw`. The spec
says only "as far as it has been erased and written" (R157, R155). -/
opaque bootCellDone (draw cell : Nat) : Bool

/-- FREE VALUE (log entry 4). Whether a PSET whose value has the width of another parameter (16 bytes for a four-byte
parameter, or four for LABEL) is refused with BAD_LENGTH (`true`) or BAD_PARAM (`false`): R176 and R181 do not say. -/
opaque psetWidthIsLength : Bool

/-- FREE VALUE (log entry 5). The slot byte that STAT group 4 gives beside ERASE_ALL while slot `slot` is being erased:
R154 and R179 give an operation "with its slot", and an Erase Store names none. -/
opaque eraseAllSlotByte (slot : Nat) : Byte

end Sys2Proof.Config
end

