-- ==== Sys2Proof/Machine/State.lean ====
section
/-! DEFINITION. The state of the part as plain data, block by block, each piece named as the spec names it, and the state
right after a full reset. -/

namespace Sys2Proof.Machine

/-! ## The Pixel Receiver (chapter 01) -/

/-- The line sub-state of IN_FRAME (R1). -/
inductive LineSub where
  | inLine
  | between
deriving DecidableEq, Repr

/-- The held exposure of SKIP (R1). -/
inductive Held where
  | none
  | exposing
  | ended
deriving DecidableEq, Repr

/-- The receiver states of R1. -/
inductive ReceiverState where
  | off
  | idle
  | exposing
  | awaiting
  | inFrame (sub : LineSub)
  | skip (held : Held)
deriving DecidableEq, Repr

/-- ALIGN (R8). -/
inductive Align where
  | high
  | low
deriving DecidableEq, Repr

/-- DEPTH (R8): 12 or 10 bits. -/
inductive Depth where
  | twelve
  | ten
deriving DecidableEq, Repr

/-- The Pixel Receiver (chapter 01, Receiver state). -/
structure Receiver where
  /-- Receiver state (R1). -/
  state : ReceiverState
  /-- Line number: lines opened so far in the frame being received, 0..1024. -/
  lineNumber : Nat
  /-- The pixels stored in the open line, first column first. The word count is its length. -/
  openLine : List Nat
  /-- Patched count, 0..1024. -/
  patched : Nat
  /-- Received count, 0..1024. -/
  received : Nat
  /-- Pending leading lines, 0..1023. -/
  leading : Nat
  /-- Last received line, after padding; absent until the first line with a pixel closes. -/
  lastLine : Option (List Nat)
  /-- Readout timer: `none` stopped, `some t` running since it was started with `t` µs. -/
  readoutTimer : Option Nat
  /-- Exposure timer: `none` stopped, `some t` running since it was started with `t` µs. -/
  exposureTimer : Option Nat
  /-- ALIGN. -/
  align : Align
  /-- DEPTH. -/
  depth : Depth
  /-- READOUT_TIMEOUT, µs. -/
  readoutTimeout : Nat
  /-- PATCH_LIMIT. -/
  patchLimit : Nat
deriving DecidableEq, Repr

/-! ## Recipes, kinds and the exposure record (chapters 01, 02, 06) -/

/-- How a picture is made (00_scope, Terms). -/
inductive Recipe where
  | flood
  | beam
  | fuse
deriving DecidableEq, Repr

/-- The kind of an exposure: F, B or DARK. -/
inductive Kind where
  | lit (bank : Bank)
  | dark
deriving DecidableEq, Repr

/-- The purpose of an exposure (R97). -/
inductive Purpose where
  | stream
  | still (tag : Nat)
  | darkReference
deriving DecidableEq, Repr

/-- The state of an exposure record (chapter 01, Receiver state). -/
inductive RecordState where
  | armed
  | readout
  | complete
  | abandoned
deriving DecidableEq, Repr

/-- The abandon reasons (chapter 01, Receiver state). -/
inductive AbandonReason where
  | timeout
  | patchLimit
  | empty
  | headLost
  | lampCutoff
  | cancelled
deriving DecidableEq, Repr

/-- A linear buffer's name. -/
inductive LinId where
  | lin0
  | lin1
deriving DecidableEq, Repr

/-- The role of a stream exposure in its frame (R29). -/
inductive Role where
  | single
  | first
  | second
deriving DecidableEq, Repr

/-- A watch zone's definition (R60). -/
structure ZoneDef where
  enabled : Bool
  col0 : Nat
  col1 : Nat
  row0 : Nat
  row1 : Nat
  bank : Bank
  low : Nat
  high : Nat
  glareLimit : Nat
deriving DecidableEq, Repr

/-- The exposure record (chapter 01; R97). -/
structure ExposureRecord where
  /-- Exposure number (R97). -/
  number : Word32
  kind : Kind
  purpose : Purpose
  /-- Exposure time, µs. -/
  time : Nat
  /-- The latched black level (R19). -/
  black : Nat
  /-- The used level (R86); 0 for a DARK exposure. -/
  usedLevel : Nat
  /-- The level-clamped flag (R86). -/
  clamped : Bool
  /-- The zone-definition snapshot (R66). -/
  zones : Vector ZoneDef 8
  /-- Role and buffer of a stream exposure of kind F or B (R29). -/
  assigned : Option (Role × LinId)
  state : RecordState
  /-- Stray frame-open seen. -/
  strayOpen : Bool
  /-- Long lines. -/
  longLines : Bool
  /-- Short lines. -/
  shortLines : Bool
  /-- Patched line count, copied from the patched count at the end of the exposure. -/
  patchedLines : Nat
  reason : Option AbandonReason
deriving DecidableEq, Repr

/-! ## The Photometric Corrector (chapter 02) -/

/-- A setting that is AUTO or MANUAL: the black mode (R18) and a bank's MODE (R79). -/
inductive AutoMode where
  | auto
  | manual
deriving DecidableEq, Repr

/-- The last dark result (R21): the mean and the exposure's number. -/
structure DarkResult where
  mean : Nat
  number : Word32
deriving DecidableEq, Repr

/-- The content states of a linear buffer, in R28's order. -/
inductive LinContent where
  | empty
  | writing
  | half
  | whole
deriving DecidableEq, Repr

/-- A linear buffer: its content state, the rows written so far (top row first) and the mark for release (R32). -/
structure LinearBuffer where
  content : LinContent
  rows : List (List Nat)
  releaseMarked : Bool
deriving DecidableEq, Repr

/-- The states of an accumulator, in R33's order. -/
inductive AccState where
  | free
  | opened
  | receiving
  | folding
  | finalising
  | discarding
deriving DecidableEq, Repr

/-- An accumulator (chapter 02, The accumulators): state, folded count, sum plane and pending plane. -/
structure Accumulator where
  state : AccState
  folded : Nat
  sum : List (List Int)
  pendingPlane : List (List Int)
deriving DecidableEq, Repr

/-- The photometric mode of a still (R38). -/
inductive PhotoMode where
  | apply
  | bypass
deriving DecidableEq, Repr

/-- The finalise pass running (R37): the buffer named and the still's recipe, stack depth and photometric mode. -/
structure FinaliseJob where
  buffer : LinId
  recipe : Recipe
  depth : Nat
  photometric : PhotoMode
deriving DecidableEq, Repr

/-- The Photometric Corrector (chapter 02, State of the corrector). -/
structure Photometric where
  blackMode : AutoMode
  /-- The current black level b, 0..1023. -/
  black : Nat
  /-- DARK_EVERY. -/
  darkEvery : Nat
  lastDark : Option DarkResult
  /-- The dark sum of the DARK exposure in flight. -/
  darkSum : Option Nat
  lin0 : LinearBuffer
  lin1 : LinearBuffer
  accF : Accumulator
  accB : Accumulator
  finalise : Option FinaliseJob
deriving DecidableEq, Repr

/-! ## Pictures and the Remap Engine (chapters 03, 06, 07) -/

/-- Stream frame, or still with its tag. -/
inductive PictureKind where
  | stream
  | still (tag : Nat)
deriving DecidableEq, Repr

/-- CORRECTED or SENSOR. -/
inductive Geometry where
  | corrected
  | sensor
deriving DecidableEq, Repr

/-- TONED8 or LINEAR16. -/
inductive PixelFormat where
  | toned8
  | linear16
deriving DecidableEq, Repr

/-- A crop of the corrected picture (R50). -/
structure Crop where
  x0 : Nat
  y0 : Nat
  w : Nat
  h : Nat
deriving DecidableEq, Repr

/-- A render job (R41). -/
structure RenderJob where
  source : LinId
  dest : Fin 4
  kind : PictureKind
  geometry : Geometry
  format : PixelFormat
  crop : Option Crop
  width : Nat
  height : Nat
  fill : Nat
  nextRow : Nat
deriving DecidableEq, Repr

/-- The Remap Engine: `none` is IDLE, `some job` is RENDERING; and the FILL parameter. -/
structure Remap where
  job : Option RenderJob
  fill : Nat
deriving DecidableEq, Repr

/-- Level states of a zone, in the order of their codes (R60). -/
inductive LevelState where
  | unmeasured
  | inside
  | low
  | high
deriving DecidableEq, Repr

/-- The picture values the sequencer gathers (R102). -/
structure PictureValues where
  recipe : Recipe
  depth : Nat
  photometric : PhotoMode
  /-- Still tag, or 0. -/
  tag : Nat
  black : Nat
  timeF : Nat
  levelF : Nat
  timeB : Nat
  levelB : Nat
  clamped : Bool
  zoneStates : Vector LevelState 8
  glare : Vector Bool 8
  first : Word32
  last : Word32
  patchedLines : Nat
  patched : Bool
  strayOpen : Bool
  longLines : Bool
  shortLines : Bool
  degraded : Bool
  mismatch : Bool
  temperature : Option Int
deriving DecidableEq, Repr

/-- The header fields written at render start (R44). -/
structure PictureForm where
  width : Nat
  height : Nat
  format : PixelFormat
  geometry : Geometry
  cropX : Nat
  cropY : Nat
  profileId : Nat
  head : Option Nat
  source : Option (Fin 8)
deriving DecidableEq, Repr

/-! ## The Metering Unit (chapter 04) -/

/-- A zone's results (R60). -/
structure ZoneResult where
  mean : Nat
  clip : Nat
  level : LevelState
  glare : Bool
  measured : Option Word32
deriving DecidableEq, Repr

/-- A zone entry (R60): definition, results and revised mark. -/
structure Zone where
  defn : ZoneDef
  result : ZoneResult
  revised : Bool
deriving DecidableEq, Repr

/-- A zone being measured (R66): its index, its snapshot definition, its sum S and clipped count K. -/
structure MeasuredZone where
  index : Fin 8
  defn : ZoneDef
  sum : Nat
  clipped : Nat
deriving DecidableEq, Repr

/-- The measurement in progress (R66). -/
structure Measurement where
  number : Word32
  bank : Bank
  clipLevel : Nat
  zones : List MeasuredZone
deriving DecidableEq, Repr

/-- The Metering Unit. -/
structure Metering where
  zones : Vector Zone 8
  /-- CLIP_LEVEL. -/
  clipLevel : Nat
  measurement : Option Measurement
deriving DecidableEq, Repr

/-! ## The Lamp Controller (chapter 05) -/

/-- A bank's last lit (R75): exposure number and used level. -/
structure LastLit where
  number : Word32
  used : Nat
deriving DecidableEq, Repr

/-- One bank's settings and last lit (R75). Its derate limit and standing effective maximum are functions of the state. -/
structure BankLamp where
  mode : AutoMode
  level : Nat
  min : Nat
  max : Nat
  expo : Nat
  target : Nat
  steer : Option (Fin 8)
  lastLit : Option LastLit
deriving DecidableEq, Repr

/-- The Lamp Controller (R75). -/
structure Lamps where
  flood : BankLamp
  beam : BankLamp
  deadband : Nat
  ceiling : Nat
  derateStart : Int
  cutoffAt : Int
  startupCeiling : Nat
  /-- The temperature held, half-degrees; `none` is invalid. -/
  temperature : Option Int
  /-- Cutoff: `true` is ON. -/
  cutoff : Bool
  /-- The steering copy: the zones as the Metering Unit last handed them over. -/
  steering : Vector Zone 8
  /-- The lit bank and the level it is lit at. -/
  lit : Option (Bank × Nat)
deriving DecidableEq, Repr

/-! ## The Capture Sequencer (chapter 06) -/

/-- The sequencer's states, in the order of their codes (R94). -/
inductive SeqState where
  | starting
  | idle
  | run
  | still
  | switchDrain
  | switchLoad
  | halt
deriving DecidableEq, Repr

/-- The stream frame being exposed (R94, R101): effective recipe, degraded mark, buffer, and the records of its exposures
that have completed, first first. -/
structure StreamFrame where
  recipe : Recipe
  degraded : Bool
  buffer : LinId
  parts : List ExposureRecord
deriving DecidableEq, Repr

/-- A WHOLE buffer to be offered to the Remap Engine with its picture's values (R102). -/
structure Waiting where
  buffer : LinId
  kind : PictureKind
  values : PictureValues
deriving DecidableEq, Repr

/-- A still request record (R107). -/
structure StillRequest where
  tag : Nat
  recipe : Recipe
  depth : Nat
  geometry : Geometry
  photometric : PhotoMode
  format : PixelFormat
  crop : Option Crop
deriving DecidableEq, Repr

/-- The phases of an accepted still, in the order of R106. -/
inductive StillPhase where
  | pending
  | exposing
  | awaitFinalise
  | finalising
  | awaitRender
  | rendering
  | queued
deriving DecidableEq, Repr

/-- A still past its start (R106, R108): its request, phase and slot, the values frozen at its start, its completed and
abandonment counts, the records of its completed exposures, and the values gathered for its picture. -/
structure StillTrack where
  req : StillRequest
  phase : StillPhase
  slot : Fin 4
  black : Nat
  levelF : Nat
  expoF : Nat
  levelB : Nat
  expoB : Nat
  doneF : Nat
  doneB : Nat
  abandonments : Nat
  parts : List ExposureRecord
  values : Option PictureValues
deriving DecidableEq, Repr

/-- A switch target (R94): a store slot or a head code. -/
inductive Target where
  | slot (slot : Fin 8)
  | head (code : Fin 12)
deriving DecidableEq, Repr

/-- The Capture Sequencer (R94). -/
structure Sequencer where
  state : SeqState
  streamRequested : Bool
  requestedRecipe : Option Recipe
  /-- The interval timer: `none` expired, `some t` running since it was started with `t` µs. -/
  intervalTimer : Option Nat
  darkCounter : Nat
  nextExposure : Word32
  /-- The record of the exposure in flight. -/
  exposure : Option ExposureRecord
  /-- THE MODEL'S OWN: the last record released, as it stood at its end (log entry 7). -/
  lastEnded : Option ExposureRecord
  frame : Option StreamFrame
  /-- Buffers awaiting render, oldest first. -/
  awaiting : List Waiting
  /-- The still queue: PENDING stills, first first. -/
  queue : List StillRequest
  /-- The active still (EXPOSING or AWAIT_FINALISE). -/
  active : Option StillTrack
  /-- Stills tracked past their finalise start, in the order they started. -/
  later : List StillTrack
  switchTarget : Option Target
  nextTarget : Option Target
  loadHalt : Bool
  /-- Start-up: the store has reported its scan done (R158). -/
  scanDone : Bool
  /-- Start-up: the sequencer has chosen its load, or that there is none (R95). -/
  loadChosen : Bool
  /-- The autostart recipe of the startup record. -/
  autostart : Option Recipe
  /-- INTERVAL, µs. -/
  interval : Nat
  paced : Bool
  autoswitch : Bool
deriving DecidableEq, Repr

/-! ## The Output Queue and Video Port (chapter 07) -/

/-- The states of an output slot, in R120's order. -/
inductive SlotState where
  | free
  | reserved
  | ready
  | sending
  | held
deriving DecidableEq, Repr

/-- An output slot (R120): its state, its picture's frame number and kind, the two later parts of its header record, and the
pixel rows written so far. -/
structure Slot where
  state : SlotState
  number : Word32
  kind : PictureKind
  form : Option PictureForm
  values : Option PictureValues
  pixels : List (List Nat)
deriving DecidableEq, Repr

/-- The send in progress (R120): the slot, whether it is a repeat, and the bytes already taken by the modem. -/
structure Send where
  slot : Fin 4
  isRepeat : Bool
  taken : Nat
deriving DecidableEq, Repr

/-- POLICY (R132). -/
inductive Policy where
  | keepNew
  | keepOld
deriving DecidableEq, Repr

/-- SEND_MODE (R131). -/
inductive SendMode where
  | onDemand
  | fixedRate
deriving DecidableEq, Repr

/-- The Output Queue and Video Port (R120). -/
structure Output where
  slots : Vector Slot 4
  readyOrder : List (Fin 4)
  frameCounter : Word32
  send : Option Send
  /-- The period timer: `none` stopped, `some t` running since it was started with `t` µs. -/
  periodTimer : Option Nat
  policy : Policy
  sendMode : SendMode
  /-- SEND_PERIOD, µs. -/
  sendPeriod : Nat
  streamFormat : PixelFormat
deriving DecidableEq, Repr

/-! ## The Table Unit and Profile Store (chapter 08) -/

/-- The tables of bank B (R138): GAIN_B and WEIGHT. -/
structure BeamTables where
  gainB : List Nat
  weight : List Nat
deriving DecidableEq, Repr

/-- The calibration content of a working set (R137, R138). The bank set is FB exactly when the bank B tables are present, and
has-tone is set exactly when TONE is. -/
structure Content where
  profileId : Nat
  /-- Head code 0..11; `none` is 255, unbound. -/
  head : Option Nat
  width : Nat
  height : Nat
  label : List Byte
  mesh : List (Int × Int)
  gainF : List Nat
  beam : Option BeamTables
  tone : Option (List Nat)
deriving DecidableEq, Repr

/-- The working set: its content and the store's bookkeeping about it (R137). -/
structure WorkingSet where
  content : Content
  source : Option (Fin 8)
  modified : Bool
deriving DecidableEq, Repr

/-- The six content fields of a stored header (R145), has-tone and bank set as flags. -/
structure StoredHeader where
  profileId : Nat
  head : Option Nat
  fb : Bool
  width : Nat
  height : Nat
  hasTone : Bool
  label : List Byte
deriving DecidableEq, Repr

/-- A store slot's non-volatile contents: its bytes from the first one (every byte beyond the list is erased), and the two
marks outside the checked content (chapter 08, The store and its directory). -/
structure StoreSlot where
  bytes : List Byte
  protectMark : Bool
  workMark : Bool
deriving DecidableEq, Repr

/-- The states of a directory record, in R146's order. -/
inductive DirState where
  | empty
  | valid
  | corrupt
deriving DecidableEq, Repr

/-- A directory record (R146). -/
structure DirRecord where
  state : DirState
  guarded : Bool
  header : Option StoredHeader
  check : Option Word32
deriving DecidableEq, Repr

/-- The two passes of a load (R147). -/
inductive LoadPass where
  | verify
  | copy
deriving DecidableEq, Repr

/-- The two phases of a save or a startup-record write (R150, R157). -/
inductive WritePhase where
  | erase
  | program
deriving DecidableEq, Repr

/-- The long operation running (R154). ERASE_ALL carries the slot being erased and whether an earlier slot failed to read
back blank; BOOT_WRITE carries the eight data bytes to be written. -/
inductive StoreOp where
  | load (slot : Fin 8) (pass : LoadPass)
  | save (slot : Fin 8) (phase : WritePhase)
  | erase (slot : Fin 8)
  | eraseAll (slot : Fin 8) (failed : Bool)
  | bootWrite (record : List Byte) (phase : WritePhase)
deriving DecidableEq, Repr

/-- The last results, in R154's order. -/
inductive LastResult where
  | none
  | ok
  | failVerify
  | corrupt
  | aborted
deriving DecidableEq, Repr

/-- The Table Unit and Profile Store. -/
structure Store where
  ws : WorkingSet
  slots : Vector StoreSlot 8
  directory : Vector DirRecord 8
  op : Option StoreOp
  lastResult : LastResult
  /-- The standby copy of a load's copy pass (R147). -/
  standby : Option WorkingSet
  /-- The startup record's cells: each of its eight data bytes with the byte stored beside it as its complement (R156). -/
  boot : Vector (Byte × Byte) 8
deriving DecidableEq, Repr

/-! ## The Head Probe (chapter 09) -/

/-- A classification of an identity code (R161). -/
inductive Classification where
  | shortLine
  | openLine
  | head (k : Fin 12)
  | between
deriving DecidableEq, Repr

/-- The conversion states, in R159's order. -/
inductive ConvState where
  | idle
  | convertingId
  | convertingTemp
deriving DecidableEq, Repr

/-- The line the next periodic conversion reads (R159). -/
inductive ConvKind where
  | id
  | temp
deriving DecidableEq, Repr

/-- The Head Probe (R159). -/
structure Probe where
  conv : ConvState
  nextKind : ConvKind
  forceHeld : Bool
  /-- The period timer, always running: the period it was last started with, ms. -/
  periodTimer : Nat
  latestId : Option Nat
  latestClass : Option Classification
  candidate : Option Classification
  /-- The adopted state; `none` is NONE. -/
  adopted : Option Classification
  lastHead : Option (Fin 12)
  latestTemp : Option Nat
  /-- The temperature, half-degrees; `none` is invalid. -/
  temperature : Option Int
  /-- PROBE_PERIOD, ms. -/
  probePeriod : Nat
deriving DecidableEq, Repr

/-! ## The Condition Unit (chapter 10) -/

/-- The Condition Unit (R168, R169, R171). -/
structure Conditions where
  /-- The recorded values of the level sources: the live set. -/
  live : Word16
  /-- The latch set. -/
  latches : Word16
  riseEn : Word16
  fallEn : Word16
  noticeEn : Bool
  noticePending : Bool
deriving DecidableEq, Repr

/-! ## The Command Link (chapter 11) -/

/-- The states of the link receiver with the part of the frame already received (R175). -/
inductive LinkRx where
  | hunt
  | length
  | kind (len : Byte)
  | body (len kind : Byte) (got : List Byte)
  | checkHigh (len kind : Byte) (got : List Byte)
  | checkLow (len kind : Byte) (got : List Byte) (high : Byte)
deriving DecidableEq, Repr

/-- A request: its KIND and BODY. -/
structure Request where
  kind : Byte
  body : List Byte
deriving DecidableEq, Repr

/-- A request of the holding area and whether it has been taken (R176). -/
structure HeldRequest where
  request : Request
  taken : Bool
deriving DecidableEq, Repr

/-- A composed frame: its KIND and BODY. -/
structure LinkFrame where
  kind : Byte
  body : List Byte
deriving DecidableEq, Repr

/-- What the transmitter is sending (R177): a notice, or a reply, marked when it is the OK reply of an RSET (R182). -/
inductive Sending where
  | notice (frame : LinkFrame)
  | reply (frame : LinkFrame) (resets : Bool)
deriving DecidableEq, Repr

/-- The Command Link (chapter 11). -/
structure Link where
  rx : LinkRx
  holding : List HeldRequest
  /-- The replies composed and waiting for the transmitter, oldest first, each marked when it is an RSET's OK. -/
  replies : List (LinkFrame × Bool)
  tx : Option Sending
  /-- An RSET has been taken: no further request is taken (R182). -/
  resetTaken : Bool
  /-- The link rate code in force. -/
  rateCode : Nat
deriving DecidableEq, Repr

/-! ## The whole part -/

/-- The part's state: one field for each block, the model's draw counter (log entry 3), and the commands waiting. -/
structure State where
  pxr : Receiver
  phc : Photometric
  rme : Remap
  mtu : Metering
  lpc : Lamps
  csq : Sequencer
  ofq : Output
  pfs : Store
  hpb : Probe
  cdu : Conditions
  cml : Link
  /-- THE MODEL'S OWN: draws of free values made so far. -/
  draws : Nat
  /-- The commands waiting, first in, first out. -/
  pending : List Instr
deriving DecidableEq, Repr

/-- The reasons a run can stop with a fault: none. The spec names no behaviour that stops the part, and every command has an
effect, or nothing to act on, in every state (log entry 1); nothing raises a fault. -/
inductive Fault where
deriving DecidableEq, Repr

/-- The reasons a command can be refused. -/
inductive Refusal where
  /-- The command has no meaning yet. No arm of `exec` raises it: every command is modelled. Safe: the run stops. -/
  | notModelled (mnemonic : String)
deriving DecidableEq, Repr

/-! ## The state right after a full reset -/

/-- Results cleared: UNMEASURED (R60). -/
def ZoneResult.cleared : ZoneResult :=
  { mean := 0, clip := 0, level := .unmeasured, glare := false, measured := none }

/-- The whole frame's tiles, bound to `bank`, with R61's thresholds, disabled. -/
def ZoneDef.default (bank : Bank) : ZoneDef :=
  { enabled := false, col0 := 0, col1 := 19, row0 := 0, row1 := 15, bank := bank, low := 1400, high := 1800, glareLimit := 16 }

/-- A zone entry after a full reset (R61). -/
def Zone.default (bank : Bank) : Zone :=
  { defn := ZoneDef.default bank, result := ZoneResult.cleared, revised := false }

/-- The zone table after a full reset (R61). -/
def defaultZones : Vector Zone 8 :=
  #v[Zone.default .flood, Zone.default .beam, Zone.default .flood, Zone.default .flood,
     Zone.default .flood, Zone.default .flood, Zone.default .flood, Zone.default .flood]

/-- An EMPTY linear buffer; that it holds no rows is the model's choice (log entry 23). -/
def LinearBuffer.blank : LinearBuffer := { content := .empty, rows := [], releaseMarked := false }

/-- A FREE accumulator; that its planes hold nothing is the model's choice (log entry 23). -/
def Accumulator.blank : Accumulator := { state := .free, folded := 0, sum := [], pendingPlane := [] }

/-- A FREE output slot. R120 says only that it holds nothing of use: the blank number, kind, header parts and pixels, at reset and
when a slot is freed, are the model's choice (DESIGN CHOICE, log entry 23). -/
def Slot.blank : Slot :=
  { state := .free, number := 0, kind := .stream, form := none, values := none, pixels := [] }

/-- A bank's settings after a full reset, steering from zone `z` (R76). -/
def BankLamp.default (z : Fin 8) : BankLamp :=
  { mode := .auto, level := 256, min := 16, max := 1023, expo := 2000, target := 1600, steer := some z, lastLit := none }

/-- The plain map of R144 for an output size of `w` by `h`, node row by node row. -/
def plainMap (w h : Nat) : List (Int × Int) :=
  (List.range (h / 16 + 1)).flatMap fun j =>
    (List.range (w / 16 + 1)).map fun i =>
      (((i * 327680 + w / 2) / w : Nat), ((j * 262144 + h / 2) / h : Nat))

/-- The working set's defaults (R139). -/
def WorkingSet.default : WorkingSet :=
  { content :=
      { profileId := 0, head := none, width := 1024, height := 768, label := List.replicate 16 0,
        mesh := plainMap 1024 768, gainF := List.replicate Config.gainEntries 4096, beam := none, tone := none },
    source := none, modified := false }

/-- A store slot with every byte erased and no mark. -/
def StoreSlot.blank : StoreSlot := { bytes := [], protectMark := false, workMark := false }

/-- An EMPTY, unprotected directory record. -/
def DirRecord.blank : DirRecord := { state := .empty, guarded := false, header := none, check := none }

/-- The part right after a full reset, with a store in which every byte is erased (log entry 2), so that every field of the
startup record takes its default (R156). The directory is blank until the start-up scan sets it. The transmitter is idle, with no
reply waiting and no RSET taken (DESIGN CHOICE, log entry 39): R175 gives only the receiver and the holding area. -/
def State.reset : State :=
  { pxr := { state := .off, lineNumber := 0, openLine := [], patched := 0, received := 0, leading := 0, lastLine := none,
             readoutTimer := none, exposureTimer := none, align := .high, depth := .twelve, readoutTimeout := 50000,
             patchLimit := 16 },
    phc := { blackMode := .auto, black := 64, darkEvery := 30, lastDark := none, darkSum := none,
             lin0 := LinearBuffer.blank, lin1 := LinearBuffer.blank, accF := Accumulator.blank, accB := Accumulator.blank,
             finalise := none },
    rme := { job := none, fill := 0 },
    mtu := { zones := defaultZones, clipLevel := 4032, measurement := none },
    lpc := { flood := BankLamp.default 0, beam := BankLamp.default 1, deadband := 64, ceiling := 2000000,
             derateStart := 140, cutoffAt := 170, startupCeiling := 2000000, temperature := none, cutoff := false,
             steering := defaultZones, lit := none },
    csq := { state := .starting, streamRequested := false, requestedRecipe := none, intervalTimer := none,
             darkCounter := 0, nextExposure := 0, exposure := none, lastEnded := none, frame := none, awaiting := [],
             queue := [], active := none, later := [], switchTarget := none, nextTarget := none, loadHalt := false,
             scanDone := false, loadChosen := false, autostart := none, interval := 40000, paced := false,
             autoswitch := true },
    ofq := { slots := #v[Slot.blank, Slot.blank, Slot.blank, Slot.blank], readyOrder := [], frameCounter := 0,
             send := none, periodTimer := none, policy := .keepNew, sendMode := .onDemand, sendPeriod := 40000,
             streamFormat := .toned8 },
    pfs := { ws := WorkingSet.default, slots := Vector.replicate 8 StoreSlot.blank,
             directory := Vector.replicate 8 DirRecord.blank, op := none, lastResult := .none, standby := none,
             boot := Vector.replicate 8 (Config.erasedByte, Config.erasedByte) },
    hpb := { conv := .convertingId, nextKind := .temp, forceHeld := false, periodTimer := 50, latestId := none,
             latestClass := none, candidate := none, adopted := none, lastHead := none, latestTemp := none,
             temperature := none, probePeriod := 50 },
    cdu := { live := 0x8010, latches := 0, riseEn := 0xFFFF, fallEn := 0x0001, noticeEn := true, noticePending := false },
    cml := { rx := .hunt, holding := [], replies := [], tx := none, resetTaken := false, rateCode := 0 },
    draws := 0,
    pending := [] }

end Sys2Proof.Machine
end

