-- ==== Sys2Proof/Machine/Blocks.lean ====
section
/-! DEFINITION. One update of the state for each block: every operation changes a block through these, so that what an
operation leaves alone is read off its text. Their lemmas are in Laws/State.lean. -/

namespace Sys2Proof.Machine

/-- The state with `b` as the Pixel Receiver. -/
def State.setPxr (s : State) (b : Receiver) : State := { s with pxr := b }

/-- The state with `b` as the Photometric Corrector. -/
def State.setPhc (s : State) (b : Photometric) : State := { s with phc := b }

/-- The state with `b` as the Remap Engine. -/
def State.setRme (s : State) (b : Remap) : State := { s with rme := b }

/-- The state with `b` as the Metering Unit. -/
def State.setMtu (s : State) (b : Metering) : State := { s with mtu := b }

/-- The state with `b` as the Lamp Controller. -/
def State.setLpc (s : State) (b : Lamps) : State := { s with lpc := b }

/-- The state with `b` as the Capture Sequencer. -/
def State.setCsq (s : State) (b : Sequencer) : State := { s with csq := b }

/-- The state with `b` as the Output Queue. -/
def State.setOfq (s : State) (b : Output) : State := { s with ofq := b }

/-- The state with `b` as the Profile Store. -/
def State.setPfs (s : State) (b : Store) : State := { s with pfs := b }

/-- The state with `b` as the Head Probe. -/
def State.setHpb (s : State) (b : Probe) : State := { s with hpb := b }

/-- The state with `b` as the Condition Unit. -/
def State.setCdu (s : State) (b : Conditions) : State := { s with cdu := b }

/-- The state with `b` as the Command Link. -/
def State.setCml (s : State) (b : Link) : State := { s with cml := b }

/-- One more draw of free values has been made. -/
def State.draw (s : State) : State := { s with draws := s.draws + 1 }

/-- The state with `q` as the commands waiting. -/
def State.setPending (s : State) (q : List Instr) : State := { s with pending := q }

end Sys2Proof.Machine
end

