-- ==== Sys2Proof/Machine/Flags.lean ====
section
/-! DEFINITION. The condition sources and what an edge of one does (chapter 10). -/

namespace Sys2Proof.Machine

/-- The sixteen condition sources (R168). -/
inductive Source where
  | headPresent
  | headChanged
  | tempDerate
  | lampCutoff
  | tempFault
  | zoneOut
  | glare
  | underlit
  | sensorFault
  | frameDropped
  | stillDone
  | stillFailed
  | storeDone
  | storeFailed
  | linkError
  | startupDefaulted
deriving DecidableEq, Repr

/-- The number of a source, which is its bit in the live set, the latch set and the masks (R168). -/
def Source.number : Source → Nat
  | .headPresent => 0
  | .headChanged => 1
  | .tempDerate => 2
  | .lampCutoff => 3
  | .tempFault => 4
  | .zoneOut => 5
  | .glare => 6
  | .underlit => 7
  | .sensorFault => 8
  | .frameDropped => 9
  | .stillDone => 10
  | .stillFailed => 11
  | .storeDone => 12
  | .storeFailed => 13
  | .linkError => 14
  | .startupDefaulted => 15

/-- The mask with source `n`'s bit alone. -/
def sourceBit (n : Nat) : Word16 := 1#16 <<< n

/-- `mask` with source `n`'s bit at `v`. -/
def withSourceBit (mask : Word16) (n : Nat) (v : Bool) : Word16 :=
  if v then mask ||| sourceBit n else mask &&& ~~~(sourceBit n)

/-- An edge of `src`, judged by the mask `en` of its direction: an enabled edge sets the latch, and a latch that was clear
makes a notice pending when NOTICE_EN is on (R169, R171). -/
def Conditions.edge (c : Conditions) (en : Word16) (src : Source) : Conditions :=
  if en.getLsbD src.number then
    if c.latches.getLsbD src.number then c
    else { c with latches := withSourceBit c.latches src.number true, noticePending := c.noticePending || c.noticeEn }
  else c

/-- An event source is raised: one rising edge (R168). -/
def Conditions.raise (c : Conditions) (src : Source) : Conditions := c.edge c.riseEn src

/-- The owner of a level source reports the value `v`: a value that differs from the recorded one is an edge (R168). -/
def Conditions.report (c : Conditions) (src : Source) (v : Bool) : Conditions :=
  if c.live.getLsbD src.number = v then c
  else
    let c' := { c with live := withSourceBit c.live src.number v }
    c'.edge (if v then c'.riseEn else c'.fallEn) src

/-- Raise an event source (R168). -/
def raise (src : Source) (s : State) : State := s.setCdu (s.cdu.raise src)

/-- Report a level source's live value (R168). -/
def report (src : Source) (v : Bool) (s : State) : State := s.setCdu (s.cdu.report src v)

end Sys2Proof.Machine
end

