-- ==== Sys2Proof/Machine/Operands.lean ====
section
/-! DEFINITION. The operand forms of the link: bytes and multi-byte fields, status codes, request kinds and body lengths,
and the parameters with their codes (chapter 11). -/

namespace Sys2Proof.Machine

/-! ## Bytes and multi-byte fields -/

/-- A number as one byte. -/
def byte (n : Nat) : Byte := BitVec.ofNat 8 n

/-- A flag as one byte: 1 when set. -/
def flagByte (v : Bool) : Byte := if v then 1 else 0

/-- A number as two bytes, lowest first (R174). -/
def le16 (n : Nat) : List Byte := [byte n, byte (n / 256)]

/-- A number as four bytes, lowest first (R174). -/
def le32 (n : Nat) : List Byte := [byte n, byte (n / 256), byte (n / 65536), byte (n / 16777216)]

/-- A signed number as two bytes in two's complement, lowest first. -/
def le16s (v : Int) : List Byte := le16 (BitVec.ofInt 16 v).toNat

/-- A signed number as four bytes in two's complement, lowest first (R181). -/
def le32s (v : Int) : List Byte := le32 (BitVec.ofInt 32 v).toNat

/-- The number of a run of bytes, lowest first. -/
def fromLe : List Byte → Nat
  | [] => 0
  | b :: bs => b.toNat + 256 * fromLe bs

/-- The signed 16-bit number of two bytes, lowest first. -/
def fromLe16s (bs : List Byte) : Int := (BitVec.ofNat 16 (fromLe bs)).toInt

/-- The signed 32-bit number of four bytes, lowest first (R181). -/
def fromLe32s (bs : List Byte) : Int := (BitVec.ofNat 32 (fromLe bs)).toInt

/-- The bytes of a 32-bit value, lowest first. -/
def word32Bytes (v : Word32) : List Byte := le32 v.toNat

/-- `bs` cut into chunks of `n` bytes, for tables whose entries take `n` bytes; `fuel` bounds their number. -/
def chunks (n : Nat) : Nat → List Byte → List (List Byte)
  | 0, _ => []
  | fuel + 1, bs => if bs.isEmpty then [] else bs.take n :: chunks n fuel (bs.drop n)

/-- The temperature as STAT, HPRB and the frame header give it: −32768 when invalid. -/
def temperatureField (t : Option Int) : List Byte := le16s (t.getD (-32768))

/-! ## Clamping -/

/-- `v` clamped to `lo..hi` (00_scope, Arithmetic). -/
def clampInt (lo hi v : Int) : Int := if v < lo then lo else if hi < v then hi else v

/-- A signed value clamped to `lo..hi`, as a magnitude. -/
def clampNat (lo hi : Nat) (v : Int) : Nat := (clampInt lo hi v).toNat

/-! ## Status codes (R176) -/

/-- The status codes of replies. -/
inductive Status where
  | ok
  | okClamped
  | accepted
  | badKind
  | badLength
  | badParam
  | badState
  | busy
  | guarded
  | noBank
  | duplicate
  | tooLate
  | full
  | notFound
  | corrupt
deriving DecidableEq, Repr

/-- The code of a status (R176). PROTECTED is `guarded`. -/
def Status.code : Status → Byte
  | .ok => 0x00
  | .okClamped => 0x01
  | .accepted => 0x02
  | .badKind => 0x10
  | .badLength => 0x11
  | .badParam => 0x12
  | .badState => 0x13
  | .busy => 0x14
  | .guarded => 0x15
  | .noBank => 0x16
  | .duplicate => 0x17
  | .tooLate => 0x18
  | .full => 0x19
  | .notFound => 0x1A
  | .corrupt => 0x1B

/-- What a request's owner answers: the status and the reply data after it. -/
structure Response where
  status : Status
  data : List Byte
deriving DecidableEq, Repr

/-- An owner's answer with the state after it. -/
abbrev Answer := Response × State

/-- A refusal: nothing follows the status, and nothing changes (R176). -/
def refuse (st : Status) (s : State) : Answer := (⟨st, []⟩, s)

/-- OK with reply data. -/
def accept (data : List Byte) (s : State) : Answer := (⟨.ok, data⟩, s)

/-- OK, or OK_CLAMPED when the stored value is not the value sent, with the value as stored (R181). -/
def answerStored (sent stored : Int) (s : State) : Answer :=
  (⟨if stored = sent then .ok else .okClamped, le32s stored⟩, s)

/-! ## Parameters (R181) -/

/-- The parameters. -/
inductive Param where
  | align
  | depth
  | readoutTimeout
  | patchLimit
  | blackMode
  | blackLevel
  | darkEvery
  | clipLevel
  | fill
  | mode
  | level
  | min
  | max
  | expo
  | target
  | steer
  | deadband
  | ceiling
  | derateStart
  | cutoff
  | interval
  | paced
  | autoswitch
  | policy
  | sendMode
  | sendPeriod
  | streamFormat
  | riseEn
  | fallEn
  | noticeEn
  | probePeriod
  | profileId
  | headBind
  | bankSet
  | outWidth
  | outHeight
  | hasTone
  | label
deriving DecidableEq, Repr

/-- The parameter of a code (R181). -/
def Param.ofCode (code : Byte) : Option Param :=
  match code.toNat with
  | 0x00 => some .align
  | 0x01 => some .depth
  | 0x02 => some .readoutTimeout
  | 0x03 => some .patchLimit
  | 0x08 => some .blackMode
  | 0x09 => some .blackLevel
  | 0x0A => some .darkEvery
  | 0x0C => some .clipLevel
  | 0x0D => some .fill
  | 0x10 => some .mode
  | 0x11 => some .level
  | 0x12 => some .min
  | 0x13 => some .max
  | 0x14 => some .expo
  | 0x15 => some .target
  | 0x16 => some .steer
  | 0x18 => some .deadband
  | 0x19 => some .ceiling
  | 0x1A => some .derateStart
  | 0x1B => some .cutoff
  | 0x20 => some .interval
  | 0x21 => some .paced
  | 0x22 => some .autoswitch
  | 0x28 => some .policy
  | 0x29 => some .sendMode
  | 0x2A => some .sendPeriod
  | 0x2B => some .streamFormat
  | 0x30 => some .riseEn
  | 0x31 => some .fallEn
  | 0x32 => some .noticeEn
  | 0x38 => some .probePeriod
  | 0x40 => some .profileId
  | 0x41 => some .headBind
  | 0x42 => some .bankSet
  | 0x43 => some .outWidth
  | 0x44 => some .outHeight
  | 0x45 => some .hasTone
  | 0x46 => some .label
  | _ => none

/-- The code of a parameter (R181). -/
def Param.code : Param → Nat
  | .align => 0x00
  | .depth => 0x01
  | .readoutTimeout => 0x02
  | .patchLimit => 0x03
  | .blackMode => 0x08
  | .blackLevel => 0x09
  | .darkEvery => 0x0A
  | .clipLevel => 0x0C
  | .fill => 0x0D
  | .mode => 0x10
  | .level => 0x11
  | .min => 0x12
  | .max => 0x13
  | .expo => 0x14
  | .target => 0x15
  | .steer => 0x16
  | .deadband => 0x18
  | .ceiling => 0x19
  | .derateStart => 0x1A
  | .cutoff => 0x1B
  | .interval => 0x20
  | .paced => 0x21
  | .autoswitch => 0x22
  | .policy => 0x28
  | .sendMode => 0x29
  | .sendPeriod => 0x2A
  | .streamFormat => 0x2B
  | .riseEn => 0x30
  | .fallEn => 0x31
  | .noticeEn => 0x32
  | .probePeriod => 0x38
  | .profileId => 0x40
  | .headBind => 0x41
  | .bankSet => 0x42
  | .outWidth => 0x43
  | .outHeight => 0x44
  | .hasTone => 0x45
  | .label => 0x46

/-- Whether a parameter is held for each bank (R181). -/
def Param.perBank : Param → Bool
  | .mode | .level | .min | .max | .expo | .target | .steer => true
  | _ => false

/-- Whether a parameter accepts SET and CLEAR beside WRITE (R170, R181). -/
def Param.isMask : Param → Bool
  | .riseEn | .fallEn => true
  | _ => false

/-- The update styles of PSET (R181). -/
inductive UpdateStyle where
  | write
  | set
  | clear
deriving DecidableEq, Repr

/-- The update style of a style byte. -/
def UpdateStyle.ofByte (b : Byte) : Option UpdateStyle :=
  match b.toNat with
  | 0 => some .write
  | 1 => some .set
  | 2 => some .clear
  | _ => none

/-- The bank of a bank byte (R181). -/
def bankOfByte (b : Byte) : Option Bank :=
  match b.toNat with
  | 0 => some .flood
  | 1 => some .beam
  | _ => none

/-- The slot or zone of a number below `n`. -/
def finOf (n k : Nat) : Option (Fin n) := if h : k < n then some ⟨k, h⟩ else none

/-- The code of a recipe in SGO, STIL, STAT and the frame header (R134). -/
def Recipe.code : Recipe → Nat
  | .flood => 1
  | .beam => 2
  | .fuse => 3

/-- The recipe of a code 1..3. -/
def recipeOf (n : Nat) : Option Recipe :=
  match n with
  | 1 => some .flood
  | 2 => some .beam
  | 3 => some .fuse
  | _ => none

/-- The code of a bank: 0 F, 1 B. -/
def bankCode : Bank → Nat
  | .flood => 0
  | .beam => 1

/-- A head code as it is coded: 255 for unbound. -/
def headByte (h : Option Nat) : Byte := byte (h.getD 255)

/-! ## Request kinds and body lengths (R176, the request index) -/

/-- The kinds of the request index. -/
def requestKinds : List Nat :=
  [0x01, 0x02, 0x03, 0x04, 0x05, 0x10, 0x11, 0x12, 0x13, 0x14, 0x15, 0x20, 0x21, 0x22, 0x23, 0x24, 0x25, 0x26, 0x27,
   0x28, 0x29, 0x30, 0x3F]

/-- Whether KIND is in the request index (R176). -/
def knownKind (kind : Byte) : Bool := requestKinds.contains kind.toNat

/-- The KIND of the reply to a request of kind `kind` (R176). -/
def replyKind (kind : Byte) : Byte := if kind.toNat < 0x80 then byte (kind.toNat + 0x80) else kind

/-- The requests that are answered while start-up runs: IDNT, STAT and PGET (R176). -/
def startUpKind (kind : Byte) : Bool := kind.toNat = 0x01 || kind.toNat = 0x02 || kind.toNat = 0x03

/-- The bytes of one entry of a table code in TWRT; 1 for a code that names no table. -/
def entryBytes (table : Nat) : Nat :=
  if table = 0 then 4 else if table = 1 ∨ table = 2 ∨ table = 3 then 2 else 1

/-- Whether a parameter code names a parameter (R181). -/
def knownParam (code : Byte) : Bool := (Param.ofCode code).isSome

/-- Whether a PSET's value has the width of its parameter: 16 bytes for LABEL, four for every other (R181). -/
def psetWidthOk (code : Byte) (width : Nat) : Bool := if Param.ofCode code = some .label then width = 16 else width = 4

/-- Whether a PSET body has an allowed length: code, bank and style, then 4 or 16 bytes. Whether the width of another
parameter is a length error is a free value (log entry 4). -/
def psetLengthOk (body : List Byte) : Bool :=
  match body with
  | code :: _ :: _ :: value =>
    (value.length = 4 || value.length = 16) &&
      (!(knownParam code) || psetWidthOk code value.length || !Config.psetWidthIsLength)
  | _ => false

/-- Whether the BODY length is one the kind allows (R176, the request index). -/
def lengthOk (q : Request) : Bool :=
  let n := q.body.length
  match q.kind.toNat with
  | 0x01 => n = 0
  | 0x02 => n = 1
  | 0x03 => n = 2
  | 0x04 => psetLengthOk q.body
  | 0x05 => n = 0
  | 0x10 => n = 1
  | 0x11 => n = 0
  | 0x12 => n = 15
  | 0x13 => n = 1
  | 0x14 => n = 13
  | 0x15 => n = 1
  | 0x20 => 3 ≤ n && (n - 3) % entryBytes (q.body.headD 0).toNat = 0
  | 0x21 => n = 5
  | 0x22 => n = 1
  | 0x23 => n = 1
  | 0x24 => n = 1
  | 0x25 => n = 0
  | 0x26 => n = 1
  | 0x27 => n = 1
  | 0x28 => n = 8
  | 0x29 => n = 0
  | 0x30 => n = 1
  | 0x3F => n = 0
  | _ => false

end Sys2Proof.Machine
end

