-- ==== Sys2Proof/Machine/Photometric.lean ====
section
/-! DEFINITION. The Photometric Corrector's arithmetic, and what a line, an end mark, a release, a fold and finalise do to
the linear buffers and the accumulators (chapter 02). -/

namespace Sys2Proof.Machine

/-! ## Pixel arithmetic -/

/-- The field and value of a pixel word under ALIGN and DEPTH (R8). -/
def extractPixel (a : Align) (d : Depth) (w : Word16) : Nat :=
  match a, d with
  | .high, .twelve => (w.extractLsb' 4 12).toNat
  | .low, .twelve => (w.extractLsb' 0 12).toNat
  | .high, .ten => (w.extractLsb' 6 10).toNat * 4
  | .low, .ten => (w.extractLsb' 0 10).toNat * 4

/-- The black-subtracted value s = p − b, signed (R23). -/
def subtractBlack (p b : Nat) : Int := (p : Int) - (b : Int)

/-- The black-subtracted value clamped to 0..4095 (R23). -/
def subtractBlackClamped (p b : Nat) : Nat := clampNat 0 4095 (subtractBlack p b)

/-- The value of a tile-grid table at pixel (x, y), interpolated over its 21 by 17 nodes and rounded (R24, R25). -/
def nodeValue (table : List Nat) (x y : Nat) : Nat :=
  let i := x / 64
  let j := y / 64
  let fx := x % 64
  let fy := y % 64
  let node (a b : Nat) : Nat := table.getD (21 * b + a) 0
  ((64 - fx) * (64 - fy) * node i j + fx * (64 - fy) * node (i + 1) j + (64 - fx) * fy * node i (j + 1)
    + fx * fy * node (i + 1) (j + 1) + 2048) / 4096

/-- The corrected value of a clamped or stacked value s under gain g (R26). -/
def correctedValue (s g : Nat) : Nat := min ((s * g + 2048) / 4096) 16383

/-- The FUSE blend of cF and cB under weight w (R27). -/
def fuseBlend (w cF cB : Nat) : Nat := (w * cF + (256 - w) * cB + 128) / 256

/-- The gain map of a bank (R24); empty for bank B when the bank set is F. -/
def gainTable (c : Content) : Bank → List Nat
  | .flood => c.gainF
  | .beam => (c.beam.map BeamTables.gainB).getD []

/-- The WEIGHT table (R25); empty when the bank set is F. -/
def weightTable (c : Content) : List Nat := (c.beam.map BeamTables.weight).getD []

/-- Row `y` of an exposure of bank `bank` corrected: black subtraction, clamp and gain of every pixel (R23, R24, R26). -/
def correctRow (c : Content) (bank : Bank) (black y : Nat) (row : List Nat) : List Nat :=
  row.mapIdx fun x p => correctedValue (subtractBlackClamped p black) (nodeValue (gainTable c bank) x y)

/-- Row `y` blended from the cF row held and the cB row that has come (R25, R27). -/
def blendRow (c : Content) (y : Nat) (rowF rowB : List Nat) : List Nat :=
  (rowF.zip rowB).mapIdx fun x cs => fuseBlend (nodeValue (weightTable c) x y) cs.1 cs.2

/-- The sum of the dark window's columns 128..1151 of a row (R21). -/
def darkRowSum (row : List Nat) : Nat := ((row.drop 128).take 1024).sum

/-- The mean of the dark window from its sum (R21). -/
def darkMean (sum : Nat) : Nat := (sum + 131072) / 262144

/-- `row` written as row `y`: rows come in ascending order, so a row is appended or replaces one already held (R30). -/
def putRow {α : Type} (rows : List (List α)) (y : Nat) (row : List α) : List (List α) :=
  if y < rows.length then rows.set y row else rows ++ [row]

/-! ## Linear buffers -/

/-- A linear buffer by its name. -/
def Photometric.lin (p : Photometric) : LinId → LinearBuffer
  | .lin0 => p.lin0
  | .lin1 => p.lin1

/-- A linear buffer replaced. -/
def Photometric.setLin (p : Photometric) (id : LinId) (b : LinearBuffer) : Photometric :=
  match id with
  | .lin0 => { p with lin0 := b }
  | .lin1 => { p with lin1 := b }

/-- The EMPTY buffer a new user takes, LIN0 when both are (R98, R111). -/
def Photometric.emptyLin (p : Photometric) : Option LinId :=
  if p.lin0.content = .empty then some .lin0 else if p.lin1.content = .empty then some .lin1 else none

/-- A buffer released (R32): a HALF or WHOLE one is EMPTY at once, a WRITING one is marked. -/
def LinearBuffer.release (b : LinearBuffer) : LinearBuffer :=
  match b.content with
  | .writing => { b with releaseMarked := true }
  | _ => LinearBuffer.blank

/-- Release a linear buffer (R32). -/
def releaseBuffer (id : LinId) (s : State) : State := s.setPhc (s.phc.setLin id (s.phc.lin id).release)

/-- A buffer at a stream trigger in a role (R29): WRITING; SINGLE and FIRST write it from its first row, SECOND keeps the cF
values it holds. -/
def LinearBuffer.assign (b : LinearBuffer) (role : Role) : LinearBuffer :=
  { content := .writing, rows := if role = .second then b.rows else [], releaseMarked := false }

/-- A line of a stream exposure in a role written into its buffer (R30); a buffer marked for release takes none (R32). -/
def LinearBuffer.takeRow (b : LinearBuffer) (c : Content) (role : Role) (bank : Bank) (black y : Nat) (row : List Nat) :
    LinearBuffer :=
  if b.releaseMarked then b
  else
    let cRow := correctRow c bank black y row
    match role with
    | .second => { b with rows := putRow b.rows y (blendRow c y (b.rows.getD y []) cRow) }
    | _ => { b with rows := putRow b.rows y cRow }

/-- A buffer at the end mark of its stream exposure (R31, R32). -/
def LinearBuffer.endMark (b : LinearBuffer) (role : Role) (completed : Bool) : LinearBuffer :=
  if b.releaseMarked || !completed then LinearBuffer.blank
  else match role with
    | .first => { b with content := .half }
    | _ => { b with content := .whole }

/-! ## Accumulators -/

/-- The accumulator of a bank. -/
def Photometric.acc (p : Photometric) : Bank → Accumulator
  | .flood => p.accF
  | .beam => p.accB

/-- A bank's accumulator replaced. -/
def Photometric.setAcc (p : Photometric) (bank : Bank) (a : Accumulator) : Photometric :=
  match bank with
  | .flood => { p with accF := a }
  | .beam => { p with accB := a }

/-- An accumulator claimed at a still's start (R33). -/
def Accumulator.claimed : Accumulator := { state := .opened, folded := 0, sum := [], pendingPlane := [] }

/-- An accumulator at the trigger of an exposure of its bank (R33). -/
def Accumulator.receive (a : Accumulator) : Accumulator := { a with state := .receiving, pendingPlane := [] }

/-- A line of a still exposure written into the pending plane (R34); a DISCARDING accumulator drops it. -/
def Accumulator.takeRow (a : Accumulator) (black y : Nat) (row : List Nat) : Accumulator :=
  if a.state = .receiving then
    { a with pendingPlane := putRow a.pendingPlane y (row.map fun p => subtractBlack p black) }
  else a

/-- An accumulator at the end mark of a still exposure (R35). -/
def Accumulator.endMark (a : Accumulator) (completed : Bool) : Accumulator :=
  match a.state with
  | .receiving =>
    if completed then { a with state := .folding } else { a with state := .opened, pendingPlane := [] }
  | .discarding => Accumulator.blank
  | _ => a

/-- The fold's sum plane: the pending plane for the first fold, and the sums pixel by pixel for a later one (R35). -/
def foldPlane (folded : Nat) (sum pendingPlane : List (List Int)) : List (List Int) :=
  if folded = 0 then pendingPlane else List.zipWith (List.zipWith (· + ·)) sum pendingPlane

/-- An accumulator at the completion of its fold (R35). -/
def Accumulator.foldDone (a : Accumulator) : Accumulator :=
  { state := .opened, folded := a.folded + 1, sum := foldPlane a.folded a.sum a.pendingPlane, pendingPlane := [] }

/-- An accumulator released (R36). -/
def Accumulator.release (a : Accumulator) : Accumulator :=
  match a.state with
  | .opened => Accumulator.blank
  | .receiving => { a with state := .discarding }
  | .folding => Accumulator.blank
  | _ => a

/-- Release both accumulators (R36). -/
def releaseAccumulators (s : State) : State :=
  s.setPhc { s.phc with accF := s.phc.accF.release, accB := s.phc.accB.release }

/-! ## Finalise -/

/-- The stacked value of a sum over N exposures, rounded and clamped to 0..4095 (R38). -/
def stackedValue (sum : Int) (n : Nat) : Nat := clampNat 0 4095 ((sum + ((n / 2 : Nat) : Int)) / (n : Int))

/-- A sum plane's value at (x, y). A plane with no fold counts as all zeros (R33). -/
def planeAt (plane : List (List Int)) (x y : Nat) : Int := (plane.getD y []).getD x 0

/-- Bank X's corrected value at finalise (R38): the stacked value under BYPASS, gained and clamped under APPLY. -/
def finaliseBank (c : Content) (m : PhotoMode) (bank : Bank) (n : Nat) (a : Accumulator) (x y : Nat) : Nat :=
  let r := stackedValue (planeAt a.sum x y) n
  match m with
  | .bypass => r
  | .apply => correctedValue r (nodeValue (gainTable c bank) x y)

/-- The linear value finalise writes at (x, y) (R38, R27). -/
def finalisePixel (c : Content) (j : FinaliseJob) (accF accB : Accumulator) (x y : Nat) : Nat :=
  match j.recipe with
  | .flood => finaliseBank c j.photometric .flood j.depth accF x y
  | .beam => finaliseBank c j.photometric .beam j.depth accB x y
  | .fuse =>
    fuseBlend (nodeValue (weightTable c) x y) (finaliseBank c j.photometric .flood j.depth accF x y)
      (finaliseBank c j.photometric .beam j.depth accB x y)

/-- The whole linear frame finalise writes, row by row (R38). -/
def finaliseRows (c : Content) (j : FinaliseJob) (accF accB : Accumulator) : List (List Nat) :=
  (List.range Config.sensorHeight).map fun y =>
    (List.range Config.sensorWidth).map fun x => finalisePixel c j accF accB x y

/-! ## Lines and end marks -/

/-- The corrector takes a line of the exposure of record `r` (R21, R30, R34). -/
def photometricLine (r : ExposureRecord) (y : Nat) (row : List Nat) (s : State) : State :=
  match r.kind, r.purpose, r.assigned with
  | .dark, _, _ =>
    if 384 ≤ y ∧ y ≤ 639 then
      s.setPhc { s.phc with darkSum := s.phc.darkSum.map (· + darkRowSum row) }
    else s
  | .lit bank, .still _, _ => s.setPhc (s.phc.setAcc bank ((s.phc.acc bank).takeRow r.black y row))
  | .lit bank, _, some (role, id) =>
    s.setPhc (s.phc.setLin id ((s.phc.lin id).takeRow s.pfs.ws.content role bank r.black y row))
  | .lit _, _, none => s

/-- The corrector at a dark exposure's end mark (R21, R22). -/
def Photometric.darkEnd (p : Photometric) (number : Word32) (completed : Bool) : Photometric :=
  if completed then
    let m := darkMean (p.darkSum.getD 0)
    { p with darkSum := none, lastDark := some { mean := m, number := number },
             black := if p.blackMode = .auto then min m 1023 else p.black }
  else { p with darkSum := none }

/-- The corrector takes the end mark of the exposure of record `r` (R21, R31, R35). -/
def photometricEnd (r : ExposureRecord) (completed : Bool) (s : State) : State :=
  match r.kind, r.purpose, r.assigned with
  | .dark, _, _ => s.setPhc (s.phc.darkEnd r.number completed)
  | .lit bank, .still _, _ => s.setPhc (s.phc.setAcc bank ((s.phc.acc bank).endMark completed))
  | .lit _, _, some (role, id) => s.setPhc (s.phc.setLin id ((s.phc.lin id).endMark role completed))
  | .lit _, _, none => s

end Sys2Proof.Machine
end

