-- ==== Sys2Proof/Machine/Metering.lean ====
section
/-! DEFINITION. The Metering Unit's measurement of a stream exposure and the zones it feeds (chapter 04). -/

namespace Sys2Proof.Machine

/-- A zone's pixel count n (R60). -/
def ZoneDef.pixels (d : ZoneDef) : Nat := (d.col1 - d.col0 + 1) * (d.row1 - d.row0 + 1) * 4096

/-- The zones a measurement measures: those enabled and bound to the exposure's bank (R66). -/
def measuredZones (defs : Vector ZoneDef 8) (bank : Bank) : List MeasuredZone :=
  ([0, 1, 2, 3, 4, 5, 6, 7] : List (Fin 8)).filterMap fun i =>
    if defs[i].enabled ∧ defs[i].bank = bank then some { index := i, defn := defs[i], sum := 0, clipped := 0 } else none

/-- A trigger at the Metering Unit: every revised mark is cleared, and a stream exposure of kind F or B opens a measurement
(R66). -/
def Metering.trigger (m : Metering) (number : Word32) (kind : Kind) (purpose : Purpose) : Metering :=
  { m with
    zones := m.zones.map fun z => { z with revised := false },
    measurement :=
      match kind, purpose with
      | .lit bank, .stream =>
        some { number, bank, clipLevel := m.clipLevel, zones := measuredZones (m.zones.map Zone.defn) bank }
      | _, _ => m.measurement }

/-- A zone's columns of a row (R67). -/
def zoneColumns (d : ZoneDef) (row : List Nat) : List Nat := (row.drop (64 * d.col0)).take (64 * (d.col1 - d.col0 + 1))

/-- A measured zone with row `y` taken in (R67). -/
def MeasuredZone.takeRow (z : MeasuredZone) (black clip y : Nat) (row : List Nat) : MeasuredZone :=
  if 64 * z.defn.row0 ≤ y ∧ y ≤ 64 * z.defn.row1 + 63 then
    let cols := zoneColumns z.defn row
    { z with sum := z.sum + (cols.map fun p => subtractBlackClamped p black).sum,
             clipped := z.clipped + cols.countP fun p => clip ≤ p }
  else z

/-- The unit takes a line of the exposure of record `r` (R67). -/
def meteringLine (r : ExposureRecord) (y : Nat) (row : List Nat) (s : State) : State :=
  match s.mtu.measurement with
  | some m =>
    s.setMtu { s.mtu with
      measurement := some { m with zones := m.zones.map fun z => z.takeRow r.black m.clipLevel y row } }
  | none => s

/-- A zone's mean (R68). -/
def MeasuredZone.mean (z : MeasuredZone) : Nat := (z.sum + z.defn.pixels / 2) / z.defn.pixels

/-- A zone's clip fraction, in 1/1024 (R68). -/
def MeasuredZone.clipFraction (z : MeasuredZone) : Nat := (z.clipped * 1024 + z.defn.pixels / 2) / z.defn.pixels

/-- The level state of a mean under a definition's thresholds (R69). -/
def levelState (d : ZoneDef) (mean : Nat) : LevelState :=
  if mean < d.low then .low else if d.high < mean then .high else .inside

/-- The results a measured zone gives at the completed end mark (R68, R69). -/
def MeasuredZone.result (z : MeasuredZone) (number : Word32) : ZoneResult :=
  { mean := z.mean, clip := z.clipFraction, level := levelState z.defn z.mean,
    glare := z.defn.glareLimit < z.clipFraction, measured := some number }

/-- The zone table after a measurement completes: each measured zone not revised since takes its results (R68). -/
def updatedZones (zones : Vector Zone 8) (m : Measurement) : Vector Zone 8 :=
  Vector.ofFn fun i : Fin 8 =>
    match m.zones.find? fun z => z.index = i with
    | some z => if zones[i].revised then zones[i] else { zones[i] with result := z.result m.number }
    | none => zones[i]

/-- ZONE_OUT's live value (R71). -/
def zoneOut (zones : Vector Zone 8) : Bool :=
  zones.any fun z => z.defn.enabled && (z.result.level = .low || z.result.level = .high)

/-- GLARE's live value (R71). -/
def glareSeen (zones : Vector Zone 8) : Bool := zones.any fun z => z.defn.enabled && z.result.glare

/-- The unit reports ZONE_OUT and GLARE (R71). -/
def reportZones (s : State) : State := report .glare (glareSeen s.mtu.zones) (report .zoneOut (zoneOut s.mtu.zones) s)

/-- A ZSET stored: the zone is UNMEASURED, its results cleared and its revised mark set (R64). -/
def Metering.define (m : Metering) (i : Fin 8) (d : ZoneDef) : Metering :=
  { m with zones := m.zones.set i { defn := d, result := ZoneResult.cleared, revised := true } }

/-- The code of a level state (R60). -/
def LevelState.code : LevelState → Nat
  | .unmeasured => 0
  | .inside => 1
  | .low => 2
  | .high => 3

end Sys2Proof.Machine
end

