-- ==== Sys2Proof/Machine/Lamp.lean ====
section
/-! DEFINITION. The Lamp Controller: limits, lighting, the auto-level loop and its condition sources (chapter 05). -/

namespace Sys2Proof.Machine

/-- One bank's settings. -/
def Lamps.bank (l : Lamps) : Bank → BankLamp
  | .flood => l.flood
  | .beam => l.beam

/-- One bank's settings replaced. -/
def Lamps.setBank (l : Lamps) (b : Bank) (x : BankLamp) : Lamps :=
  match b with
  | .flood => { l with flood := x }
  | .beam => { l with beam := x }

/-- The derate limit of a bank (R82). -/
def Lamps.derateLimit (l : Lamps) (b : Bank) : Nat :=
  if l.cutoff then 0
  else match l.temperature with
    | none => (l.bank b).max / 4
    | some t =>
      if t ≤ l.derateStart then (l.bank b).max
      else ((((l.bank b).max : Int) * (l.cutoffAt - t)) / (l.cutoffAt - l.derateStart)).toNat

/-- The effective maximum for an exposure of a bank with exposure time `t` (R83). -/
def Lamps.effectiveMax (l : Lamps) (b : Bank) (t : Nat) : Nat :=
  min (l.bank b).max (min (l.derateLimit b) (l.ceiling / t))

/-- The standing effective maximum of a bank (R83). -/
def Lamps.standingMax (l : Lamps) (b : Bank) : Nat := l.effectiveMax b (l.bank b).expo

/-- Whether a bank meets UNDERLIT's conditions (R91). -/
def Lamps.bankUnderlit (l : Lamps) (b : Bank) : Bool :=
  let x := l.bank b
  x.mode = .auto && l.standingMax b ≤ x.level &&
    match x.steer with
    | some z => l.steering[z].defn.bank = b && l.steering[z].result.level = .low
    | none => false

/-- UNDERLIT's live value (R91). -/
def Lamps.underlit (l : Lamps) : Bool := l.bankUnderlit .flood || l.bankUnderlit .beam

/-- TEMP_DERATE's live value (R92). -/
def Lamps.derating (l : Lamps) : Bool :=
  match l.temperature with
  | some t => l.derateStart < t
  | none => false

/-- The controller reports UNDERLIT (R91). -/
def reportUnderlit (s : State) : State := report .underlit s.lpc.underlit s

/-- The controller reports TEMP_DERATE, TEMP_FAULT and LAMP_CUTOFF, and UNDERLIT (R84, R92). -/
def reportLamps (s : State) : State :=
  reportUnderlit (report .lampCutoff s.lpc.cutoff
    (report .tempFault s.lpc.temperature.isNone (report .tempDerate s.lpc.derating s)))

/-- The cutoff state after an examination (R85). -/
def Lamps.examined (l : Lamps) : Bool :=
  match l.cutoff, l.temperature with
  | false, some t => l.cutoffAt ≤ t
  | false, none => false
  | true, some t => !(t ≤ l.cutoffAt - 10)
  | true, none => true

/-- The lit bank is turned off; a bank already dark is left dark (R87). -/
def lampOff (s : State) : State := s.setLpc { s.lpc with lit := none }

/-- What lighting a bank settles (R86): the used level and the level-clamped flag. -/
def Lamps.used (l : Lamps) (b : Bank) (requested time : Nat) : Nat × Bool :=
  (min requested (l.effectiveMax b time), l.effectiveMax b time < requested)

/-- A bank lit for an exposure (R86). A used level of 0 leaves the enable off and the bank dark. A stream exposure becomes the
bank's last lit. -/
def Lamps.light (l : Lamps) (b : Bank) (number : Word32) (requested time : Nat) (stream : Bool) : Lamps :=
  let used := (l.used b requested time).1
  let l := { l with lit := if used = 0 then none else some (b, used) }
  if stream then l.setBank b { l.bank b with lastLit := some { number, used } } else l

/-- The loop's new level from the used level and the steering zone's mean and glare flag, before it is bounded to MIN..MAX;
`none` leaves the stored level as it stands (R90). -/
def loopLevel (used mean : Nat) (glare : Bool) (target deadband : Nat) : Option Nat :=
  if glare then some (used / 2)
  else if ((mean : Int) - (target : Int)).natAbs ≤ deadband then none
  else if mean = 0 then some (2 * used)
  else some (min (max ((used * target + mean / 2) / mean) (used / 2)) (2 * used))

/-- A level bounded to the bank's MIN..MAX. -/
def boundedLevel (x : BankLamp) (level : Nat) : Nat := min (max level x.min) x.max

/-- The stored level of a bank after the loop is run for the exposure `number` (R89, R90). -/
def Lamps.loopStored (l : Lamps) (b : Bank) (number : Word32) : Nat :=
  let x := l.bank b
  match x.steer, x.lastLit with
  | some z, some lit =>
    let zone := l.steering[z]
    if x.mode = .auto ∧ zone.defn.enabled ∧ zone.defn.bank = b ∧ zone.result.measured = some number ∧
        lit.number = number ∧ 0 < lit.used then
      match loopLevel lit.used zone.result.mean zone.result.glare x.target l.deadband with
      | some n => boundedLevel x n
      | none => x.level
    else x.level
  | _, _ => x.level

/-- The controller takes the zones' results of a completed stream exposure of bank `b`, runs the loop, and reports UNDERLIT
(R89, R91). -/
def takeZones (b : Bank) (number : Word32) (s : State) : State :=
  let l := { s.lpc with steering := s.mtu.zones }
  reportUnderlit (s.setLpc (l.setBank b { l.bank b with level := l.loopStored b number }))

/-- The unit at the completed end mark (R68, R69): zones updated, ZONE_OUT and GLARE reported (R71), the results handed to the
Lamp Controller (R70), and the measurement ended. An exposure with no measurement does nothing here. -/
def meteringCompleted (s : State) : State :=
  match s.mtu.measurement with
  | some m =>
    takeZones m.bank m.number
      (reportZones (s.setMtu { s.mtu with zones := updatedZones s.mtu.zones m, measurement := none }))
  | none => s

/-- The unit at the abandoned end mark: the measurement is discarded whole (R68). -/
def meteringAbandoned (s : State) : State := s.setMtu { s.mtu with measurement := none }

end Sys2Proof.Machine
end

