-- ==== Sys2Proof/Machine/Output.lean ====
section
/-! DEFINITION. The output slots, reservations, the ready order, sends, and the bytes of a frame (chapter 07). -/

namespace Sys2Proof.Machine

/-- The slots in ascending order. -/
def allSlots : List (Fin 4) := [0, 1, 2, 3]

/-- The lowest-numbered FREE slot (R124). -/
def Output.freeSlot (o : Output) : Option (Fin 4) := allSlots.find? fun i => o.slots[i].state = .free

/-- The oldest READY stream frame: the first stream frame of the ready order (R124). -/
def Output.oldestStream (o : Output) : Option (Fin 4) := o.readyOrder.find? fun i => o.slots[i].kind = .stream

/-- A slot reserved for a picture, which is numbered (R123); a slot taken from READY leaves the ready order. -/
def Output.reserve (o : Output) (i : Fin 4) (kind : PictureKind) : Output :=
  { o with
    slots := o.slots.set i { state := .reserved, number := o.frameCounter, kind, form := none, values := none, pixels := [] },
    readyOrder := o.readyOrder.filter (· ≠ i),
    frameCounter := o.frameCounter + 1 }

/-- A slot made FREE. -/
def Output.free (o : Output) (i : Fin 4) : Output := { o with slots := o.slots.set i Slot.blank }

/-- The slot a stream frame's offer takes, and whether a READY stream frame is discarded for it; `none` when the new frame is
discarded (R124). -/
def Output.streamClaim (o : Output) : Option (Fin 4 × Bool) :=
  match o.freeSlot with
  | some i => some (i, false)
  | none =>
    match o.policy with
    | .keepNew => o.oldestStream.map fun i => (i, true)
    | .keepOld => none

/-- The slot a still's start takes, and whether a READY stream frame is discarded for it, whatever POLICY says; `none` when
no slot can be reserved (R125). -/
def Output.stillClaim (o : Output) : Option (Fin 4 × Bool) :=
  match o.freeSlot with
  | some i => some (i, false)
  | none => o.oldestStream.map fun i => (i, true)

/-- Reserve a claimed slot, raising FRAME_DROPPED when a READY stream frame is discarded for it (R124, R125). -/
def reserveSlot (claim : Fin 4 × Bool) (kind : PictureKind) (s : State) : State :=
  let s' := s.setOfq (s.ofq.reserve claim.1 kind)
  if claim.2 then raise .frameDropped s' else s'

/-- A slot given back: FREE, its frame number out of use (R125). -/
def freeSlot (i : Fin 4) (s : State) : State := s.setOfq (s.ofq.free i)

/-- A slot in the ready order at its render's completion: a stream frame last, a still after the last still (R126). -/
def Output.joinReady (o : Output) (i : Fin 4) : List (Fin 4) :=
  match o.slots[i].kind with
  | .stream => o.readyOrder ++ [i]
  | .still _ =>
    (o.readyOrder.filter fun j => o.slots[j].kind ≠ .stream) ++ [i] ++ o.readyOrder.filter fun j => o.slots[j].kind = .stream

/-- A slot's state replaced. -/
def Output.setSlotState (o : Output) (i : Fin 4) (st : SlotState) : Output :=
  { o with slots := o.slots.set i { o.slots[i] with state := st } }

/-- The HELD slot, if any. -/
def Output.heldSlot (o : Output) : Option (Fin 4) := allSlots.find? fun i => o.slots[i].state = .held

/-- The send of a slot begins (R127, R128). -/
def Output.begin (o : Output) (i : Fin 4) (isRepeat : Bool) : Output :=
  { o.setSlotState i .sending with
    readyOrder := o.readyOrder.filter (· ≠ i), send := some { slot := i, isRepeat, taken := 0 } }

/-- The head of the ready order starts to be sent, when the port is idle and there is one. -/
def Output.sendHead (o : Output) : Output :=
  match o.send, o.readyOrder with
  | none, i :: _ => o.begin i false
  | _, _ => o

/-- Whether a stream frame is READY, or SENDING for the first time (R133). -/
def Output.streamWaiting (o : Output) : Bool :=
  allSlots.any fun i =>
    o.slots[i].kind = .stream &&
      (o.slots[i].state = .ready ||
        (o.slots[i].state = .sending && match o.send with
          | some snd => snd.slot = i && !snd.isRepeat
          | none => true))

/-! ## The bytes of a frame -/

/-- A flag's bit. -/
def flagBit (v : Bool) (n : Nat) : Nat := if v then 2 ^ n else 0

/-- The code of a photometric mode. -/
def PhotoMode.code : PhotoMode → Nat
  | .apply => 0
  | .bypass => 1

/-- The code of a pixel format. -/
def PixelFormat.code : PixelFormat → Nat
  | .toned8 => 0
  | .linear16 => 1

/-- The code of a geometry. -/
def Geometry.code : Geometry → Nat
  | .corrected => 0
  | .sensor => 1

/-- The zone-state field: zone k's code at bits 2k and 2k + 1 (R72). -/
def zoneStateField (v : Vector LevelState 8) : Nat :=
  (v.toList.zipIdx.map fun p => p.1.code * 4 ^ p.2).sum

/-- The glare mask: zone k's flag at bit k (R72). -/
def glareField (v : Vector Bool 8) : Nat := (v.toList.zipIdx.map fun p => flagBit p.1 p.2).sum

/-- The 64 header bytes sent for a picture (R134). The repeat flag is that of the send. -/
def headerBytes (number : Word32) (kind : PictureKind) (f : PictureForm) (v : PictureValues) (isRepeat : Bool) :
    List Byte :=
  ([0x4C, 0x56, 0x46, 0x48] : List Byte) ++ word32Bytes number ++
  [(match kind with | .stream => 0 | .still _ => 1),
   byte (flagBit isRepeat 0 + flagBit v.patched 1 + flagBit v.degraded 2 + flagBit v.mismatch 3 + flagBit v.clamped 4
     + flagBit v.strayOpen 5 + flagBit v.longLines 6 + flagBit v.shortLines 7),
   (match kind with | .stream => 0 | .still tag => byte tag), byte v.recipe.code] ++
  le16 f.width ++ le16 f.height ++
  [byte f.format.code, byte f.geometry.code, byte v.depth, byte v.photometric.code] ++
  le16 f.profileId ++ [headByte f.head, byte ((f.source.map Fin.val).getD 255)] ++
  temperatureField v.temperature ++ le16 v.black ++ le16 v.timeF ++ le16 v.timeB ++ le16 v.levelF ++ le16 v.levelB ++
  le16 (zoneStateField v.zoneStates) ++ [byte (glareField v.glare), 0] ++
  word32Bytes v.first ++ word32Bytes v.last ++ le16 f.cropX ++ le16 f.cropY ++ le16 v.patchedLines ++
  List.replicate 10 0

/-- A pixel's bytes in a format: one byte, or two with the low byte first (R135). -/
def pixelBytes (f : PixelFormat) (p : Nat) : List Byte :=
  match f with
  | .toned8 => [byte p]
  | .linear16 => le16 p

/-- The number of bytes of a slot's frame: the header, then one or two bytes for each pixel (R135). -/
def Slot.frameLength (x : Slot) : Nat :=
  match x.form with
  | some f => 64 + (match f.format with | .toned8 => 1 | .linear16 => 2) * (f.width * f.height)
  | none => 64

/-- The bytes the port sends for a slot, in order (R129, R134, R135). -/
def Slot.frameBytes (x : Slot) (isRepeat : Bool) : List Byte :=
  match x.form, x.values with
  | some f, some v => headerBytes x.number x.kind f v isRepeat ++ x.pixels.flatten.flatMap (pixelBytes f.format)
  | _, _ => []

/-- The byte the frame output port presents to the modem: none while the port is idle (R129, R121). -/
def presentedByte (s : State) : Option Byte :=
  match s.ofq.send with
  | some snd => (s.ofq.slots[snd.slot].frameBytes snd.isRepeat)[snd.taken]?
  | none => none

end Sys2Proof.Machine
end

