-- ==== Sys2Proof/Machine/Profile.lean ====
section
/-! DEFINITION. Stored profiles, their check value, the start-up scan, the startup record, and the working set's openness to
writing (chapter 08). -/

namespace Sys2Proof.Machine

/-! ## The check value of a profile (R145) -/

/-- One bit of the CRC-32 with generator 0x04C11DB7, most significant bit first. -/
def crc32Step (c : Word32) : Word32 := if c.msb then (c <<< 1) ^^^ 0x04C11DB7#32 else c <<< 1

/-- One byte fed to the CRC-32. -/
def crc32Byte (c : Word32) (b : Byte) : Word32 := Nat.iterate crc32Step 8 (c ^^^ (b.setWidth 32 <<< 24))

/-- The CRC-32 of some bytes: starting from all ones, the final remainder complemented (R145). -/
def crc32 (bytes : List Byte) : Word32 := ~~~(bytes.foldl crc32Byte 0xFFFFFFFF#32)

/-! ## The stored form of a profile (R145) -/

/-- The stored header of a content. -/
def Content.header (c : Content) : StoredHeader :=
  { profileId := c.profileId, head := c.head, fb := c.beam.isSome, width := c.width, height := c.height,
    hasTone := c.tone.isSome, label := c.label }

/-- The 25 bytes of a stored header. -/
def StoredHeader.bytes (h : StoredHeader) : List Byte :=
  le16 h.profileId ++ [headByte h.head, flagByte h.fb] ++ le16 h.width ++ le16 h.height ++ [flagByte h.hasTone] ++ h.label

/-- A MESH entry's bytes: x16 then y16. -/
def meshBytes (p : Int × Int) : List Byte := le16s p.1 ++ le16s p.2

/-- The stored form of a content: its header, then MESH, GAIN_F, GAIN_B, WEIGHT and TONE, each present one whole. -/
def Content.stored (c : Content) : List Byte :=
  c.header.bytes ++ c.mesh.flatMap meshBytes ++ c.gainF.flatMap le16 ++
    (match c.beam with
      | some b => b.gainB.flatMap le16 ++ b.weight.flatMap le16
      | none => []) ++
    (match c.tone with
      | some t => t.map byte
      | none => [])

/-- The entries of a MESH of an output size (R138). -/
def meshEntries (w h : Nat) : Nat := (w / 16 + 1) * (h / 16 + 1)

/-- The bytes of a profile with a header: the header and its tables. -/
def StoredHeader.length (h : StoredHeader) : Nat :=
  25 + 4 * meshEntries h.width h.height + 2 * Config.gainEntries + (if h.fb then 4 * Config.gainEntries else 0) +
    (if h.hasTone then Config.toneEntries else 0)

/-- The first `n` bytes of a slot, erased where nothing is written. -/
def slotBytes (bytes : List Byte) (n : Nat) : List Byte :=
  (List.range n).map fun k => bytes.getD k Config.erasedByte

/-- The header in a slot's first 25 bytes, when it is well formed (R158). -/
def readHeader (bytes : List Byte) : Option StoredHeader :=
  let b (k : Nat) : Nat := (bytes.getD k Config.erasedByte).toNat
  let id := b 0 + 256 * b 1
  let w := b 4 + 256 * b 5
  let h := b 6 + 256 * b 7
  if 1 ≤ id ∧ (b 2 ≤ 11 ∨ b 2 = 255) ∧ b 3 ≤ 1 ∧ b 8 ≤ 1 ∧ w % 16 = 0 ∧ 256 ≤ w ∧ w ≤ 1024 ∧ h % 16 = 0 ∧ 256 ≤ h ∧
      h ≤ 1024 then
    some { profileId := id, head := if b 2 = 255 then none else some (b 2), fb := b 3 = 1, width := w, height := h,
           hasTone := b 8 = 1, label := (slotBytes bytes 25).drop 9 }
  else none

/-- The number of entries of `n` bytes read from `bytes` at `start`. -/
def readEntries (bytes : List Byte) (start n count : Nat) : List (List Byte) :=
  (List.range count).map fun k => (List.range n).map fun i => bytes.getD (start + n * k + i) Config.erasedByte

/-- The content stored in a slot with header `h` (R145). -/
def readContent (h : StoredHeader) (bytes : List Byte) : Content :=
  let mesh := meshEntries h.width h.height
  let gainStart := 25 + 4 * mesh
  let beamStart := gainStart + 2 * Config.gainEntries
  let toneStart := beamStart + (if h.fb then 4 * Config.gainEntries else 0)
  { profileId := h.profileId, head := h.head, width := h.width, height := h.height, label := h.label,
    mesh := (readEntries bytes 25 4 mesh).map fun e => (fromLe16s (e.take 2), fromLe16s (e.drop 2)),
    gainF := (readEntries bytes gainStart 2 Config.gainEntries).map fromLe,
    beam :=
      if h.fb then
        some { gainB := (readEntries bytes beamStart 2 Config.gainEntries).map fromLe,
               weight := (readEntries bytes (beamStart + 2 * Config.gainEntries) 2 Config.gainEntries).map fromLe }
      else none,
    tone := if h.hasTone then some ((readEntries bytes toneStart 1 Config.toneEntries).map fromLe) else none }

/-- The check value stored after a profile of `n` bytes. -/
def storedCheck (bytes : List Byte) (n : Nat) : Word32 :=
  BitVec.ofNat 32 (fromLe ((List.range 4).map fun i => bytes.getD (n + i) Config.erasedByte))

/-- The bytes a save programs: the stored form and its check (R150). -/
def programmedBytes (c : Content) : List Byte := c.stored ++ word32Bytes (crc32 c.stored)

/-- `bytes` with byte `k` holding `b`. -/
def putByte (bytes : List Byte) (k : Nat) (b : Byte) : List Byte :=
  if k < bytes.length then bytes.set k b else bytes ++ List.replicate (k - bytes.length) Config.erasedByte ++ [b]

/-- What a slot holds when some of its cells did not take what was written or erased. -/
def loseCells (bytes : List Byte) (lost : LostCells) : List Byte := lost.foldl (fun bs p => putByte bs p.1 p.2) bytes

/-- Whether every byte is erased. -/
def blankBytes (bytes : List Byte) : Bool := bytes.all (· = Config.erasedByte)

/-! ## The start-up scan (R158) -/

/-- A CORRUPT record with its protected flag. -/
def corruptRecord (guarded : Bool) : DirRecord := { state := .corrupt, guarded, header := none, check := none }

/-- A slot as the scan classes it by itself (R158). -/
def classifySlot (x : StoreSlot) : DirRecord :=
  if x.workMark then corruptRecord x.protectMark
  else if blankBytes x.bytes then { state := .empty, guarded := x.protectMark, header := none, check := none }
  else match readHeader x.bytes with
    | some h =>
      if crc32 (slotBytes x.bytes h.length) = storedCheck x.bytes h.length then
        { state := .valid, guarded := x.protectMark, header := some h, check := some (storedCheck x.bytes h.length) }
      else corruptRecord x.protectMark
    | none => corruptRecord x.protectMark

/-- The profile id of a VALID record. -/
def DirRecord.validId (r : DirRecord) : Option Nat :=
  if r.state = .valid then r.header.map StoredHeader.profileId else none

/-- The store slots in ascending order. -/
def allStoreSlots : List (Fin 8) := [0, 1, 2, 3, 4, 5, 6, 7]

/-- The directory the scan gives: of two VALID slots with one profile id, the higher-numbered is CORRUPT (R158). -/
def scanDirectory (slots : Vector StoreSlot 8) : Vector DirRecord 8 :=
  Vector.ofFn fun i : Fin 8 =>
    let r := classifySlot slots[i]
    if r.state = .valid ∧ (allStoreSlots.any fun j => j < i && (classifySlot slots[j]).validId = r.validId) then
      corruptRecord r.guarded
    else r

/-- The lowest-numbered VALID slot bound to a head code (R146). -/
def Store.boundSlot (p : Store) (k : Fin 12) : Option (Fin 8) :=
  allStoreSlots.find? fun i =>
    p.directory[i].state = .valid && p.directory[i].header.any fun h => h.head = some k.val

/-! ## The startup record (R156, R157) -/

/-- A field's bytes all equal the complement of the byte stored beside them. -/
def cellOk (c : Byte × Byte) : Bool := c.1 = ~~~c.2

/-- The values a startup record gives, each field passing its check or taking its default (R156). -/
structure BootValues where
  rate : Nat
  ceilingCode : Nat
  autostart : Nat
  sendMode : Nat
  policy : Nat
  notice : Nat
  autoswitch : Nat
deriving DecidableEq, Repr

/-- The ceiling code stored in a record's second and third data bytes. -/
def storedCeiling (r : Vector (Byte × Byte) 8) : Nat := r[1].1.toNat + 256 * r[2].1.toNat

/-- Whether each of the seven fields passes its check, in R156's order. -/
def bootPasses (r : Vector (Byte × Byte) 8) : List Bool :=
  [cellOk r[0] && r[0].1.toNat ≤ 3,
   cellOk r[1] && cellOk r[2] && 1 ≤ storedCeiling r && storedCeiling r ≤ 400,
   cellOk r[3] && r[3].1.toNat ≤ 3,
   cellOk r[4] && r[4].1.toNat ≤ 1,
   cellOk r[5] && r[5].1.toNat ≤ 1,
   cellOk r[6] && r[6].1.toNat ≤ 1,
   cellOk r[7] && r[7].1.toNat ≤ 1]

/-- A field's value, or its default when it fails its check. -/
def bootField (pass : Bool) (v d : Nat) : Nat := if pass then v else d

/-- The values a record gives out at a full reset (R156). -/
def bootValues (r : Vector (Byte × Byte) 8) : BootValues :=
  let p (i : Nat) : Bool := (bootPasses r).getD i false
  { rate := bootField (p 0) r[0].1.toNat 0,
    ceilingCode := bootField (p 1) (storedCeiling r) 200,
    autostart := bootField (p 2) r[3].1.toNat 0,
    sendMode := bootField (p 3) r[4].1.toNat 0,
    policy := bootField (p 4) r[5].1.toNat 0,
    notice := bootField (p 5) r[6].1.toNat 1,
    autoswitch := bootField (p 6) r[7].1.toNat 1 }

/-- Whether some field took its default: STARTUP_DEFAULTED's live value (R156). -/
def bootDefaulted (r : Vector (Byte × Byte) 8) : Bool := (bootPasses r).any (!·)

/-- The cells a record of data bytes is written as: each byte with its complement. -/
def bootCells (data : List Byte) : Vector (Byte × Byte) 8 :=
  Vector.ofFn fun i : Fin 8 => (data.getD i 0, ~~~(data.getD i 0))

/-- A cell looked at before its phase has ended: done or not, as the free value of the draw says (log entry 3). -/
def partCell (draw cell : Nat) (before after : Byte) : Byte := if Config.bootCellDone draw cell then after else before

/-- The record as far as a startup-record write has erased and written it (R157, R155); the record itself when none runs. -/
def Store.bootView (p : Store) (draw : Nat) : Vector (Byte × Byte) 8 :=
  match p.op with
  | some (.bootWrite data phase) =>
    Vector.ofFn fun i : Fin 8 =>
      let after := match phase with
        | .erase => (Config.erasedByte, Config.erasedByte)
        | .program => (bootCells data)[i]
      (partCell draw (2 * i) p.boot[i].1 after.1, partCell draw (2 * i + 1) p.boot[i].2 after.2)
  | _ => p.boot

/-- The cells of a record of which some did not take what was written. -/
def loseBootCells (r : Vector (Byte × Byte) 8) (lost : LostCells) : Vector (Byte × Byte) 8 :=
  Vector.ofFn fun i : Fin 8 =>
    ((lost.reverse.find? fun p => p.1 = 2 * i.val).elim r[i].1 Prod.snd,
     (lost.reverse.find? fun p => p.1 = 2 * i.val + 1).elim r[i].2 Prod.snd)

/-- BOOT_WRITE is running. -/
def Store.bootWriting (p : Store) : Bool :=
  match p.op with
  | some (.bootWrite _ _) => true
  | _ => false

/-! ## Directory changes and the end of an operation -/

/-- A slot's directory record replaced. The working set's source slot becomes none when it names a slot that leaves the VALID
state (R139). -/
def Store.setRecord (p : Store) (i : Fin 8) (r : DirRecord) : Store :=
  { p with
    directory := p.directory.set i r,
    ws := if r.state ≠ .valid ∧ p.ws.source = some i then { p.ws with source := none } else p.ws }

/-- Work on a slot begins: its work mark is set and it is CORRUPT (R149, R151, R152). -/
def Store.beginWork (p : Store) (i : Fin 8) : Store :=
  { p.setRecord i (corruptRecord p.directory[i].guarded) with
    slots := p.slots.set i { p.slots[i] with workMark := true } }

/-- The erase of a slot ends with what its read-back finds: EMPTY with its work mark cleared when every byte is erased, still
CORRUPT otherwise (R151, R152). -/
def Store.endErase (p : Store) (i : Fin 8) (lost : LostCells) : Store :=
  let bytes := loseCells [] lost
  if blankBytes bytes then
    { p.setRecord i { p.directory[i] with state := .empty, header := none, check := none } with
      slots := p.slots.set i { p.slots[i] with bytes := [], workMark := false } }
  else { p with slots := p.slots.set i { p.slots[i] with bytes := bytes } }

/-- A long operation ends well: last result OK and STORE_DONE (R154). -/
def storeDone (s : State) : State := raise .storeDone (s.setPfs { s.pfs with op := none, lastResult := .ok })

/-- A long operation fails with a last result, and STORE_FAILED (R154). -/
def storeFailed (r : LastResult) (s : State) : State :=
  raise .storeFailed (s.setPfs { s.pfs with op := none, lastResult := r })

/-! ## Quiescence and openness to writing -/

/-- Start-up has ended (R94, R95). -/
def startUpEnded (s : State) : Bool := s.csq.state ≠ .starting

/-- The receiver serves no exposure and can take a trigger: IDLE, or SKIP with no held exposure (R4, R180). -/
def receiverReady (s : State) : Bool := s.pxr.state = .idle || s.pxr.state = .skip .none

/-- The part is quiescent (R180). -/
def quiescent (s : State) : Bool :=
  receiverReady s && s.csq.exposure.isNone && s.rme.job.isNone && s.phc.finalise.isNone && s.csq.queue.isEmpty &&
    s.csq.active.isNone

/-- The store is running a save or a load (R140). -/
def Store.savingOrLoading (p : Store) : Bool :=
  match p.op with
  | some (.save _ _) => true
  | some (.load _ _) => true
  | _ => false

/-- The working set is open to writing (R140). -/
def openToWriting (s : State) : Bool :=
  startUpEnded s && quiescent s && s.phc.lin0.content = .empty && s.phc.lin1.content = .empty && s.phc.accF.state = .free &&
    s.phc.accB.state = .free && s.csq.state ≠ .switchDrain && s.csq.state ≠ .switchLoad && !s.pfs.savingOrLoading

/-- The working set's content written by an accepted TWRT or header PSET, which sets modified (R139, R143). -/
def writeContent (c : Content) (s : State) : State :=
  s.setPfs { s.pfs with ws := { s.pfs.ws with content := c, modified := true } }

/-- A write of the working set that has passed its own checks: BUSY while the store saves or loads, BAD_STATE when the
working set is not open for another reason, else the content is written (R140). -/
def writeWhenOpen (r : Response) (c : Content) (s : State) : Answer :=
  if openToWriting s then (r, writeContent c s)
  else refuse (if s.pfs.savingOrLoading then .busy else .badState) s

end Sys2Proof.Machine
end

