-- ==== Sys2Proof/Machine/Remap.lean ====
section
/-! DEFINITION. The Remap Engine's geometry, sampling and tone (chapter 03). -/

namespace Sys2Proof.Machine

/-- The sensor position, in sixteenths, of output pixel (u, v) of the full picture, interpolated from the mesh (R46, R47). -/
def meshPosition (c : Content) (u v : Nat) : Int × Int :=
  let m := u / 16
  let n := v / 16
  let fu := u % 16
  let fv := v % 16
  let node (a b : Nat) : Int × Int := c.mesh.getD ((c.width / 16 + 1) * b + a) (0, 0)
  let mix (f : Int × Int → Int) : Int :=
    ((((16 - fu) * (16 - fv) : Nat) : Int) * f (node m n) + ((fu * (16 - fv) : Nat) : Int) * f (node (m + 1) n)
      + (((16 - fu) * fv : Nat) : Int) * f (node m (n + 1)) + ((fu * fv : Nat) : Int) * f (node (m + 1) (n + 1)) + 128) / 256
  (mix Prod.fst, mix Prod.snd)

/-- Whether a sensor position is in field (R48). -/
def inField (p : Int × Int) : Bool := 0 ≤ p.1 && p.1 ≤ 20464 && 0 ≤ p.2 && p.2 ≤ 16368

/-- The linear value of a buffer's rows at (x, y). -/
def linearAt (rows : List (List Nat)) (x y : Nat) : Nat := (rows.getD y []).getD x 0

/-- The bilinear sample of a buffer at an in-field position; a pixel of weight 0 adds nothing (R49). -/
def sampleAt (rows : List (List Nat)) (x16 y16 : Nat) : Nat :=
  let x := x16 / 16
  let y := y16 / 16
  let ax := x16 % 16
  let ay := y16 % 16
  let term (weight dx dy : Nat) : Nat := if weight = 0 then 0 else weight * linearAt rows (x + dx) (y + dy)
  (term ((16 - ax) * (16 - ay)) 0 0 + term (ax * (16 - ay)) 1 0 + term ((16 - ax) * ay) 0 1 + term (ax * ay) 1 1 + 128)
    / 256

/-- An entry of the built-in curve (R54). -/
def builtInEntry (k : Nat) : Nat := (k * 255 + 512) / 1024

/-- The built-in curve: 1025 entries (R54). -/
def builtInCurve : List Nat := (List.range Config.toneEntries).map builtInEntry

/-- An entry of the curve in use: the TONE table's, or the built-in curve's when TONE is absent (R54). -/
def curveEntry (tone : Option (List Nat)) (k : Nat) : Nat :=
  match tone with
  | some t => t.getD k 0
  | none => builtInEntry k

/-- A linear value through the tone curve (R53). -/
def toneValue (tone : Option (List Nat)) (l : Nat) : Nat :=
  let i := l / 16
  let f := l % 16
  (curveEntry tone i * (16 - f) + curveEntry tone (i + 1) * f + 8) / 16

/-- An in-field value in a pixel format (R52, R53). -/
def formatValue (tone : Option (List Nat)) (f : PixelFormat) (l : Nat) : Nat :=
  match f with
  | .linear16 => l
  | .toned8 => toneValue tone l

/-- An out-of-field pixel (R48). -/
def fillValue (f : PixelFormat) (fill : Nat) : Nat :=
  match f with
  | .toned8 => fill
  | .linear16 => 0

/-- Output pixel (u, v) of a job's picture, from the source buffer's rows (R47 to R53). -/
def renderPixel (c : Content) (j : RenderJob) (rows : List (List Nat)) (u v : Nat) : Nat :=
  match j.geometry with
  | .sensor => formatValue c.tone j.format (linearAt rows u v)
  | .corrected =>
    let x0 := (j.crop.map Crop.x0).getD 0
    let y0 := (j.crop.map Crop.y0).getD 0
    let p := meshPosition c (x0 + u) (y0 + v)
    if inField p then formatValue c.tone j.format (sampleAt rows p.1.toNat p.2.toNat) else fillValue j.format j.fill

/-- Output row `v` of a job's picture (R45). -/
def renderRow (c : Content) (j : RenderJob) (rows : List (List Nat)) (v : Nat) : List Nat :=
  (List.range j.width).map fun u => renderPixel c j rows u v

/-- The rows of a job's picture still to be written (R45). -/
def renderRest (c : Content) (j : RenderJob) (rows : List (List Nat)) : List (List Nat) :=
  (List.range (j.height - j.nextRow)).map fun k => renderRow c j rows (j.nextRow + k)

/-- A still's crop as it stands at render start: kept when it lies in the working set's W × H, else absent (R43). -/
def keptCrop (c : Content) (crop : Option Crop) : Option Crop :=
  match crop with
  | some k => if k.x0 + k.w ≤ c.width ∧ k.y0 + k.h ≤ c.height then some k else none
  | none => none

/-- The job a render starts with (R42, R43). -/
def startJob (c : Content) (source : LinId) (dest : Fin 4) (kind : PictureKind) (g : Geometry) (f : PixelFormat)
    (crop : Option Crop) (fill : Nat) : RenderJob :=
  match g with
  | .sensor =>
    { source, dest, kind, geometry := .sensor, format := f, crop := none, width := Config.sensorWidth,
      height := Config.sensorHeight, fill, nextRow := 0 }
  | .corrected =>
    let k := keptCrop c crop
    { source, dest, kind, geometry := .corrected, format := f, crop := k, width := (k.map Crop.w).getD c.width,
      height := (k.map Crop.h).getD c.height, fill, nextRow := 0 }

/-- The header fields written at render start (R44). -/
def formOf (ws : WorkingSet) (j : RenderJob) : PictureForm :=
  { width := j.width, height := j.height, format := j.format, geometry := j.geometry,
    cropX := (j.crop.map Crop.x0).getD 0, cropY := (j.crop.map Crop.y0).getD 0,
    profileId := ws.content.profileId, head := ws.content.head, source := ws.source }

end Sys2Proof.Machine
end

