-- ==== Sys2Proof/Machine/Ops.lean ====
section
/-! DEFINITION. The operations the commands share: gathering a picture, the end of an exposure, stills that fail, halts,
loads and start-up, and the link's taking, replying and sending. -/

namespace Sys2Proof.Machine

/-! ## Presence and halt causes -/

/-- A head is present: a HEAD k is adopted (R159). -/
def headPresent (s : State) : Bool :=
  match s.hpb.adopted with
  | some (.head _) => true
  | _ => false

/-- The code of the adopted head. -/
def adoptedCode (s : State) : Option (Fin 12) :=
  match s.hpb.adopted with
  | some (.head k) => some k
  | _ => none

/-- A halt cause holds: no head is present, or the cutoff is ON (R94). -/
def haltCause (s : State) : Bool := !headPresent s || s.lpc.cutoff

/-- RUN if the stream is requested, and IDLE otherwise. -/
def runOrIdle (s : State) : SeqState := if s.csq.streamRequested then .run else .idle

/-- The sequencer enters a state. -/
def enter (st : SeqState) (s : State) : State := s.setCsq { s.csq with state := st }

/-! ## Gathering a picture's values (R102) -/

/-- The last of a picture's exposures of a bank. -/
def lastOfBank (parts : List ExposureRecord) (b : Bank) : Option ExposureRecord :=
  (parts.filter fun r => r.kind = .lit b).getLast?

/-- The mismatch flag: the working set's head code is not the adopted head's (R116). -/
def mismatched (s : State) : Bool := s.pfs.ws.content.head ≠ (adoptedCode s).map Fin.val || (adoptedCode s).isNone

/-- The picture values gathered at the completed end mark of a picture's last exposure (R72, R102, R116). -/
def gather (recipe : Recipe) (depth : Nat) (photometric : PhotoMode) (tag : Nat) (degraded : Bool)
    (parts : List ExposureRecord) (s : State) : PictureValues :=
  let patched := (parts.map ExposureRecord.patchedLines).sum
  { recipe, depth, photometric, tag,
    black := (parts.getLast?.map ExposureRecord.black).getD 0,
    timeF := ((lastOfBank parts .flood).map ExposureRecord.time).getD 0,
    levelF := ((lastOfBank parts .flood).map ExposureRecord.usedLevel).getD 0,
    timeB := ((lastOfBank parts .beam).map ExposureRecord.time).getD 0,
    levelB := ((lastOfBank parts .beam).map ExposureRecord.usedLevel).getD 0,
    clamped := parts.any ExposureRecord.clamped,
    zoneStates := s.mtu.zones.map fun z => z.result.level,
    glare := s.mtu.zones.map fun z => z.result.glare,
    first := (parts.head?.map ExposureRecord.number).getD 0,
    last := (parts.getLast?.map ExposureRecord.number).getD 0,
    patchedLines := min patched 65535,
    patched := 0 < patched,
    strayOpen := parts.any ExposureRecord.strayOpen,
    longLines := parts.any ExposureRecord.longLines,
    shortLines := parts.any ExposureRecord.shortLines,
    degraded,
    mismatch := mismatched s,
    temperature := s.hpb.temperature }

/-! ## Stills -/

/-- The bank of the active still's next exposure; none when all its exposures have completed (R109). -/
def StillTrack.nextBank (a : StillTrack) : Option Bank :=
  match a.req.recipe with
  | .flood => if a.doneF < a.req.depth then some .flood else none
  | .beam => if a.doneB < a.req.depth then some .beam else none
  | .fuse =>
    if a.doneB < a.doneF then some .beam
    else if a.doneF < a.req.depth then some .flood
    else none

/-- The still with one more completed exposure of a bank (R110). -/
def StillTrack.complete (a : StillTrack) (r : ExposureRecord) : StillTrack :=
  { a with
    parts := a.parts ++ [r],
    doneF := if r.kind = .lit .flood then a.doneF + 1 else a.doneF,
    doneB := if r.kind = .lit .beam then a.doneB + 1 else a.doneB }

/-- STILL is left for RUN or IDLE (R110, R111, R112). -/
def leaveStill (s : State) : State := enter (runOrIdle s) s

/-- The active still is dropped: its accumulators are released, its slot becomes FREE and its tag is released (R36, R110,
R112). -/
def dropActive (a : StillTrack) (s : State) : State :=
  let s := releaseAccumulators s
  let s := freeSlot a.slot s
  s.setCsq { s.csq with active := none }

/-- The active still fails: it is dropped and STILL_FAILED is raised (R110). -/
def failActive (a : StillTrack) (s : State) : State := raise .stillFailed (dropActive a s)

/-! ## The end of an exposure -/

/-- The sequencer at a stream exposure's completed end mark (R101, R102, R103). -/
def streamCompleted (r : ExposureRecord) (s : State) : State :=
  match s.csq.frame, r.assigned with
  | some f, some (.first, _) => s.setCsq { s.csq with frame := some { f with parts := f.parts ++ [r] } }
  | some f, some (_, _) =>
    let values := gather f.recipe 1 .apply 0 f.degraded (f.parts ++ [r]) s
    s.setCsq { s.csq with
      frame := none, darkCounter := min (s.csq.darkCounter + 1) 255,
      awaiting := s.csq.awaiting ++ [{ buffer := f.buffer, kind := .stream, values }] }
  | _, _ => s

/-- The sequencer at a still exposure's completed end mark (R110). -/
def stillCompleted (r : ExposureRecord) (tag : Nat) (s : State) : State :=
  match s.csq.active with
  | some a =>
    if a.req.tag = tag then
      let a := a.complete r
      let a :=
        if a.nextBank.isNone then
          { a with phase := .awaitFinalise,
                   values := some (gather a.req.recipe a.req.depth a.req.photometric a.req.tag false a.parts s) }
        else a
      s.setCsq { s.csq with active := some a }
    else s
  | none => s

/-- The sequencer at a completed end mark. -/
def sequencerCompleted (r : ExposureRecord) (s : State) : State :=
  match r.purpose with
  | .stream => streamCompleted r s
  | .still tag => stillCompleted r tag s
  | .darkReference => s

/-- The sequencer at a still exposure's abandoned end mark: TIMEOUT, PATCH_LIMIT and EMPTY count against the still, and the
third fails it (R110). -/
def stillAbandoned (reason : AbandonReason) (tag : Nat) (s : State) : State :=
  match s.csq.active with
  | some a =>
    if a.req.tag = tag ∧ (reason = .timeout ∨ reason = .patchLimit ∨ reason = .empty) then
      if a.abandonments + 1 < 3 then
        s.setCsq { s.csq with active := some { a with abandonments := a.abandonments + 1 } }
      else leaveStill (failActive { a with abandonments := a.abandonments + 1 } s)
    else s
  | none => s

/-- The sequencer at an abandoned end mark (R101, R103, R110). -/
def sequencerAbandoned (r : ExposureRecord) (reason : AbandonReason) (s : State) : State :=
  match r.purpose with
  | .stream => s.setCsq { s.csq with frame := none }
  | .still tag => stillAbandoned reason tag s
  | .darkReference => s

/-- The receiver at the end of its exposure: it enters `next` and its timers stop. -/
def Receiver.finish (p : Receiver) (next : ReceiverState) : Receiver :=
  { p with state := next, readoutTimer := none, exposureTimer := none }

/-- The exposure in flight completes (R12): the record is COMPLETE and released, the end mark goes to the corrector, the
Metering Unit and the sequencer, and SENSOR_FAULT is raised when lines were patched (R17). -/
def completeExposure (s : State) : State :=
  match s.csq.exposure with
  | none => s
  | some r =>
    let r := { r with state := .complete, patchedLines := s.pxr.patched }
    let s := s.setPxr (s.pxr.finish .idle)
    let s := s.setCsq { s.csq with exposure := none, lastEnded := some r }
    let s := photometricEnd r true s
    let s := meteringCompleted s
    let s := sequencerCompleted r s
    if 0 < r.patchedLines then raise .sensorFault s else s

/-- The exposure in flight is abandoned, the receiver entering `next` (R12, R14, R16): the record is ABANDONED with its reason
and released, the end mark goes to the corrector, the Metering Unit and the sequencer, and SENSOR_FAULT is raised (R17). -/
def abandonExposure (reason : AbandonReason) (next : ReceiverState) (s : State) : State :=
  match s.csq.exposure with
  | none => s
  | some r =>
    let r := { r with state := .abandoned, patchedLines := s.pxr.patched, reason := some reason }
    let s := s.setPxr (s.pxr.finish next)
    let s := s.setCsq { s.csq with exposure := none, lastEnded := some r }
    let s := photometricEnd r false s
    let s := meteringAbandoned s
    raise .sensorFault (sequencerAbandoned r reason s)

/-- Where an abandonment before the frame closes leaves the receiver (R14, R16). -/
def abandonedState : ReceiverState → ReceiverState
  | .exposing => .idle
  | .awaiting => .idle
  | .inFrame _ => .skip .none
  | .skip _ => .skip .none
  | .idle => .idle
  | .off => .off

/-- The sequencer abandons the exposure in flight with HEAD_LOST, LAMP_CUTOFF or CANCELLED; a bank still lit is turned off
(R16, R87). -/
def sequencerAbandon (reason : AbandonReason) (s : State) : State :=
  if s.csq.exposure.isNone then s else abandonExposure reason (abandonedState s.pxr.state) (lampOff s)

/-! ## Halts (R117, R118) -/

/-- A stream frame partway through is discarded and its buffer released (R32, R117). -/
def dropFrame (s : State) : State :=
  match s.csq.frame with
  | some f => (releaseBuffer f.buffer s).setCsq { s.csq with frame := none }
  | none => s

/-- The exposure a halt abandons: every kind on a head loss, an F or B exposure on a cutoff (R117). -/
def haltAbandon (reason : AbandonReason) (s : State) : State :=
  match s.csq.exposure with
  | some r => if reason = .headLost ∨ r.kind ≠ .dark then sequencerAbandon reason s else s
  | none => s

/-- The active still fails at a halt (R117). -/
def haltStill (s : State) : State :=
  match s.csq.active with
  | some a => failActive a s
  | none => s

/-- A halt cause arises (R117): nothing in STARTING, a note in SWITCH-LOAD, and HALT otherwise. -/
def haltFor (reason : AbandonReason) (s : State) : State :=
  match s.csq.state with
  | .starting => s
  | .switchLoad => s.setCsq { s.csq with loadHalt := true }
  | _ => enter .halt (haltStill (dropFrame (haltAbandon reason s)))

/-- HALT is left when no halt cause holds: for SWITCH-DRAIN with a switch target held, else for RUN or IDLE (R118). -/
def haltExit (s : State) : State :=
  if s.csq.state = .halt ∧ haltCause s = false then
    enter (if s.csq.switchTarget.isSome then .switchDrain else runOrIdle s) s
  else s

/-! ## Cutoff and temperature (R84, R85) -/

/-- The cutoff state is examined: when it becomes ON a lit bank is turned off and the sequencer halts, and when it becomes OFF
the sequencer may leave its halt (R85). -/
def examineCutoff (s : State) : State :=
  let now := s.lpc.examined
  if now = s.lpc.cutoff then s
  else
    let s := s.setLpc { s.lpc with cutoff := now, lit := if now then none else s.lpc.lit }
    if now then haltFor .lampCutoff s else haltExit s

/-- The steps of R84 after the temperature or a threshold has changed. The derate limits and effective maxima are functions of
the state. -/
def afterTemperature (s : State) : State := reportLamps (examineCutoff s)

/-! ## Loads, switches and start-up -/

/-- Start-up ends (R95): the receiver enters IDLE, autostart is applied, and the sequencer enters HALT, RUN or IDLE. -/
def endStartUp (s : State) : State :=
  let s := s.setPxr { s.pxr with state := .idle }
  let s := match s.csq.autostart with
    | some r => s.setCsq { s.csq with streamRequested := true, requestedRecipe := some r }
    | none => s
  enter (if haltCause s then .halt else runOrIdle s) s

/-- SWITCH-LOAD is left (R115). -/
def switchExit (s : State) : State :=
  let target := match s.csq.nextTarget with
    | some t => some t
    | none => s.csq.switchTarget
  let next :=
    if s.csq.loadHalt && haltCause s then SeqState.halt
    else if target.isSome then .switchDrain
    else runOrIdle s
  s.setCsq { s.csq with state := next, switchTarget := target, nextTarget := none, loadHalt := false }

/-- The sequencer is told that a load has completed, successful or not (R95, R115, R147). -/
def loadCompleted (s : State) : State :=
  match s.csq.state with
  | .starting => endStartUp s
  | .switchLoad => switchExit s
  | _ => s

/-- A load of a slot begins with its verify pass; a slot that is not VALID fails it at once with CORRUPT (R147). -/
def beginLoad (i : Fin 8) (s : State) : State :=
  if s.pfs.directory[i].state = .valid then s.setPfs { s.pfs with op := some (.load i .verify) }
  else loadCompleted (storeFailed .corrupt s)

/-- When the scan is done and a state is adopted, the sequencer chooses its start-up load: the lowest VALID slot bound to the
adopted head, or none, which ends start-up (R95). -/
def startUpProgress (s : State) : State :=
  if s.csq.state = .starting ∧ s.csq.scanDone ∧ s.csq.loadChosen = false ∧ s.hpb.adopted.isSome then
    let s := s.setCsq { s.csq with loadChosen := true }
    match (adoptedCode s).bind s.pfs.boundSlot with
    | some i => beginLoad i s
    | none => endStartUp s
  else s

/-- A switch target arrives: it is the next target in SWITCH-LOAD and the switch target otherwise (R113). -/
def takeTarget (t : Target) (s : State) : State :=
  if s.csq.state = .switchLoad then s.setCsq { s.csq with nextTarget := some t }
  else s.setCsq { s.csq with switchTarget := some t }

/-- The sequencer hears of a change of head: with AUTOSWITCH on the new code is a target, but for start-up before the load is
chosen, which then follows the new head (R95, R113). -/
def headChangeReported (k : Fin 12) (s : State) : State :=
  if s.csq.autoswitch = false then s
  else if s.csq.state = .starting ∧ s.csq.loadChosen = false then s
  else takeTarget (.head k) s

/-! ## The choice at a frame boundary (R100, R108) -/

/-- A frame boundary: no stream frame has some, but not all, of its exposures complete; always one while the stream is not
running (R100). -/
def atBoundary (s : State) : Bool :=
  s.csq.state ≠ .run ||
    match s.csq.frame with
    | some f => f.parts.isEmpty
    | none => true

/-- The first still of the queue can start: both accumulators are FREE and a slot can be reserved (R108, R125). -/
def stillCanStart (s : State) : Bool :=
  !s.csq.queue.isEmpty && s.phc.accF.state = .free && s.phc.accB.state = .free && s.ofq.stillClaim.isSome

/-- The moment of R100's choice: RUN or IDLE, at a boundary, with no exposure in flight. -/
def choiceOpen (s : State) : Bool :=
  (s.csq.state = .run || s.csq.state = .idle) && atBoundary s && s.csq.exposure.isNone

/-- A dark is due (R103). DESIGN CHOICE: both values are the ones held now, so that a new DARK_EVERY counts at the next choice of
a trigger, before a further frame completes; R20's "next count of frames" does not say so of a value raised, or turned on or
off (log entry 40). -/
def darkDue (s : State) : Bool := 0 < s.phc.darkEvery && s.phc.darkEvery ≤ s.csq.darkCounter

/-! ## The link (chapter 11) -/

/-- One bit of the CRC-16 with generator x^16 + x^12 + x^5 + 1, most significant bit first (R174). -/
def crc16Step (c : Word16) : Word16 := if c.msb then (c <<< 1) ^^^ 0x1021#16 else c <<< 1

/-- One byte fed to the CRC-16. -/
def crc16Byte (c : Word16) (b : Byte) : Word16 := Nat.iterate crc16Step 8 (c ^^^ (b.setWidth 16 <<< 8))

/-- The CRC-16 of some bytes, starting from 0xFFFF, not inverted (R174). -/
def crc16 (bytes : List Byte) : Word16 := bytes.foldl crc16Byte 0xFFFF#16

/-- The check bytes of a frame, high byte first (R174). -/
def checkBytes (bytes : List Byte) : List Byte :=
  [(crc16 bytes).extractLsb' 8 8, (crc16 bytes).extractLsb' 0 8]

/-- A frame on the line: start byte, LEN, KIND, BODY and the check value (R174). -/
def frameOnLine (kind : Byte) (body : List Byte) : List Byte :=
  let checked := byte (body.length + 1) :: kind :: body
  Config.startByte :: checked ++ checkBytes checked

/-- A byte's bits on the line (R174): one start bit, eight data bits least significant first, one stop bit. The levels of the
start bit, 0, and of the stop bit, 1, are the serial family's (PRESUMED, log entry 38). -/
def lineBits (b : Byte) : List Bool := false :: (List.range 8).map (fun k => b.getLsbD k) ++ [true]

/-- The byte that ten bits of the line carry; none when the start or the stop bit is wrong (R174). -/
def byteOnLine : List Bool → Option Byte
  | [false, b0, b1, b2, b3, b4, b5, b6, b7, true] => some (BitVec.ofBoolListLE [b0, b1, b2, b3, b4, b5, b6, b7])
  | _ => none

/-- The rate of a link rate code, baud (R174). -/
def baudOf : Nat → Nat
  | 0 => 115200
  | 1 => 230400
  | 2 => 460800
  | _ => 921600

/-- The rate of the line, both ways (R174). -/
def Link.baud (l : Link) : Nat := baudOf l.rateCode

/-- The frame being sent. -/
def Sending.frame : Sending → LinkFrame
  | .notice f => f
  | .reply f _ => f

/-- The bytes the transmitter puts on its line in the sending now going on, in order; none while the line is idle (R174, R177). -/
def transmitBytes (s : State) : List Byte :=
  match s.cml.tx with
  | some x => frameOnLine x.frame.kind x.frame.body
  | none => []

/-- The bits of the transmit line in the sending now going on, in order (R174; log entry 30). -/
def transmitBits (s : State) : List Bool := (transmitBytes s).flatMap lineBits

/-- A request that has passed its check: it joins the holding area as its newest request, or is dropped with LINK_ERROR when
two are held (R175). -/
def arrive (q : Request) (s : State) : State :=
  if s.cml.holding.length < 2 then
    s.setCml { s.cml with holding := s.cml.holding ++ [{ request := q, taken := false }] }
  else raise .linkError s

/-- The receiver in a state. -/
def setRx (rx : LinkRx) (s : State) : State := s.setCml { s.cml with rx := rx }

/-- The receiver takes one byte (R175). -/
def rxByte (s : State) (b : Byte) : State :=
  match s.cml.rx with
  | .hunt => if b = Config.startByte then setRx .length s else s
  | .length => if b.toNat = 0 ∨ 241 < b.toNat then setRx .hunt s else setRx (.kind b) s
  | .kind len => if len.toNat = 1 then setRx (.checkHigh len b []) s else setRx (.body len b []) s
  | .body len kind got =>
    let got := got ++ [b]
    if got.length + 1 = len.toNat then setRx (.checkHigh len kind got) s else setRx (.body len kind got) s
  | .checkHigh len kind got => setRx (.checkLow len kind got b) s
  | .checkLow len kind got high =>
    let s := setRx .hunt s
    if crc16 (len :: kind :: got) = high ++ b then arrive { kind, body := got } s else raise .linkError s

/-- The oldest request not yet taken; none once an RSET has been taken (R176, R182). -/
def Link.nextRequest (l : Link) : Option Request :=
  if l.resetTaken then none else (l.holding.find? fun h => !h.taken).map HeldRequest.request

/-- The oldest request not yet taken is marked taken. -/
def markTaken : List HeldRequest → List HeldRequest
  | [] => []
  | h :: hs => if h.taken then h :: markTaken hs else { h with taken := true } :: hs

/-- A composed reply joins the replies waiting (R176). -/
def composeReply (q : Request) (r : Response) (s : State) : State :=
  s.setCml { s.cml with
    holding := markTaken s.cml.holding,
    replies := s.cml.replies ++
      [({ kind := replyKind q.kind, body := r.status.code :: r.data }, q.kind = 0x3F && r.status = .ok)] }

/-- The sequencer's state code (R94). -/
def seqCode : SeqState → Nat
  | .starting => 0
  | .idle => 1
  | .run => 2
  | .still => 3
  | .switchDrain => 4
  | .switchLoad => 5
  | .halt => 6

/-- The notice sent now: its five bytes hold the latch set, the live set and the sequencer's state code (R171, R177). -/
def noticeFrame (s : State) : LinkFrame :=
  { kind := 0x60, body := le16 s.cdu.latches.toNat ++ le16 s.cdu.live.toNat ++ [byte (seqCode s.csq.state)] }

/-- The transmitter, when idle, chooses what to send next: the pending notice, else the oldest waiting reply (R171, R177). -/
def pump (s : State) : State :=
  match s.cml.tx with
  | some _ => s
  | none =>
    if s.cdu.noticePending then
      (s.setCml { s.cml with tx := some (.notice (noticeFrame s)) }).setCdu { s.cdu with noticePending := false }
    else match s.cml.replies with
      | (f, resets) :: rest => s.setCml { s.cml with tx := some (.reply f resets), replies := rest }
      | [] => s

/-- A request examined as R176 gives: its kind, its length, start-up, and then its owner. -/
def examine (q : Request) (owner : State → Answer) (s : State) : Answer :=
  if knownKind q.kind = false then refuse .badKind s
  else if lengthOk q = false then refuse .badLength s
  else if startUpEnded s = false ∧ startUpKind q.kind = false then refuse .busy s
  else owner s

/-- A request command's request reaches the link, unless it is already the next to be taken there (log entry 6). -/
def bring (q : Request) (s : State) : State :=
  if s.cml.nextRequest = some q then s else if s.cml.rx = .hunt then arrive q s else s

/-- The next request is taken, examined and answered, its reply composed (R176). -/
def take (q : Request) (owner : State → Answer) (s : State) : State :=
  let a := examine q owner s
  composeReply q a.1 a.2

/-- A request command (log entry 6): its request reaches the link, is taken if it is the next, and the transmitter goes on. -/
def serve (q : Request) (owner : State → Answer) (s : State) : State :=
  let s := bring q s
  pump (if s.cml.nextRequest = some q then take q owner s else s)

end Sys2Proof.Machine
end

