-- ==== Sys2Proof/Machine/Exposures.lean ====
section
/-! DEFINITION. The sequencer's commands over exposures and stills (chapters 02, 06): TRIGGER, INTERVAL_EXPIRY, FOLD_COMPLETE,
STILL_START, FINALISE_START, FINALISE_COMPLETE. -/

namespace Sys2Proof.Machine

/-! ## Triggers -/

/-- What the next trigger is for (R98, R100). -/
inductive TriggerPlan where
  | first (buffer : LinId)
  | second
  | dark
  | still (bank : Bank)
deriving DecidableEq, Repr

/-- The conditions common to every trigger (R4, R98). -/
def triggerReady (s : State) : Bool :=
  startUpEnded s && s.csq.exposure.isNone && headPresent s && receiverReady s

/-- The trigger of a new stream frame's first exposure or of a dark exposure, at a boundary in RUN (R98, R100). -/
def boundaryTrigger (s : State) : Option TriggerPlan :=
  if s.csq.intervalTimer.isSome || s.csq.switchTarget.isSome || stillCanStart s then none
  else if darkDue s then some .dark
  else if s.lpc.cutoff || (s.csq.paced && s.ofq.streamWaiting) || s.csq.requestedRecipe.isNone then none
  else s.phc.emptyLin.map .first

/-- The trigger of a FUSE frame's second exposure (R98). -/
def secondTrigger (f : StreamFrame) (s : State) : Option TriggerPlan :=
  if s.lpc.cutoff = false ∧ (s.phc.lin f.buffer).content = .half then some .second else none

/-- The trigger of the active still's next exposure (R98, R109). -/
def stillTrigger (a : StillTrack) (s : State) : Option TriggerPlan :=
  match a.nextBank with
  | some b => if s.lpc.cutoff = false ∧ (s.phc.acc b).state = .opened then some (.still b) else none
  | none => none

/-- The trigger whose conditions all hold, if any (R98). -/
def triggerPlan (s : State) : Option TriggerPlan :=
  if triggerReady s = false then none
  else match s.csq.state with
    | .run =>
      match s.csq.frame with
      | some f => secondTrigger f s
      | none => boundaryTrigger s
    | .still => s.csq.active.bind fun a => stillTrigger a s
    | _ => none

/-- The effective recipe of a stream frame, and whether it is degraded (R101). -/
def effectiveRecipe (requested : Recipe) (fb : Bool) : Recipe × Bool :=
  if requested = .flood ∨ fb then (requested, false) else (.flood, true)

/-- The bank of a recipe's first exposure (R98). -/
def firstBank : Recipe → Bank
  | .beam => .beam
  | _ => .flood

/-- The receiver at an accepted trigger (R4). -/
def Receiver.trigger (p : Receiver) (time : Nat) : Receiver :=
  { p with
    state := (match p.state with | .skip _ => .skip .exposing | _ => .exposing),
    lineNumber := 0, openLine := [], patched := 0, received := 0, leading := 0, lastLine := none,
    exposureTimer := some time }

/-- A trigger (R4, R66, R86, R97): the record is filled, the bank of an F or B exposure is lit, the Metering Unit latches its
zones, and the receiver serves the exposure. -/
def startExposure (kind : Kind) (purpose : Purpose) (time requested black : Nat) (assigned : Option (Role × LinId))
    (s : State) : State :=
  let number := s.csq.nextExposure
  let used := match kind with
    | .lit b => s.lpc.used b requested time
    | .dark => (0, false)
  let record : ExposureRecord :=
    { number, kind, purpose, time, black, usedLevel := used.1, clamped := used.2, zones := s.mtu.zones.map Zone.defn,
      assigned, state := .armed, strayOpen := false, longLines := false, shortLines := false, patchedLines := 0,
      reason := none }
  let s := s.setLpc (match kind with
    | .lit b => s.lpc.light b number requested time (purpose = .stream)
    | .dark => s.lpc)
  let s := s.setMtu (s.mtu.trigger number kind purpose)
  let s := s.setPxr (s.pxr.trigger time)
  s.setCsq { s.csq with exposure := some record, nextExposure := number + 1 }

/-- The interval timer restarts at a timed trigger (R99). -/
def restartInterval (s : State) : State := s.setCsq { s.csq with intervalTimer := some s.csq.interval }

/-- A stream exposure of bank `b` in role `role` triggered into its buffer (R29, R86, R97). -/
def streamExposure (b : Bank) (role : Role) (id : LinId) (s : State) : State :=
  let s := s.setPhc (s.phc.setLin id ((s.phc.lin id).assign role))
  startExposure (.lit b) .stream (s.lpc.bank b).expo (s.lpc.bank b).level s.phc.black (some (role, id)) s

/-- A trigger carried out (R97 to R101, R103, R109). -/
def carryTrigger (plan : TriggerPlan) (s : State) : State :=
  match plan with
  | .first id =>
    let (recipe, degraded) := effectiveRecipe (s.csq.requestedRecipe.getD .flood) s.pfs.ws.content.beam.isSome
    let s := s.setCsq { s.csq with frame := some { recipe, degraded, buffer := id, parts := [] } }
    streamExposure (firstBank recipe) (if recipe = .fuse then .first else .single) id (restartInterval s)
  | .second =>
    match s.csq.frame with
    | some f => streamExposure .beam .second f.buffer s
    | none => s
  | .dark =>
    let s := s.setPhc { s.phc with darkSum := some 0 }
    let s := restartInterval (s.setCsq { s.csq with darkCounter := 0 })
    startExposure .dark .darkReference s.lpc.flood.expo 0 s.phc.black none s
  | .still b =>
    match s.csq.active with
    | some a =>
      let s := s.setPhc (s.phc.setAcc b (s.phc.acc b).receive)
      match b with
      | .flood => startExposure (.lit .flood) (.still a.req.tag) a.expoF a.levelF a.black none s
      | .beam => startExposure (.lit .beam) (.still a.req.tag) a.expoB a.levelB a.black none s
    | none => s

/-- TRIGGER (R98): the trigger whose conditions all hold is made; when none's do, nothing happens. -/
def execTrigger (s : State) : Host.Outcome State Fault Refusal :=
  match triggerPlan s with
  | some plan => .next (carryTrigger plan s)
  | none => .next s

/-- INTERVAL_EXPIRY (R99). -/
def execIntervalExpiry (s : State) : Host.Outcome State Fault Refusal :=
  .next (s.setCsq { s.csq with intervalTimer := none })

/-! ## Folds, stills and finalise -/

/-- FOLD_COMPLETE (R35): a FOLDING accumulator's fold completes. -/
def execFoldComplete (bank : Bank) (s : State) : Host.Outcome State Fault Refusal :=
  if (s.phc.acc bank).state = .folding then .next (s.setPhc (s.phc.setAcc bank (s.phc.acc bank).foldDone)) else .next s

/-- The recipe needs bank B (R101, R107). -/
def needsBeam (r : Recipe) : Bool := r ≠ .flood

/-- A still at its start (R88, R108). -/
def startedStill (q : StillRequest) (slot : Fin 4) (s : State) : StillTrack :=
  { req := q, phase := .exposing, slot, black := s.phc.black, levelF := s.lpc.flood.level, expoF := s.lpc.flood.expo,
    levelB := s.lpc.beam.level, expoB := s.lpc.beam.expo, doneF := 0, doneB := 0, abandonments := 0, parts := [],
    values := none }

/-- The first still of the queue starts with a claimed slot (R33, R108, R125). -/
def startStill (q : StillRequest) (rest : List StillRequest) (claim : Fin 4 × Bool) (s : State) : State :=
  let track := startedStill q claim.1 s
  let s := s.setPhc { s.phc with accF := Accumulator.claimed, accB := Accumulator.claimed }
  let s := reserveSlot claim (.still q.tag) s
  s.setCsq { s.csq with state := .still, queue := rest, active := some track }

/-- STILL_START (R100, R108): at the choice, with no switch target held, the first still starts when it can; it fails instead
when it needs bank B and the bank set is F. -/
def execStillStart (s : State) : Host.Outcome State Fault Refusal :=
  if choiceOpen s ∧ s.csq.switchTarget.isNone ∧ stillCanStart s then
    match s.csq.queue, s.ofq.stillClaim with
    | q :: rest, some claim =>
      if needsBeam q.recipe ∧ s.pfs.ws.content.beam.isNone then
        .next (pump (raise .stillFailed (s.setCsq { s.csq with queue := rest })))
      else .next (pump (startStill q rest claim s))
    | _, _ => .next s
  else .next s

/-- A still's accumulator of a bank is ready for finalise: not used, or OPEN with every exposure folded (R37). -/
def accReady (a : StillTrack) (b : Bank) (x : Accumulator) : Bool :=
  let used := match a.req.recipe, b with
    | .flood, .beam => false
    | .beam, .flood => false
    | _, _ => true
  !used || (x.state = .opened && x.folded = a.req.depth)

/-- Finalise starts into a buffer (R37, R111). -/
def startFinalise (a : StillTrack) (id : LinId) (s : State) : State :=
  let s := s.setPhc { s.phc.setLin id { content := .writing, rows := [], releaseMarked := false } with
    accF := { s.phc.accF with state := .finalising },
    accB := { s.phc.accB with state := .finalising },
    finalise := some { buffer := id, recipe := a.req.recipe, depth := a.req.depth, photometric := a.req.photometric } }
  let s := s.setCsq { s.csq with active := none, later := s.csq.later ++ [{ a with phase := .finalising }] }
  leaveStill s

/-- FINALISE_START (R37, R111). -/
def execFinaliseStart (s : State) : Host.Outcome State Fault Refusal :=
  match s.csq.active, s.phc.emptyLin with
  | some a, some id =>
    if a.phase = .awaitFinalise ∧ accReady a .flood s.phc.accF ∧ accReady a .beam s.phc.accB then
      .next (startFinalise a id s)
    else .next s
  | _, _ => .next s

/-- A tracked still moved on to another phase. -/
def movePhase (fromPhase toPhase : StillPhase) (later : List StillTrack) : List StillTrack :=
  later.map fun a => if a.phase = fromPhase then { a with phase := toPhase } else a

/-- The WHOLE buffer of a finalised still joins the buffers awaiting render with the values gathered for it (R102). -/
def finalisedWaiting (id : LinId) (later : List StillTrack) : List Waiting :=
  match later.find? fun a => a.phase = .finalising with
  | some a => match a.values with
    | some values => [{ buffer := id, kind := .still a.req.tag, values }]
    | none => []
  | none => []

/-- FINALISE_COMPLETE (R38, R39, R102, R111). -/
def execFinaliseComplete (s : State) : Host.Outcome State Fault Refusal :=
  match s.phc.finalise with
  | none => .next s
  | some j =>
    let rows := finaliseRows s.pfs.ws.content j s.phc.accF s.phc.accB
    let s := s.setPhc { s.phc.setLin j.buffer { content := .whole, rows, releaseMarked := false } with
      accF := Accumulator.blank, accB := Accumulator.blank, finalise := none }
    .next (s.setCsq { s.csq with
      awaiting := s.csq.awaiting ++ finalisedWaiting j.buffer s.csq.later,
      later := movePhase .finalising .awaitRender s.csq.later })

end Sys2Proof.Machine
end

