-- ==== Sys2Proof/Machine/Reset.lean ====
section
/-! DEFINITION. The resets and start-up (every chapter's Values after reset): FULL_RESET, STARTUP_SCAN_DONE, and the soft reset
that FRAME_SENT carries out. -/

namespace Sys2Proof.Machine

/-- A full reset (R2, R40, R58, R61, R76, R95, R121, R139, R154, R156, R158, R167, R173, R175). The store keeps its slots and
the startup record, of which a write cut off is left as far as it got (R155), and the record's values go to their owners. A link
frame then being sent is cut off, and the replies waiting with it (DESIGN CHOICE, log entry 39). -/
def fullReset (s : State) : State :=
  let boot := s.pfs.bootView s.draws
  let v := bootValues boot
  let r := State.reset
  { pxr := r.pxr, phc := r.phc, rme := r.rme, mtu := r.mtu, hpb := r.hpb,
    lpc := { r.lpc with startupCeiling := v.ceilingCode * 10000, ceiling := v.ceilingCode * 10000 },
    csq := { r.csq with autostart := recipeOf v.autostart, autoswitch := v.autoswitch = 1 },
    ofq := { r.ofq with
      policy := if v.policy = 1 then .keepOld else .keepNew,
      sendMode := if v.sendMode = 1 then .fixedRate else .onDemand,
      periodTimer := if v.sendMode = 1 then some r.ofq.sendPeriod else none },
    pfs := { r.pfs with slots := s.pfs.slots, boot },
    cdu := { r.cdu with
      live := withSourceBit (sourceBit Source.tempFault.number) Source.startupDefaulted.number (bootDefaulted boot),
      noticeEn := v.notice = 1 },
    cml := { r.cml with rateCode := v.rate },
    draws := if s.pfs.bootWriting then s.draws + 1 else s.draws,
    pending := s.pending }

/-- FULL_RESET (R95). -/
def execFullReset (s : State) : Host.Outcome State Fault Refusal := .next (fullReset s)

/-- STARTUP_SCAN_DONE (R158): while start-up waits for the scan, the directory is set and start-up goes on. -/
def execStartupScanDone (s : State) : Host.Outcome State Fault Refusal :=
  if s.csq.state = .starting ∧ s.csq.scanDone = false then
    let s := s.setPfs { s.pfs with directory := scanDirectory s.pfs.slots }
    .next (pump (startUpProgress (s.setCsq { s.csq with scanDone := true })))
  else .next s

/-- The receiver after a soft reset (R3). -/
def Receiver.softReset (p : Receiver) : Receiver :=
  { p with state := .idle, lineNumber := 0, openLine := [], patched := 0, received := 0, leading := 0, lastLine := none,
           readoutTimer := none, exposureTimer := none }

/-- The corrector after a soft reset (R40). -/
def Photometric.softReset (p : Photometric) : Photometric :=
  { p with darkSum := none, lin0 := LinearBuffer.blank, lin1 := LinearBuffer.blank, accF := Accumulator.blank,
           accB := Accumulator.blank, finalise := none }

/-- Every zone UNMEASURED, its results cleared and its revised mark clear (R62). -/
def clearedZones (zones : Vector Zone 8) : Vector Zone 8 :=
  zones.map fun z => { z with result := ZoneResult.cleared, revised := false }

/-- The Metering Unit after a soft reset (R62). -/
def Metering.softReset (m : Metering) : Metering := { m with zones := clearedZones m.zones, measurement := none }

/-- The Lamp Controller after a soft reset (R77). -/
def Lamps.softReset (l : Lamps) : Lamps :=
  { l with flood := { l.flood with lastLit := none }, beam := { l.beam with lastLit := none },
           steering := clearedZones l.steering, lit := none }

/-- The sequencer after a soft reset, entering HALT when a halt cause holds (R96). -/
def Sequencer.softReset (q : Sequencer) (halted : Bool) : Sequencer :=
  { State.reset.csq with
    state := if halted then .halt else .idle, scanDone := q.scanDone, loadChosen := q.loadChosen, autostart := q.autostart,
    interval := q.interval, paced := q.paced, autoswitch := q.autoswitch }

/-- The Output Queue after a soft reset (R122). -/
def Output.softReset (o : Output) : Output :=
  { o with slots := State.reset.ofq.slots, readyOrder := [], frameCounter := 0, send := none,
           periodTimer := if o.sendMode = .fixedRate then some o.sendPeriod else none }

/-- The store after a soft reset: a long operation is cut off with last result ABORTED (R155). -/
def Store.softReset (p : Store) (draw : Nat) : Store :=
  { p with op := none, lastResult := if p.op.isSome then .aborted else p.lastResult, standby := none,
           boot := p.bootView draw }

/-- The Head Probe after a soft reset (R167). -/
def Probe.softReset (p : Probe) : Probe :=
  { p with conv := .idle, nextKind := .id, forceHeld := false, periodTimer := p.probePeriod, candidate := none }

/-- The Condition Unit after a soft reset: ZONE_OUT, GLARE and UNDERLIT are recorded as 0 with no edge (R173). -/
def Conditions.softReset (c : Conditions) : Conditions :=
  { c with
    live := withSourceBit (withSourceBit (withSourceBit c.live Source.zoneOut.number false) Source.glare.number false)
      Source.underlit.number false,
    latches := 0, noticePending := false }

/-- The Command Link after a soft reset (R175, R182). -/
def Link.softReset (l : Link) : Link :=
  { l with rx := .hunt, holding := [], replies := [], tx := none, resetTaken := false }

/-- A soft reset: every block takes its soft-reset values (R182). -/
def softReset (s : State) : State :=
  { pxr := s.pxr.softReset, phc := s.phc.softReset, rme := { s.rme with job := none }, mtu := s.mtu.softReset,
    lpc := s.lpc.softReset, csq := s.csq.softReset (haltCause s), ofq := s.ofq.softReset, pfs := s.pfs.softReset s.draws,
    hpb := s.hpb.softReset, cdu := s.cdu.softReset, cml := s.cml.softReset,
    draws := if s.pfs.bootWriting then s.draws + 1 else s.draws, pending := s.pending }

end Sys2Proof.Machine
end

