-- ==== Sys2Proof/Machine/LinkEvents.lean ====
section
/-! DEFINITION. The link's events (chapter 11): FRAME_RECEIVED, BYTE_GAP_TIMEOUT, LEN_OUT_OF_RANGE, FRAME_SENT, BAD_KIND. -/

namespace Sys2Proof.Machine

/-- FRAME_RECEIVED (R175): the bytes arrive, each taken by the receiver in turn. -/
def execFrameReceived (bytes : List Byte) (s : State) : Host.Outcome State Fault Refusal :=
  .next (pump (bytes.foldl rxByte s))

/-- BYTE_GAP_TIMEOUT (R175): inside a frame, the frame is discarded and the receiver returns to HUNT. -/
def execByteGapTimeout (s : State) : Host.Outcome State Fault Refusal := .next (setRx .hunt s)

/-- LEN_OUT_OF_RANGE (R175): the start byte, unless it has come already, and then the LEN byte. -/
def execLenOutOfRange (len : Byte) (s : State) : Host.Outcome State Fault Refusal :=
  match s.cml.rx with
  | .hunt => .next (rxByte (rxByte s Config.startByte) len)
  | .length => .next (rxByte s len)
  | _ => .next s

/-- A frame's sending has completed (R176, R177, R182): a reply frees its held request, the OK reply of an RSET starts the soft
reset, and the transmitter is idle. -/
def endSending (t : Sending) (s : State) : State :=
  match t with
  | .notice _ => s.setCml { s.cml with tx := none }
  | .reply _ resets =>
    if resets then softReset s else s.setCml { s.cml with tx := none, holding := s.cml.holding.tail }

/-- FRAME_SENT (R177). -/
def execFrameSent (s : State) : Host.Outcome State Fault Refusal :=
  match s.cml.tx with
  | none => .next s
  | some t => .next (pump (endSending t s))

/-- BAD_KIND (R176): a request whose KIND is not in the request index. -/
def execBadKind (kind : Byte) (body : List Byte) (s : State) : Host.Outcome State Fault Refusal :=
  if knownKind kind then .next s else .next (serve ⟨kind, body⟩ (refuse .badKind) s)

end Sys2Proof.Machine
end

