-- ==== Sys2Proof/Machine/Params.lean ====
section
/-! DEFINITION. The parameters (R181): what PGET returns, what each accepted PSET stores and answers, and the requests PGET,
PSET and the rows of the table that name one parameter of PSET. -/

namespace Sys2Proof.Machine

/-! ## Reading -/

/-- 0 or 1 for a setting with two values, 1 when `v`. -/
def oneIf (v : Bool) : Int := if v then 1 else 0

/-- The stored value of every parameter but LABEL, with its encoding (R181). -/
def paramInt (p : Param) (b : Bank) (s : State) : Int :=
  match p with
  | .align => oneIf (s.pxr.align = .low)
  | .depth => if s.pxr.depth = .ten then 10 else 12
  | .readoutTimeout => s.pxr.readoutTimeout
  | .patchLimit => s.pxr.patchLimit
  | .blackMode => oneIf (s.phc.blackMode = .manual)
  | .blackLevel => s.phc.black
  | .darkEvery => s.phc.darkEvery
  | .clipLevel => s.mtu.clipLevel
  | .fill => s.rme.fill
  | .mode => oneIf ((s.lpc.bank b).mode = .manual)
  | .level => (s.lpc.bank b).level
  | .min => (s.lpc.bank b).min
  | .max => (s.lpc.bank b).max
  | .expo => (s.lpc.bank b).expo
  | .target => (s.lpc.bank b).target
  | .steer => ((s.lpc.bank b).steer.map Fin.val).getD 255
  | .deadband => s.lpc.deadband
  | .ceiling => s.lpc.ceiling
  | .derateStart => s.lpc.derateStart
  | .cutoff => s.lpc.cutoffAt
  | .interval => s.csq.interval
  | .paced => oneIf s.csq.paced
  | .autoswitch => oneIf s.csq.autoswitch
  | .policy => oneIf (s.ofq.policy = .keepOld)
  | .sendMode => oneIf (s.ofq.sendMode = .fixedRate)
  | .sendPeriod => s.ofq.sendPeriod
  | .streamFormat => oneIf (s.ofq.streamFormat = .linear16)
  | .riseEn => s.cdu.riseEn.toNat
  | .fallEn => s.cdu.fallEn.toNat
  | .noticeEn => oneIf s.cdu.noticeEn
  | .probePeriod => s.hpb.probePeriod
  | .profileId => s.pfs.ws.content.profileId
  | .headBind => s.pfs.ws.content.head.getD 255
  | .bankSet => oneIf s.pfs.ws.content.beam.isSome
  | .outWidth => s.pfs.ws.content.width
  | .outHeight => s.pfs.ws.content.height
  | .hasTone => oneIf s.pfs.ws.content.tone.isSome
  | .label => 0

/-- The bytes PGET gives for a parameter (R181): four, or the 16 of LABEL. -/
def paramBytes (p : Param) (b : Bank) (s : State) : List Byte :=
  if p = .label then s.pfs.ws.content.label else le32s (paramInt p b s)

/-! ## Storing -/

/-- A magnitude: clamped to `lo..hi`, stored, and answered OK or OK_CLAMPED with the stored value (R181). -/
def storeClamped (lo hi v : Int) (put : Nat → State → State) (s : State) : Answer :=
  answerStored v (clampInt lo hi v) (put (clampInt lo hi v).toNat s)

/-- An enumeration, index or structural value: BAD_PARAM outside its set, else stored and answered OK (R181). -/
def storeChoice {α : Type} (choice : Option α) (v : Int) (put : α → State → State) (s : State) : Answer :=
  match choice with
  | some a => accept (le32s v) (put a s)
  | none => refuse .badParam s

/-- The value of a setting coded 0 and 1. -/
def twoWay {α : Type} (zero one : α) (v : Int) : Option α := if v = 0 then some zero else if v = 1 then some one else none

/-- A value of ALIGN or DEPTH: one of its set is refused with BAD_STATE unless the part is quiescent (R8). -/
def storeQuiescent {α : Type} (choice : Option α) (v : Int) (put : α → State → State) (s : State) : Answer :=
  if choice.isSome ∧ quiescent s = false then refuse .badState s else storeChoice choice v put s

/-- PSET of ALIGN (R8). -/
def writeAlign (v : Int) (s : State) : Answer :=
  storeQuiescent (twoWay Align.high .low v) v (fun a s => s.setPxr { s.pxr with align := a }) s

/-- PSET of DEPTH (R8). -/
def writeDepth (v : Int) (s : State) : Answer :=
  storeQuiescent (if v = 12 then some Depth.twelve else if v = 10 then some .ten else none) v
    (fun d s => s.setPxr { s.pxr with depth := d }) s

/-- PSET of READOUT_TIMEOUT (R15). -/
def writeReadoutTimeout (v : Int) (s : State) : Answer :=
  storeClamped 5000 200000 v (fun n s => s.setPxr { s.pxr with readoutTimeout := n }) s

/-- PSET of PATCH_LIMIT (R15). -/
def writePatchLimit (v : Int) (s : State) : Answer :=
  storeClamped 0 64 v (fun n s => s.setPxr { s.pxr with patchLimit := n }) s

/-- PSET of BLACK_MODE (R18). -/
def writeBlackMode (v : Int) (s : State) : Answer :=
  storeChoice (twoWay AutoMode.auto .manual v) v (fun m s => s.setPhc { s.phc with blackMode := m }) s

/-- PSET of BLACK_LEVEL (R18). -/
def writeBlackLevel (v : Int) (s : State) : Answer :=
  if s.phc.blackMode = .auto then refuse .badState s
  else storeClamped 0 1023 v (fun n s => s.setPhc { s.phc with black := n }) s

/-- PSET of DARK_EVERY (R20). When the new value is first used: `darkDue` (log entry 40). -/
def writeDarkEvery (v : Int) (s : State) : Answer :=
  storeClamped 0 255 v (fun n s => s.setPhc { s.phc with darkEvery := n }) s

/-- PSET of CLIP_LEVEL (R65). -/
def writeClipLevel (v : Int) (s : State) : Answer :=
  storeClamped 0 4095 v (fun n s => s.setMtu { s.mtu with clipLevel := n }) s

/-- PSET of FILL (R55). -/
def writeFill (v : Int) (s : State) : Answer := storeClamped 0 255 v (fun n s => s.setRme { s.rme with fill := n }) s

/-- A bank's settings replaced, and UNDERLIT recomputed (R78, R79, R91). -/
def setBankReport (b : Bank) (x : BankLamp) (s : State) : State := reportUnderlit (s.setLpc (s.lpc.setBank b x))

/-- PSET of a bank's MODE (R79). -/
def writeMode (b : Bank) (v : Int) (s : State) : Answer :=
  storeChoice (twoWay AutoMode.auto .manual v) v (fun m s => setBankReport b { s.lpc.bank b with mode := m } s) s

/-- The level a PSET of LEVEL stores: the value clamped to 0..1023 and then to MIN..MAX (R78). -/
def levelStored (x : BankLamp) (v : Int) : Nat := boundedLevel x (clampNat 0 1023 v)

/-- PSET of a bank's LEVEL (R78). -/
def writeLevel (b : Bank) (v : Int) (s : State) : Answer :=
  let n := levelStored (s.lpc.bank b) v
  answerStored v n (setBankReport b { s.lpc.bank b with level := n } s)

/-- A bank with new bounds, its stored level brought within them (R78). -/
def BankLamp.bounded (x : BankLamp) (lo hi : Nat) : BankLamp :=
  { x with min := lo, max := hi, level := Nat.min (Nat.max x.level lo) hi }

/-- PSET of a bank's MIN: clamped to 0..1023 and then to MAX (R78). -/
def writeMin (b : Bank) (v : Int) (s : State) : Answer :=
  let x := s.lpc.bank b
  let n := Nat.min (clampNat 0 1023 v) x.max
  answerStored v n (setBankReport b (x.bounded n x.max) s)

/-- PSET of a bank's MAX: clamped to 0..1023 and then to MIN (R78). -/
def writeMax (b : Bank) (v : Int) (s : State) : Answer :=
  let x := s.lpc.bank b
  let n := Nat.max (clampNat 0 1023 v) x.min
  answerStored v n (setBankReport b (x.bounded x.min n) s)

/-- PSET of a bank's EXPO (R78). -/
def writeExpo (b : Bank) (v : Int) (s : State) : Answer :=
  storeClamped 50 8000 v (fun n s => setBankReport b { s.lpc.bank b with expo := n } s) s

/-- PSET of a bank's TARGET (R78). -/
def writeTarget (b : Bank) (v : Int) (s : State) : Answer :=
  storeClamped 0 4095 v (fun n s => s.setLpc (s.lpc.setBank b { s.lpc.bank b with target := n })) s

/-- A steering zone's value: a zone 0..7, or 255 for none (R181). -/
def steerOf (v : Int) : Option (Option (Fin 8)) :=
  if v = 255 then some none else if 0 ≤ v then (finOf 8 v.toNat).map some else none

/-- PSET of a bank's STEER (R79). -/
def writeSteer (b : Bank) (v : Int) (s : State) : Answer :=
  storeChoice (steerOf v) v (fun z s => setBankReport b { s.lpc.bank b with steer := z } s) s

/-- PSET of DEADBAND (R80). -/
def writeDeadband (v : Int) (s : State) : Answer :=
  storeClamped 0 1024 v (fun n s => s.setLpc { s.lpc with deadband := n }) s

/-- PSET of CEILING (R80). -/
def writeCeiling (v : Int) (s : State) : Answer :=
  storeClamped 10000 s.lpc.startupCeiling v (fun n s => reportUnderlit (s.setLpc { s.lpc with ceiling := n })) s

/-- PSET of DERATE_START: clamped, refused at or above CUTOFF, and followed by the steps of R84 (R81). -/
def writeDerateStart (v : Int) (s : State) : Answer :=
  let t := clampInt (-80) 248 v
  if s.lpc.cutoffAt ≤ t then refuse .badParam s
  else answerStored v t (afterTemperature (s.setLpc { s.lpc with derateStart := t }))

/-- PSET of CUTOFF: clamped, refused at or below DERATE_START, and followed by the steps of R84 (R81). -/
def writeCutoff (v : Int) (s : State) : Answer :=
  let t := clampInt (-70) 249 v
  if t ≤ s.lpc.derateStart then refuse .badParam s
  else answerStored v t (afterTemperature (s.setLpc { s.lpc with cutoffAt := t }))

/-- PSET of INTERVAL (R99). -/
def writeInterval (v : Int) (s : State) : Answer :=
  storeClamped 20000 1000000 v (fun n s => s.setCsq { s.csq with interval := n }) s

/-- PSET of PACED (R99). -/
def writePaced (v : Int) (s : State) : Answer :=
  storeChoice (twoWay false true v) v (fun on s => s.setCsq { s.csq with paced := on }) s

/-- PSET of AUTOSWITCH (R113). -/
def writeAutoswitch (v : Int) (s : State) : Answer :=
  storeChoice (twoWay false true v) v (fun on s => s.setCsq { s.csq with autoswitch := on }) s

/-- PSET of POLICY (R132). -/
def writePolicy (v : Int) (s : State) : Answer :=
  storeChoice (twoWay Policy.keepNew .keepOld v) v (fun p s => s.setOfq { s.ofq with policy := p }) s

/-- The queue at a write of SEND_MODE (R131): nothing changes when the mode is in force already. -/
def Output.changeMode (o : Output) (m : SendMode) : Output :=
  if o.sendMode = m then o
  else match m with
    | .fixedRate => { o with sendMode := .fixedRate, periodTimer := some o.sendPeriod }
    | .onDemand =>
      let o := { o with sendMode := .onDemand, periodTimer := none }
      let o := match o.heldSlot with
        | some h => o.free h
        | none => o
      o.sendHead

/-- PSET of SEND_MODE (R131). -/
def writeSendMode (v : Int) (s : State) : Answer :=
  storeChoice (twoWay SendMode.onDemand .fixedRate v) v (fun m s => s.setOfq (s.ofq.changeMode m)) s

/-- PSET of SEND_PERIOD (R132). -/
def writeSendPeriod (v : Int) (s : State) : Answer :=
  storeClamped 20000 1000000 v (fun n s => s.setOfq { s.ofq with sendPeriod := n }) s

/-- PSET of STREAM_FORMAT (R132). -/
def writeStreamFormat (v : Int) (s : State) : Answer :=
  storeChoice (twoWay PixelFormat.toned8 .linear16 v) v (fun f s => s.setOfq { s.ofq with streamFormat := f }) s

/-- The new mask of an update style (R170). -/
def styled (st : UpdateStyle) (old v : Word16) : Word16 :=
  match st with
  | .write => v
  | .set => old ||| v
  | .clear => old &&& ~~~v

/-- A mask written: BAD_PARAM outside 0..0xFFFF, else OK with the mask as stored (R170). -/
def storeMask (st : UpdateStyle) (old : Word16) (v : Int) (put : Word16 → State → State) (s : State) : Answer :=
  if 0 ≤ v ∧ v ≤ 65535 then
    accept (le32s (styled st old (BitVec.ofInt 16 v)).toNat) (put (styled st old (BitVec.ofInt 16 v)) s)
  else refuse .badParam s

/-- PSET of RISE_EN (R170). -/
def writeRiseEn (st : UpdateStyle) (v : Int) (s : State) : Answer :=
  storeMask st s.cdu.riseEn v (fun m s => s.setCdu { s.cdu with riseEn := m }) s

/-- PSET of FALL_EN (R170). -/
def writeFallEn (st : UpdateStyle) (v : Int) (s : State) : Answer :=
  storeMask st s.cdu.fallEn v (fun m s => s.setCdu { s.cdu with fallEn := m }) s

/-- The Condition Unit at a write of NOTICE_EN (R171): turning it off cancels a pending notice, turning it on with a latch set
makes one pending, and the value it holds already changes nothing. -/
def Conditions.setNotice (c : Conditions) (on : Bool) : Conditions :=
  if c.noticeEn = on then c
  else { c with noticeEn := on, noticePending := on && (c.noticePending || c.latches ≠ 0) }

/-- PSET of NOTICE_EN (R170, R171). -/
def writeNoticeEn (v : Int) (s : State) : Answer :=
  storeChoice (twoWay false true v) v (fun on s => s.setCdu (s.cdu.setNotice on)) s

/-- PSET of PROBE_PERIOD (R166). -/
def writeProbePeriod (v : Int) (s : State) : Answer :=
  storeClamped 10 1000 v (fun n s => s.setHpb { s.hpb with probePeriod := n }) s

/-! ### Header fields of the working set (R143, R144) -/

/-- A header field: BAD_PARAM outside its accepted values, else written when the working set is open (R143). -/
def storeHeader (v : Int) (c : Option Content) (s : State) : Answer :=
  match c with
  | some c => writeWhenOpen ⟨.ok, le32s v⟩ c s
  | none => refuse .badParam s

/-- The content after a write of PROFILE_ID. -/
def Content.withId (c : Content) (v : Int) : Option Content :=
  if 1 ≤ v ∧ v ≤ 65535 then some { c with profileId := v.toNat } else none

/-- The content after a write of HEAD_BIND. -/
def Content.withHead (c : Content) (v : Int) : Option Content :=
  if v = 255 then some { c with head := none }
  else if 0 ≤ v ∧ v ≤ 11 then some { c with head := some v.toNat }
  else none

/-- The tables of bank B as they are created: unity gain and equal shares (R144). -/
def BeamTables.fresh : BeamTables :=
  { gainB := List.replicate Config.gainEntries 4096, weight := List.replicate Config.gainEntries 128 }

/-- The content after a write of BANK_SET (R144). -/
def Content.withBankSet (c : Content) (v : Int) : Option Content :=
  if v = 0 then some { c with beam := none }
  else if v = 1 then some { c with beam := some (c.beam.getD BeamTables.fresh) }
  else none

/-- An output size that OUT_WIDTH and OUT_HEIGHT accept (R143). -/
def sizeOk (v : Int) : Bool := 256 ≤ v ∧ v ≤ 1024 ∧ v % 16 = 0

/-- The content after a write of OUT_WIDTH: MESH refilled with the plain map (R144). -/
def Content.withWidth (c : Content) (v : Int) : Option Content :=
  if sizeOk v then some { c with width := v.toNat, mesh := plainMap v.toNat c.height } else none

/-- The content after a write of OUT_HEIGHT: MESH refilled with the plain map (R144). -/
def Content.withHeight (c : Content) (v : Int) : Option Content :=
  if sizeOk v then some { c with height := v.toNat, mesh := plainMap c.width v.toNat } else none

/-- The content after a write of HAS_TONE (R144). -/
def Content.withTone (c : Content) (v : Int) : Option Content :=
  if v = 0 then some { c with tone := none }
  else if v = 1 then some { c with tone := some (c.tone.getD builtInCurve) }
  else none

/-- PSET of PROFILE_ID (R143). -/
def writeProfileId (v : Int) (s : State) : Answer := storeHeader v (s.pfs.ws.content.withId v) s

/-- PSET of HEAD_BIND (R143). -/
def writeHeadBind (v : Int) (s : State) : Answer := storeHeader v (s.pfs.ws.content.withHead v) s

/-- PSET of BANK_SET (R143, R144). -/
def writeBankSet (v : Int) (s : State) : Answer := storeHeader v (s.pfs.ws.content.withBankSet v) s

/-- PSET of OUT_WIDTH (R143, R144). -/
def writeOutWidth (v : Int) (s : State) : Answer := storeHeader v (s.pfs.ws.content.withWidth v) s

/-- PSET of OUT_HEIGHT (R143, R144). -/
def writeOutHeight (v : Int) (s : State) : Answer := storeHeader v (s.pfs.ws.content.withHeight v) s

/-- PSET of HAS_TONE (R143, R144). -/
def writeHasTone (v : Int) (s : State) : Answer := storeHeader v (s.pfs.ws.content.withTone v) s

/-- PSET of LABEL (R143). -/
def writeLabel (bytes : List Byte) (s : State) : Answer :=
  writeWhenOpen ⟨.ok, bytes⟩ { s.pfs.ws.content with label := bytes } s

/-! ## PSET -/

/-- The owner of a parameter stores a value (R181, step 3). -/
def writeParam (p : Param) (b : Bank) (st : UpdateStyle) (value : List Byte) (s : State) : Answer :=
  let v := fromLe32s value
  match p with
  | .align => writeAlign v s
  | .depth => writeDepth v s
  | .readoutTimeout => writeReadoutTimeout v s
  | .patchLimit => writePatchLimit v s
  | .blackMode => writeBlackMode v s
  | .blackLevel => writeBlackLevel v s
  | .darkEvery => writeDarkEvery v s
  | .clipLevel => writeClipLevel v s
  | .fill => writeFill v s
  | .mode => writeMode b v s
  | .level => writeLevel b v s
  | .min => writeMin b v s
  | .max => writeMax b v s
  | .expo => writeExpo b v s
  | .target => writeTarget b v s
  | .steer => writeSteer b v s
  | .deadband => writeDeadband v s
  | .ceiling => writeCeiling v s
  | .derateStart => writeDerateStart v s
  | .cutoff => writeCutoff v s
  | .interval => writeInterval v s
  | .paced => writePaced v s
  | .autoswitch => writeAutoswitch v s
  | .policy => writePolicy v s
  | .sendMode => writeSendMode v s
  | .sendPeriod => writeSendPeriod v s
  | .streamFormat => writeStreamFormat v s
  | .riseEn => writeRiseEn st v s
  | .fallEn => writeFallEn st v s
  | .noticeEn => writeNoticeEn v s
  | .probePeriod => writeProbePeriod v s
  | .profileId => writeProfileId v s
  | .headBind => writeHeadBind v s
  | .bankSet => writeBankSet v s
  | .outWidth => writeOutWidth v s
  | .outHeight => writeOutHeight v s
  | .hasTone => writeHasTone v s
  | .label => writeLabel value s

/-- The checks of a PSET before its owner's (R181, steps 1 and 2): the bank byte of a per-bank parameter, the style, SET and
CLEAR on a mask alone, and, as BAD_PARAM, a value of another parameter's width (log entry 4). -/
def checkPset (p : Param) (bank style : Byte) (value : List Byte) (s : State) : Answer :=
  match UpdateStyle.ofByte style with
  | some st =>
    if p.perBank = true ∧ (bankOfByte bank).isNone then refuse .badParam s
    else if st ≠ .write ∧ p.isMask = false then refuse .badParam s
    else if psetWidthOk (byte p.code) value.length then writeParam p ((bankOfByte bank).getD .flood) st value s
    else refuse .badParam s
  | none => refuse .badParam s

/-- PSET's owner, from its body (R181). -/
def psetOwner (body : List Byte) (s : State) : Answer :=
  match body with
  | code :: bank :: style :: value =>
    match Param.ofCode code with
    | some p => checkPset p bank style value s
    | none => refuse .badParam s
  | _ => refuse .badParam s

/-- The PSET request of a parameter. -/
def psetRequest (p : Param) (bank style : Byte) (value : List Byte) : Request :=
  ⟨0x04, byte p.code :: bank :: style :: value⟩

/-- A PSET of one parameter served. -/
def servePset (p : Param) (bank style : Byte) (value : List Byte) (s : State) : State :=
  serve (psetRequest p bank style value) (checkPset p bank style value) s

/-- PGET's owner, from its body (R181). -/
def pgetOwner (body : List Byte) (s : State) : Answer :=
  match Param.ofCode (body.getD 0 0) with
  | some p =>
    if p.perBank = true ∧ (bankOfByte (body.getD 1 0)).isNone then refuse .badParam s
    else accept (paramBytes p ((bankOfByte (body.getD 1 0)).getD .flood) s) s
  | none => refuse .badParam s

/-! ## The commands -/

/-- PGET (R181). -/
def execPget (body : List Byte) (s : State) : Host.Outcome State Fault Refusal :=
  .next (serve ⟨0x03, body⟩ (pgetOwner body) s)

/-- PSET (R181) of a parameter with no row of its own. -/
def execPset (body : List Byte) (s : State) : Host.Outcome State Fault Refusal :=
  .next (serve ⟨0x04, body⟩ (psetOwner body) s)

/-- PSET_LEVEL (R78). -/
def execPsetLevel (bank style : Byte) (value : Word32) (s : State) : Host.Outcome State Fault Refusal :=
  .next (servePset .level bank style (word32Bytes value) s)

/-- PSET_MIN (R78). -/
def execPsetMin (bank style : Byte) (value : Word32) (s : State) : Host.Outcome State Fault Refusal :=
  .next (servePset .min bank style (word32Bytes value) s)

/-- PSET_MAX (R78, R82, R83). -/
def execPsetMax (bank style : Byte) (value : Word32) (s : State) : Host.Outcome State Fault Refusal :=
  .next (servePset .max bank style (word32Bytes value) s)

/-- PSET_EXPO (R78, R83). -/
def execPsetExpo (bank style : Byte) (value : Word32) (s : State) : Host.Outcome State Fault Refusal :=
  .next (servePset .expo bank style (word32Bytes value) s)

/-- PSET_MODE (R79). -/
def execPsetMode (bank style : Byte) (value : Word32) (s : State) : Host.Outcome State Fault Refusal :=
  .next (servePset .mode bank style (word32Bytes value) s)

/-- PSET_STEER (R79). -/
def execPsetSteer (bank style : Byte) (value : Word32) (s : State) : Host.Outcome State Fault Refusal :=
  .next (servePset .steer bank style (word32Bytes value) s)

/-- PSET_CEILING (R80). -/
def execPsetCeiling (bank style : Byte) (value : Word32) (s : State) : Host.Outcome State Fault Refusal :=
  .next (servePset .ceiling bank style (word32Bytes value) s)

/-- PSET_DERATE_START (R81). -/
def execPsetDerateStart (bank style : Byte) (value : Word32) (s : State) : Host.Outcome State Fault Refusal :=
  .next (servePset .derateStart bank style (word32Bytes value) s)

/-- PSET_CUTOFF (R81). -/
def execPsetCutoff (bank style : Byte) (value : Word32) (s : State) : Host.Outcome State Fault Refusal :=
  .next (servePset .cutoff bank style (word32Bytes value) s)

/-- PSET_SEND_MODE (R131). -/
def execPsetSendMode (bank style : Byte) (value : Word32) (s : State) : Host.Outcome State Fault Refusal :=
  .next (servePset .sendMode bank style (word32Bytes value) s)

/-- PSET_RISE_EN (R170). -/
def execPsetRiseEn (bank style : Byte) (value : Word32) (s : State) : Host.Outcome State Fault Refusal :=
  .next (servePset .riseEn bank style (word32Bytes value) s)

/-- PSET_FALL_EN (R170). -/
def execPsetFallEn (bank style : Byte) (value : Word32) (s : State) : Host.Outcome State Fault Refusal :=
  .next (servePset .fallEn bank style (word32Bytes value) s)

/-- PSET_NOTICE_EN (R170, R171). -/
def execPsetNoticeEn (bank style : Byte) (value : Word32) (s : State) : Host.Outcome State Fault Refusal :=
  .next (servePset .noticeEn bank style (word32Bytes value) s)

/-- PSET_OUT_WIDTH (R143, R144). -/
def execPsetOutWidth (bank style : Byte) (value : Word32) (s : State) : Host.Outcome State Fault Refusal :=
  .next (servePset .outWidth bank style (word32Bytes value) s)

/-- PSET_OUT_HEIGHT (R143, R144). -/
def execPsetOutHeight (bank style : Byte) (value : Word32) (s : State) : Host.Outcome State Fault Refusal :=
  .next (servePset .outHeight bank style (word32Bytes value) s)

/-- PSET_BANK_SET (R143, R144). -/
def execPsetBankSet (bank style : Byte) (value : Word32) (s : State) : Host.Outcome State Fault Refusal :=
  .next (servePset .bankSet bank style (word32Bytes value) s)

/-- PSET_HAS_TONE (R143, R144). -/
def execPsetHasTone (bank style : Byte) (value : Word32) (s : State) : Host.Outcome State Fault Refusal :=
  .next (servePset .hasTone bank style (word32Bytes value) s)

/-- PSET_PROFILE_ID (R143). -/
def execPsetProfileId (bank style : Byte) (value : Word32) (s : State) : Host.Outcome State Fault Refusal :=
  .next (servePset .profileId bank style (word32Bytes value) s)

/-- PSET_HEAD_BIND (R143). -/
def execPsetHeadBind (bank style : Byte) (value : Word32) (s : State) : Host.Outcome State Fault Refusal :=
  .next (servePset .headBind bank style (word32Bytes value) s)

/-- PSET_LABEL (R143). -/
def execPsetLabel (bank style : Byte) (label : List Byte) (s : State) : Host.Outcome State Fault Refusal :=
  .next (servePset .label bank style label s)

end Sys2Proof.Machine
end

