-- ==== Sys2Proof/Machine/Pictures.lean ====
section
/-! DEFINITION. Renders and sends (chapters 03, 07): RENDER_START, RENDER_COMPLETE, SEND_START, SEND_PERIOD_EXPIRY, MODEM_READY,
SEND_COMPLETE; and what an idle moment does to a render. -/

namespace Sys2Proof.Machine

/-- A tracked still's phase replaced, by its tag. -/
def setPhase (tag : Nat) (p : StillPhase) (later : List StillTrack) : List StillTrack :=
  later.map fun a => if a.req.tag = tag then { a with phase := p } else a

/-- A render starts into its reserved slot (R42, R43, R44): the job is filled, and the slot's header takes the picture's form
and the values passed with the job. -/
def startRender (w : Waiting) (j : RenderJob) (s : State) : State :=
  let x := s.ofq.slots[j.dest]
  let s := s.setOfq { s.ofq with
    slots := s.ofq.slots.set j.dest { x with form := some (formOf s.pfs.ws j), values := some w.values, pixels := [] } }
  s.setRme { s.rme with job := some j }

/-- The first buffer awaiting render leaves the list. -/
def takeWaiting (s : State) : State := s.setCsq { s.csq with awaiting := s.csq.awaiting.tail }

/-- A stream frame's WHOLE buffer is offered (R42, R124): a slot is reserved and the render starts, or the frame is discarded. -/
def offerStream (w : Waiting) (s : State) : State :=
  let s := takeWaiting s
  match s.ofq.streamClaim with
  | some claim =>
    let s := reserveSlot claim .stream s
    startRender w
      (startJob s.pfs.ws.content w.buffer claim.1 .stream .corrected s.ofq.streamFormat none s.rme.fill) s
  | none => raise .frameDropped (releaseBuffer w.buffer s)

/-- A still's WHOLE buffer is offered: its reserved slot is rendered into (R42, R111). -/
def offerStill (w : Waiting) (tag : Nat) (a : StillTrack) (s : State) : State :=
  let s := takeWaiting s
  let s := s.setCsq { s.csq with later := setPhase tag .rendering s.csq.later }
  startRender w
    (startJob s.pfs.ws.content w.buffer a.slot (.still tag) a.req.geometry a.req.format a.req.crop s.rme.fill) s

/-- RENDER_START (R42, R102, R124): the oldest WHOLE buffer awaiting render is offered to the IDLE engine. -/
def execRenderStart (s : State) : Host.Outcome State Fault Refusal :=
  match s.rme.job, s.csq.awaiting with
  | none, w :: _ =>
    match w.kind with
    | .stream => .next (pump (offerStream w s))
    | .still tag =>
      match s.csq.later.find? fun a => a.req.tag = tag with
      | some a => .next (offerStill w tag a s)
      | none => .next s
  | _, _ => .next s

/-- A slot's pixel rows with more rows written (R45). -/
def writeRows (i : Fin 4) (rows : List (List Nat)) (s : State) : State :=
  s.setOfq { s.ofq with slots := s.ofq.slots.set i { s.ofq.slots[i] with pixels := s.ofq.slots[i].pixels ++ rows } }

/-- A finished slot goes from RESERVED to READY and joins the ready order (R126). -/
def queuePicture (i : Fin 4) (s : State) : State :=
  s.setOfq { s.ofq.setSlotState i .ready with readyOrder := s.ofq.joinReady i }

/-- The stills with the rendered picture's one QUEUED (R111). -/
def queuedStills (k : PictureKind) (later : List StillTrack) : List StillTrack :=
  match k with
  | .still tag => setPhase tag .queued later
  | .stream => later

/-- RENDER_COMPLETE (R45, R56, R126): the rows left are written, the source buffer becomes EMPTY, the slot becomes READY in the
ready order, and the engine is IDLE. -/
def execRenderComplete (s : State) : Host.Outcome State Fault Refusal :=
  match s.rme.job with
  | none => .next s
  | some j =>
    let rows := renderRest s.pfs.ws.content j (s.phc.lin j.source).rows
    let s := queuePicture j.dest (writeRows j.dest rows s)
    let s := s.setPhc (s.phc.setLin j.source LinearBuffer.blank)
    let s := s.setCsq { s.csq with later := queuedStills j.kind s.csq.later }
    .next (s.setRme { s.rme with job := none })

/-- A moment with no command: a render in progress finishes one more output row, but never its last, which RENDER_COMPLETE
finishes (R45; log entry 8). -/
def idleMoment (s : State) : State :=
  match s.rme.job with
  | none => s
  | some j =>
    if j.nextRow + 1 < j.height then
      let row := renderRow s.pfs.ws.content j (s.phc.lin j.source).rows j.nextRow
      (writeRows j.dest [row] s).setRme { s.rme with job := some { j with nextRow := j.nextRow + 1 } }
    else s

/-- SEND_START (R127): in ON_DEMAND mode, with the port idle, the head of the ready order is sent. -/
def execSendStart (s : State) : Host.Outcome State Fault Refusal :=
  if s.ofq.sendMode = .onDemand then .next (s.setOfq s.ofq.sendHead) else .next s

/-- What a period expiry sends (R128). -/
def Output.periodSend (o : Output) : Output :=
  match o.send, o.readyOrder, o.heldSlot with
  | some _, _, _ => o
  | none, i :: _, _ => o.begin i false
  | none, [], some h => o.begin h true
  | none, [], none => o

/-- SEND_PERIOD_EXPIRY (R128): the running period timer restarts with SEND_PERIOD and the expiry is acted on. -/
def execSendPeriodExpiry (s : State) : Host.Outcome State Fault Refusal :=
  match s.ofq.periodTimer with
  | none => .next s
  | some _ => .next (s.setOfq { s.ofq.periodSend with periodTimer := some s.ofq.sendPeriod })

/-- The slots after a send's completion (R130): the slot sent is FREE in ON_DEMAND mode, and HELD in FIXED_RATE mode, where
another slot that was HELD becomes FREE. -/
def Output.sent (o : Output) (i : Fin 4) : Output :=
  match o.sendMode with
  | .onDemand => { o.free i with send := none }
  | .fixedRate =>
    let o' := match o.heldSlot with
      | some h => if h = i then o else o.free h
      | none => o
    { o'.setSlotState i .held with send := none }

/-- The first send of a still's slot completes: STILL_DONE is raised and the still's tag is released (R111, R130). -/
def finishStill (tag : Nat) (s : State) : State :=
  raise .stillDone (s.setCsq { s.csq with later := s.csq.later.filter fun a => a.req.tag ≠ tag })

/-- A send completes (R130). -/
def completeSend (snd : Send) (s : State) : State :=
  let kind := s.ofq.slots[snd.slot].kind
  let s := s.setOfq (s.ofq.sent snd.slot)
  match kind, snd.isRepeat with
  | .still tag, false => pump (finishStill tag s)
  | _, _ => s

/-- MODEM_READY (R129): the modem takes the byte presented, and the port goes on to the next; taking the frame's last byte
completes the send. -/
def execModemReady (s : State) : Host.Outcome State Fault Refusal :=
  match s.ofq.send with
  | none => .next s
  | some snd =>
    if snd.taken + 1 < s.ofq.slots[snd.slot].frameLength then
      .next (s.setOfq { s.ofq with send := some { snd with taken := snd.taken + 1 } })
    else .next (completeSend snd s)

/-- SEND_COMPLETE (R130): the modem takes the bytes left, the frame's last byte among them (log entry 9). -/
def execSendComplete (s : State) : Host.Outcome State Fault Refusal :=
  match s.ofq.send with
  | none => .next s
  | some snd => .next (completeSend snd s)

end Sys2Proof.Machine
end

