-- ==== Sys2Proof/Machine/ProbeEvents.lean ====
section
/-! DEFINITION. The Head Probe's commands (chapter 09): PROBE_PERIOD_EXPIRY, ID_CONVERSION_DONE, TEMP_CONVERSION_DONE. -/

namespace Sys2Proof.Machine

/-- PROBE_PERIOD_EXPIRY (R160): the period timer restarts; an idle converter begins a conversion of the next kind. -/
def Probe.expiry (p : Probe) : Probe :=
  let p := { p with periodTimer := p.probePeriod }
  match p.conv, p.nextKind with
  | .idle, .id => { p with conv := .convertingId, nextKind := .temp }
  | .idle, .temp => { p with conv := .convertingTemp, nextKind := .id }
  | _, _ => p

/-- PROBE_PERIOD_EXPIRY (R160). -/
def execProbePeriodExpiry (s : State) : Host.Outcome State Fault Refusal := .next (s.setHpb s.hpb.expiry)

/-- The converter after a completion: IDLE, or at once a forced ID conversion when a force is held (R160). -/
def Probe.release (p : Probe) : Probe :=
  if p.forceHeld then { p with forceHeld := false, conv := .convertingId, nextKind := .temp }
  else { p with conv := .idle }

/-- The head whose band a code lies in (R161). -/
def bandOf (r : Nat) : Option (Fin 12) :=
  ([0, 1, 2, 3, 4, 5, 6, 7, 8, 9, 10, 11] : List (Fin 12)).find? fun k =>
    ((r : Int) - ((64 + 80 * k.val : Nat) : Int)).natAbs ≤ 12

/-- The classification of an identity code (R161). -/
def classify (r : Nat) : Classification :=
  if r < 16 then .shortLine
  else if 1008 ≤ r then .openLine
  else match bandOf r with
    | some k => .head k
    | none => .between

/-- The probe at an adoption (R162, R164): the classification is adopted and, for a HEAD k, k becomes the last head code. -/
def Probe.adopt (p : Probe) (c : Classification) : Probe :=
  { p with
    adopted := some c, candidate := none,
    lastHead := match c with
      | .head k => some k
      | _ => p.lastHead }

/-- HEAD_CHANGED at an adoption: raised and reported for a HEAD k that differs from the last head code (R164). -/
def reportHeadChange (last : Option (Fin 12)) (c : Classification) (s : State) : State :=
  match c with
  | .head k => if last = some k then s else headChangeReported k (raise .headChanged s)
  | _ => s

/-- A classification adopted (R162, R164): HEAD_CHANGED and HEAD_PRESENT, and what the sequencer makes of it: a fall of presence
halts, a return of presence may end a halt, and start-up goes on. A notice made here starts, when the transmitter is idle, before
start-up goes on: the first adoption is announced before start-up ends (R171). -/
def adopt (c : Classification) (s : State) : State :=
  let wasPresent := headPresent s
  let last := s.hpb.lastHead
  let s := s.setHpb (s.hpb.adopt c)
  let s := reportHeadChange last c s
  let s := report .headPresent (headPresent s) s
  let s := if wasPresent && !headPresent s then haltFor .headLost s else s
  startUpProgress (pump (haltExit s))

/-- Adoption's use of a classification (R162). -/
def useClassification (c : Classification) (s : State) : State :=
  if s.hpb.adopted = some c then s.setHpb { s.hpb with candidate := none }
  else if s.hpb.candidate = some c then adopt c s
  else s.setHpb { s.hpb with candidate := some c }

/-- ID_CONVERSION_DONE (R160, R161, R162). -/
def execIdConversionDone (code : Nat) (s : State) : Host.Outcome State Fault Refusal :=
  if s.hpb.conv = .convertingId then
    let s := s.setHpb { s.hpb.release with latestId := some code, latestClass := some (classify code) }
    .next (pump (useClassification (classify code) s))
  else .next s

/-- The temperature of a thermistor code, half-degrees; invalid for a shorted or open line (R163). -/
def temperatureOf (r : Nat) : Option Int :=
  if r = 0 ∨ 1023 ≤ r then none else some (((r * 330 + 512) / 1024 : Nat) - 80)

/-- TEMP_CONVERSION_DONE (R160, R163, R84): the temperature is held and handed to the Lamp Controller. -/
def execTempConversionDone (code : Nat) (s : State) : Host.Outcome State Fault Refusal :=
  if s.hpb.conv = .convertingTemp then
    let s := s.setHpb { s.hpb.release with latestTemp := some code, temperature := temperatureOf code }
    .next (pump (afterTemperature (s.setLpc { s.lpc with temperature := temperatureOf code })))
  else .next s

end Sys2Proof.Machine
end

