-- ==== Sys2Proof/Machine/Receiver.lean ====
section
/-! DEFINITION. The commands of the pixel port and the two exposure timers (chapter 01): EXPOSURE_END, FRAME_OPEN, LINE_OPEN,
PIXEL_WORD, LINE_CLOSE, FRAME_CLOSE, READOUT_TIMEOUT. -/

namespace Sys2Proof.Machine

/-- A row handed to the Photometric Corrector and the Metering Unit (R11). -/
def handRow (y : Nat) (row : List Nat) (s : State) : State :=
  match s.csq.exposure with
  | some r => meteringLine r y row (photometricLine r y row s)
  | none => s

/-- Rows handed in ascending order from row `y` on (R11). -/
def handRows : Nat → List (List Nat) → State → State
  | _, [], s => s
  | y, row :: rows, s => handRows (y + 1) rows (handRow y row s)

/-- The three fault flags of the exposure in flight set where given; a flag once set stays set (chapter 01). -/
def markRecord (stray long short : Bool) (s : State) : State :=
  s.setCsq { s.csq with
    exposure := s.csq.exposure.map fun r =>
      { r with strayOpen := r.strayOpen || stray, longLines := r.longLines || long, shortLines := r.shortLines || short } }

/-- A short line filled out with its last pixel (R10). -/
def padLine (w : List Nat) : List Nat := w ++ List.replicate (Config.sensorWidth - w.length) (w.getLastD 0)

/-- A line with pixels is received as row `y`: the leading rows waiting for it are handed first, as copies of it (R10, R11). -/
def receiveLine (y : Nat) (row : List Nat) (s : State) : State :=
  let leading := List.replicate s.pxr.leading row
  let s := s.setPxr { s.pxr with received := s.pxr.received + 1, lastLine := some row, leading := 0 }
  handRow y row (handRows 0 leading s)

/-- The open line is closed and judged by its word count (R10, R11). -/
def closeLine (s : State) : State :=
  let w := s.pxr.openLine
  let y := s.pxr.lineNumber - 1
  let s := s.setPxr { s.pxr with state := .inFrame .between }
  if w.length = Config.sensorWidth then receiveLine y w s
  else
    let s := s.setPxr { s.pxr with patched := s.pxr.patched + 1 }
    if 0 < w.length then receiveLine y (padLine w) (markRecord false false true s)
    else match s.pxr.lastLine with
      | some row => handRow y row s
      | none => s.setPxr { s.pxr with leading := s.pxr.leading + 1 }

/-- The open line closed when there is one. -/
def closeOpenLine (s : State) : State := if s.pxr.state = .inFrame .inLine then closeLine s else s

/-- A readout judged by its patched count: abandoned above PATCH_LIMIT, else complete (R12 steps 4 and 5). -/
def judgeReadout (s : State) : State :=
  if s.pxr.patchLimit < s.pxr.patched then abandonExposure .patchLimit .idle s else completeExposure s

/-- The end of a readout, once any open line is closed (R12 steps 2 to 5). -/
def endReadout (s : State) : State :=
  let line := s.pxr.lineNumber
  let missing := Config.sensorHeight - line
  let s := s.setPxr { s.pxr with patched := s.pxr.patched + missing }
  if s.pxr.received = 0 then abandonExposure .empty .idle (s.setPxr { s.pxr with leading := 0 })
  else judgeReadout (handRows line (List.replicate missing (s.pxr.lastLine.getD [])) s)

/-- The state after a skipped frame closes (R13). -/
def skipEnd : Held → ReceiverState
  | .none => .idle
  | .exposing => .exposing
  | .ended => .awaiting

/-- EXPOSURE_END (R5, R87): with the exposure timer running, the lit bank is turned off and the readout timer starts. -/
def execExposureEnd (s : State) : Host.Outcome State Fault Refusal :=
  match s.pxr.exposureTimer with
  | none => .next s
  | some _ =>
    let next := match s.pxr.state with
      | .exposing => ReceiverState.awaiting
      | .skip .exposing => .skip .ended
      | st => st
    .next (lampOff (s.setPxr { s.pxr with state := next, exposureTimer := none, readoutTimer := some s.pxr.readoutTimeout }))

/-- FRAME_OPEN (R6). -/
def execFrameOpen (s : State) : Host.Outcome State Fault Refusal :=
  match s.pxr.state with
  | .off => .next s
  | .idle => .next (s.setPxr { s.pxr with state := .skip .none })
  | .exposing => .next (markRecord true false false (s.setPxr { s.pxr with state := .skip .exposing }))
  | .awaiting =>
    let s := s.setPxr { s.pxr with state := .inFrame .between, lineNumber := 0 }
    .next (s.setCsq { s.csq with exposure := s.csq.exposure.map fun r => { r with state := .readout } })
  | .inFrame _ => .next (markRecord true false false s)
  | .skip _ => .next s

/-- LINE_OPEN (R7). -/
def execLineOpen (s : State) : Host.Outcome State Fault Refusal :=
  match s.pxr.state with
  | .inFrame _ =>
    let s := closeOpenLine s
    if s.pxr.lineNumber < Config.sensorHeight then
      .next (s.setPxr { s.pxr with state := .inFrame .inLine, lineNumber := s.pxr.lineNumber + 1, openLine := [] })
    else .next (markRecord false true false s)
  | _ => .next s

/-- PIXEL_WORD (R8, R9). -/
def execPixelWord (word : Word16) (s : State) : Host.Outcome State Fault Refusal :=
  match s.pxr.state with
  | .inFrame .inLine =>
    if s.pxr.openLine.length < Config.sensorWidth then
      .next (s.setPxr { s.pxr with openLine := s.pxr.openLine ++ [extractPixel s.pxr.align s.pxr.depth word] })
    else .next (markRecord false true false s)
  | _ => .next s

/-- LINE_CLOSE (R10, R11). -/
def execLineClose (s : State) : Host.Outcome State Fault Refusal := .next (closeOpenLine s)

/-- FRAME_CLOSE (R12, R13). -/
def execFrameClose (s : State) : Host.Outcome State Fault Refusal :=
  match s.pxr.state with
  | .inFrame _ => .next (pump (endReadout (closeOpenLine s)))
  | .skip held => .next (s.setPxr { s.pxr with state := skipEnd held })
  | _ => .next s

/-- READOUT_TIMEOUT (R14): with the readout timer running, its exposure is abandoned with TIMEOUT. -/
def execReadoutTimeout (s : State) : Host.Outcome State Fault Refusal :=
  match s.pxr.readoutTimer with
  | none => .next s
  | some _ => .next (pump (abandonExposure .timeout (abandonedState s.pxr.state) s))

end Sys2Proof.Machine
end

