-- ==== Sys2Proof/Machine/Status.lean ====
section
/-! DEFINITION. The reply data of the requests that only look: IDNT, STAT, ZGET, TRD, PLST, BRD, and the readings of HPRB
(chapters 04, 08, 09, 11). -/

namespace Sys2Proof.Machine

/-! ## Codes -/

/-- A slot number as it is coded: 255 when absent (R179). -/
def slotByte {n : Nat} (i : Option (Fin n)) : Byte := byte ((i.map Fin.val).getD 255)

/-- A recipe's code, 0 when absent. -/
def recipeByte (r : Option Recipe) : Byte := byte ((r.map Recipe.code).getD 0)

/-- A still's tag, 0 for a stream frame. -/
def PictureKind.tag : PictureKind → Nat
  | .stream => 0
  | .still tag => tag

/-- A picture kind's code: 0 stream, 1 still. -/
def PictureKind.code : PictureKind → Nat
  | .stream => 0
  | .still _ => 1

/-- An exposure kind's code: 1 F, 2 B, 3 DARK (R179). -/
def Kind.code : Kind → Nat
  | .lit .flood => 1
  | .lit .beam => 2
  | .dark => 3

/-- The codes of the receiver states, in R1's order. -/
def ReceiverState.code : ReceiverState → Nat
  | .off => 0
  | .idle => 1
  | .exposing => 2
  | .awaiting => 3
  | .inFrame _ => 4
  | .skip _ => 5

/-- The codes of the content states, in R28's order. -/
def LinContent.code : LinContent → Nat
  | .empty => 0
  | .writing => 1
  | .half => 2
  | .whole => 3

/-- The codes of the accumulator states, in R33's order. -/
def AccState.code : AccState → Nat
  | .free => 0
  | .opened => 1
  | .receiving => 2
  | .folding => 3
  | .finalising => 4
  | .discarding => 5

/-- The codes of the output slot states, in R120's order. -/
def SlotState.code : SlotState → Nat
  | .free => 0
  | .reserved => 1
  | .ready => 2
  | .sending => 3
  | .held => 4

/-- The codes of the still phases, counted from 1 in R106's order (R179). -/
def StillPhase.code : StillPhase → Nat
  | .pending => 1
  | .exposing => 2
  | .awaitFinalise => 3
  | .finalising => 4
  | .awaitRender => 5
  | .rendering => 6
  | .queued => 7

/-- The codes of the directory states, in R146's order. -/
def DirState.code : DirState → Nat
  | .empty => 0
  | .valid => 1
  | .corrupt => 2

/-- The codes of the last results, in R154's order. -/
def LastResult.code : LastResult → Nat
  | .none => 0
  | .ok => 1
  | .failVerify => 2
  | .corrupt => 3
  | .aborted => 4

/-- The codes of the conversion states, in R159's order. -/
def ConvState.code : ConvState → Nat
  | .idle => 0
  | .convertingId => 1
  | .convertingTemp => 2

/-- The codes of classifications: 0..11 HEAD k, 12 SHORT, 13 OPEN, 14 BETWEEN (11, HPRB). -/
def Classification.code : Classification → Nat
  | .head k => k.val
  | .shortLine => 12
  | .openLine => 13
  | .between => 14

/-- A linear buffer's code. -/
def LinId.code : LinId → Nat
  | .lin0 => 0
  | .lin1 => 1

/-- The code of a mode: 0 AUTO, 1 MANUAL. -/
def AutoMode.code : AutoMode → Nat
  | .auto => 0
  | .manual => 1

/-! ## IDNT and STAT -/

/-- The data of IDNT's reply (R178). -/
def identity (s : State) : List Byte :=
  le16 740 ++ [1, byte s.cml.rateCode] ++ le16 (s.lpc.startupCeiling / 10000)

/-- The later of two tracked stills' phases; the first when the phases are equal. -/
def laterPhase (a b : StillTrack) : StillTrack := if a.phase.code < b.phase.code then b else a

/-- The still STAT tracks: the active one, or else the started still whose phase stands latest, the earliest started among
several in that phase (R119). -/
def trackedStill (q : Sequencer) : Option StillTrack :=
  match q.active with
  | some a => some a
  | none => match q.later with
    | [] => none
    | a :: rest => some (rest.foldl laterPhase a)

/-- The exposure in flight as STAT gives it. -/
def exposureBytes (e : Option ExposureRecord) : List Byte :=
  match e with
  | some r => word32Bytes r.number ++ [byte r.kind.code, flagByte (r.state = .readout)]
  | none => List.replicate 6 0

/-- A tracked still as STAT gives it. -/
def trackBytes (t : Option StillTrack) : List Byte :=
  match t with
  | some a => [byte a.req.tag, byte a.phase.code, byte a.doneF, byte a.doneB, byte a.abandonments]
  | none => List.replicate 5 0

/-- A target as STAT gives it: its type and value. -/
def targetBytes (t : Option Target) : List Byte :=
  match t with
  | some (.slot i) => [1, byte i.val]
  | some (.head k) => [2, byte k.val]
  | none => [0, 255]

/-- The tags of the pending stills in queue order, four bytes. -/
def queueTags (q : List StillRequest) : List Byte :=
  (List.range 4).map fun i => byte (((q[i]?).map StillRequest.tag).getD 0)

/-- STAT group 0 (R119, R179). -/
def statSequence (s : State) : List Byte :=
  let q := s.csq
  [byte (seqCode q.state), flagByte (quiescent s), flagByte q.streamRequested, recipeByte q.requestedRecipe,
   recipeByte (q.frame.map StreamFrame.recipe), byte q.darkCounter] ++
  word32Bytes q.nextExposure ++ exposureBytes q.exposure ++ [byte q.queue.length] ++ queueTags q.queue ++
  trackBytes (trackedStill q) ++ targetBytes q.switchTarget ++ targetBytes q.nextTarget

/-- The last dark result as STAT gives it. -/
def darkBytes (d : Option DarkResult) : List Byte :=
  match d with
  | some r => 1 :: le16 r.mean ++ word32Bytes r.number
  | none => List.replicate 7 0

/-- The render job as STAT gives it (R59). -/
def jobBytes (j : Option RenderJob) : List Byte :=
  match j with
  | some j => [1, byte j.source.code, byte j.dest.val, byte j.kind.code, byte j.kind.tag] ++ le16 j.nextRow
  | none => [0, 255, 255, 0, 0, 0, 0]

/-- STAT group 1 (R17, R22, R28, R33, R59, R179). -/
def statPath (s : State) : List Byte :=
  let p := s.phc
  [byte s.pxr.state.code] ++ le16 s.pxr.lineNumber ++ le16 s.pxr.patched ++ [byte p.blackMode.code] ++ le16 p.black ++
  darkBytes p.lastDark ++
  [byte p.lin0.content.code, byte p.lin1.content.code, byte p.accF.state.code, byte p.accF.folded, byte p.accB.state.code,
   byte p.accB.folded] ++
  jobBytes s.rme.job

/-- A bank's last lit as STAT gives it. -/
def lastLitBytes (x : Option LastLit) : List Byte :=
  match x with
  | some l => 1 :: word32Bytes l.number ++ le16 l.used
  | none => List.replicate 7 0

/-- A bank as STAT gives it. -/
def bankBytes (l : Lamps) (b : Bank) : List Byte :=
  [byte (l.bank b).mode.code] ++ le16 (l.bank b).level ++ le16 (l.derateLimit b) ++ le16 (l.standingMax b) ++
  lastLitBytes (l.bank b).lastLit

/-- The lit bank as STAT gives it. -/
def litBytes (x : Option (Bank × Nat)) : List Byte :=
  match x with
  | some (b, level) => byte (bankCode b + 1) :: le16 level
  | none => [0, 0, 0]

/-- STAT group 2 (R93, R179). -/
def statLamps (s : State) : List Byte :=
  bankBytes s.lpc .flood ++ bankBytes s.lpc .beam ++ [flagByte s.lpc.cutoff] ++ litBytes s.lpc.lit ++
  temperatureField s.lpc.temperature

/-- An output slot as STAT gives it. A FREE slot's picture is absent. -/
def slotInfo (x : Slot) : List Byte :=
  if x.state = .free then List.replicate 7 0
  else [byte x.state.code] ++ word32Bytes x.number ++ [byte x.kind.code, byte x.kind.tag]

/-- The send in progress as STAT gives it. -/
def sendBytes (x : Option Send) : List Byte :=
  match x with
  | some snd => [byte snd.slot.val, flagByte snd.isRepeat] ++ le32 snd.taken
  | none => [255, 0, 0, 0, 0, 0]

/-- STAT group 3 (R136, R179). -/
def statOutput (s : State) : List Byte :=
  let o := s.ofq
  (allSlots.flatMap fun i => slotInfo o.slots[i]) ++ [byte o.readyOrder.length] ++
  ((List.range 4).map fun i => slotByte o.readyOrder[i]?) ++ word32Bytes o.frameCounter ++ sendBytes o.send ++
  [slotByte o.heldSlot]

/-- The code of the operation state, in R154's order: IDLE, ERASE, PROGRAM, LOAD. -/
def operationState : Option StoreOp → Nat
  | none => 0
  | some (.load _ _) => 3
  | some (.save _ .erase) => 1
  | some (.save _ .program) => 2
  | some (.erase _) => 1
  | some (.eraseAll _ _) => 1
  | some (.bootWrite _ .erase) => 1
  | some (.bootWrite _ .program) => 2

/-- The operation and its slot as STAT gives them. The slot byte beside ERASE_ALL is a free value (log entry 5). -/
def operationBytes : Option StoreOp → List Byte
  | none => [0, 255]
  | some (.load i _) => [1, byte i.val]
  | some (.save i _) => [2, byte i.val]
  | some (.erase i) => [3, byte i.val]
  | some (.eraseAll i _) => [4, Config.eraseAllSlotByte i.val]
  | some (.bootWrite _ _) => [5, 255]

/-- STAT group 4 (R154, R172, R179). -/
def statStore (s : State) : List Byte :=
  let c := s.pfs.ws.content
  [byte (operationState s.pfs.op)] ++ operationBytes s.pfs.op ++ [byte s.pfs.lastResult.code] ++ le16 c.profileId ++
  [headByte c.head, flagByte c.beam.isSome] ++ le16 c.width ++ le16 c.height ++
  [flagByte c.tone.isSome, slotByte s.pfs.ws.source, flagByte s.pfs.ws.modified] ++
  le16 s.cdu.latches.toNat ++ le16 s.cdu.live.toNat ++ le16 s.cdu.riseEn.toNat ++ le16 s.cdu.fallEn.toNat ++
  [flagByte s.cdu.noticeEn, flagByte s.cdu.noticePending]

/-- A conversion code, 0xFFFF when absent. -/
def codeField (c : Option Nat) : List Byte := le16 (c.getD 0xFFFF)

/-- A classification, 255 when absent. -/
def classByte (c : Option Classification) : Byte := byte ((c.map Classification.code).getD 255)

/-- The adopted state, 15 for NONE. -/
def adoptedByte (c : Option Classification) : Byte := byte ((c.map Classification.code).getD 15)

/-- STAT group 5, and the readings HPRB gives (R165, R179). -/
def probeReadings (p : Probe) : List Byte :=
  codeField p.latestId ++ [classByte p.latestClass, classByte p.candidate, adoptedByte p.adopted, slotByte p.lastHead] ++
  codeField p.latestTemp ++ temperatureField p.temperature ++ [byte p.conv.code, flagByte p.forceHeld]

/-- The fields of a STAT group; none for a group outside 0..5 (R179). -/
def statGroup (g : Nat) (s : State) : Option (List Byte) :=
  match g with
  | 0 => some (statSequence s)
  | 1 => some (statPath s)
  | 2 => some (statLamps s)
  | 3 => some (statOutput s)
  | 4 => some (statStore s)
  | 5 => some (probeReadings s.hpb)
  | _ => none

/-! ## Zones -/

/-- A zone's definition as ZSET and ZGET lay it out: 13 bytes. -/
def zoneDefBytes (i : Fin 8) (d : ZoneDef) : List Byte :=
  [byte i.val, flagByte d.enabled, byte d.col0, byte d.col1, byte d.row0, byte d.row1, byte (bankCode d.bank)] ++
  le16 d.low ++ le16 d.high ++ le16 d.glareLimit

/-- A zone's results as ZGET lays them out: 10 bytes. -/
def zoneResultBytes (r : ZoneResult) : List Byte :=
  le16 r.mean ++ le16 r.clip ++ [byte r.level.code, flagByte r.glare] ++ word32Bytes (r.measured.getD 0)

/-- The data of ZGET's reply for a zone byte; none for BAD_PARAM (R73). -/
def zoneReply (z : Nat) (m : Metering) : Option (List Byte) :=
  if z = 255 then some (m.zones.toList.flatMap fun x => zoneResultBytes x.result)
  else (finOf 8 z).map fun i => zoneDefBytes i m.zones[i].defn ++ zoneResultBytes m.zones[i].result

/-! ## Tables -/

/-- The number of entries of the table of a code, as R141 takes it; none for a code outside 0..4. -/
def tableSize (c : Content) (code : Nat) : Option Nat :=
  match code with
  | 0 => some (meshEntries c.width c.height)
  | 1 => some Config.gainEntries
  | 2 => some Config.gainEntries
  | 3 => some Config.gainEntries
  | 4 => some Config.toneEntries
  | _ => none

/-- The largest chunk of a table (R141). -/
def largestChunk (code : Nat) : Nat := if code = 0 then 59 else if code = 4 then 236 else 118

/-- Whether a table code, start and count name entries of a table (R141, R142). -/
def chunkOk (c : Content) (code start count : Nat) : Bool :=
  match tableSize c code with
  | some n => 0 < count && count ≤ largestChunk code && start + count ≤ n
  | none => false

/-- A table of bank B that the working set does not have (R141, R142). -/
def absentBeam (c : Content) (code : Nat) : Bool := (code = 2 || code = 3) && c.beam.isNone

/-- Every entry of the table of a code, as bytes; TONE is the curve in use (R142). -/
def tableEntries (c : Content) (code : Nat) : List (List Byte) :=
  match code with
  | 0 => c.mesh.map meshBytes
  | 1 => c.gainF.map le16
  | 2 => (gainTable c .beam).map le16
  | 3 => (weightTable c).map le16
  | 4 => (c.tone.getD builtInCurve).map fun v => [byte v]
  | _ => []

/-- The entries of a chunk as bytes. -/
def chunkBytes (c : Content) (code start count : Nat) : List Byte :=
  (((tableEntries c code).drop start).take count).flatten

/-! ## The directory and the startup record -/

/-- A slot's whole directory record (R146): its header and check follow when it is VALID. -/
def recordBytes (r : DirRecord) : List Byte :=
  [byte r.state.code, flagByte r.guarded] ++
    (match r.header, r.check with
      | some h, some k => h.bytes ++ word32Bytes k
      | _, _ => [])

/-- A slot's line in the whole directory's listing (R146). -/
def recordLine (r : DirRecord) : List Byte :=
  [byte r.state.code, flagByte r.guarded] ++
    (match r.header with
      | some h => le16 h.profileId ++ [headByte h.head, flagByte h.fb]
      | none => [0, 0, 0, 0])

/-- The data of PLST's reply for a slot byte; none for BAD_PARAM (R146). -/
def directoryReply (slot : Nat) (p : Store) : Option (List Byte) :=
  if slot = 255 then some (p.directory.toList.flatMap recordLine)
  else (finOf 8 slot).map fun i => recordBytes p.directory[i]

/-- The data of BRD's reply: each field's stored value and whether it passes its check (R157). -/
def bootBytes (r : Vector (Byte × Byte) 8) : List Byte :=
  let p (i : Nat) : Byte := flagByte ((bootPasses r).getD i false)
  [r[0].1, p 0, r[1].1, r[2].1, p 1, r[3].1, p 2, r[4].1, p 3, r[5].1, p 4, r[6].1, p 5, r[7].1, p 6]

end Sys2Proof.Machine
end

