-- ==== Sys2Proof/Machine/Requests.lean ====
section
/-! DEFINITION. The requests, each with its owner's checks and effect (chapters 04, 06, 08, 09, 10, 11): IDNT, STAT, LTCH,
SGO, SHLT, STIL, SCAN, ZSET, ZGET, TWRT, TRD, PACT, PSAV, PERS, SERS, PPRT, PLST, BWRT, BRD, HPRB, RSET. -/

namespace Sys2Proof.Machine

/-- Byte `i` of a body as a number. -/
def bodyAt (body : List Byte) (i : Nat) : Nat := (body.getD i 0).toNat

/-- The two-byte field at `i` of a body (R174). -/
def bodyAt16 (body : List Byte) (i : Nat) : Nat := bodyAt body i + 256 * bodyAt body (i + 1)

/-- OK with some data, or BAD_PARAM. -/
def answerData (d : Option (List Byte)) (s : State) : Answer :=
  match d with
  | some data => accept data s
  | none => refuse .badParam s

/-! ## Identity, status and latches -/

/-- IDNT (R178). -/
def execIdnt (body : List Byte) (s : State) : Host.Outcome State Fault Refusal :=
  .next (serve ⟨0x01, body⟩ (fun s => accept (identity s) s) s)

/-- STAT (R179). -/
def execStat (body : List Byte) (s : State) : Host.Outcome State Fault Refusal :=
  .next (serve ⟨0x02, body⟩ (fun s => answerData (statGroup (bodyAt body 0) s) s) s)

/-- LTCH's owner: the latches are given and cleared, and a pending notice is cancelled (R172). -/
def ltchOwner (s : State) : Answer :=
  accept (le16 s.cdu.latches.toNat ++ le16 s.cdu.live.toNat) (s.setCdu { s.cdu with latches := 0, noticePending := false })

/-- LTCH (R172). -/
def execLtch (body : List Byte) (s : State) : Host.Outcome State Fault Refusal := .next (serve ⟨0x05, body⟩ ltchOwner s)

/-! ## The stream -/

/-- The stream is requested with a recipe (R104). -/
def requestStream (r : Recipe) (s : State) : State :=
  if s.csq.streamRequested then s.setCsq { s.csq with requestedRecipe := some r }
  else
    s.setCsq { s.csq with
      streamRequested := true, requestedRecipe := some r, intervalTimer := none,
      state := if s.csq.state = .idle then .run else s.csq.state }

/-- SGO's owner (R104). -/
def sgoOwner (body : List Byte) (s : State) : Answer :=
  match recipeOf (bodyAt body 0) with
  | none => refuse .badParam s
  | some r =>
    if needsBeam r ∧ s.pfs.ws.content.beam.isNone then refuse .noBank s else accept [] (requestStream r s)

/-- SGO (R104). -/
def execSgo (body : List Byte) (s : State) : Host.Outcome State Fault Refusal := .next (serve ⟨0x10, body⟩ (sgoOwner body) s)

/-- Whether SHLT discards the frame being exposed: a FUSE frame with its F exposure in flight or its buffer HALF (R105). -/
def haltDrops (f : StreamFrame) (e : Option ExposureRecord) : Bool :=
  f.recipe = .fuse &&
    match e with
    | some r => r.kind = .lit .flood
    | none => true

/-- The stream is no longer requested, and RUN becomes IDLE (R105). -/
def withdrawStream (s : State) : State :=
  s.setCsq { s.csq with streamRequested := false, state := if s.csq.state = .run then .idle else s.csq.state }

/-- The frame being exposed is discarded where R105 discards it. -/
def dropStopped (s : State) : State :=
  match s.csq.frame with
  | some f => if haltDrops f s.csq.exposure then dropFrame s else s
  | none => s

/-- The stream is stopped (R105). -/
def stopStream (s : State) : State := dropStopped (withdrawStream s)

/-- SHLT (R105). -/
def execShlt (body : List Byte) (s : State) : Host.Outcome State Fault Refusal :=
  .next (serve ⟨0x11, body⟩ (fun s => accept [] (stopStream s)) s)

/-! ## Stills -/

/-- An optional field of STIL: absent when its presence bit is clear, else its value of two, or refused (R107). -/
def optionalField {α : Type} (present : Bool) (v : Nat) (zero one : α) : Option α :=
  if present = false then some zero else if v = 0 then some zero else if v = 1 then some one else none

/-- The stack depths. -/
def depthOk (n : Nat) : Bool := n = 1 || n = 2 || n = 4 || n = 8 || n = 16

/-- A crop that R107 accepts under a working set's size. -/
def cropOk (c : Content) (k : Crop) : Bool :=
  k.x0 % 16 = 0 && k.y0 % 16 = 0 && k.w % 16 = 0 && k.h % 16 = 0 && 64 ≤ k.w && 64 ≤ k.h && k.x0 + k.w ≤ c.width &&
    k.y0 + k.h ≤ c.height

/-- The crop of a STIL body. -/
def bodyCrop (body : List Byte) : Crop :=
  { x0 := bodyAt16 body 7, y0 := bodyAt16 body 9, w := bodyAt16 body 11, h := bodyAt16 body 13 }

/-- A STIL body read as a still request record; none when R107's first check fails. -/
def readStill (c : Content) (body : List Byte) : Option StillRequest := do
  let mask := bodyAt body 3
  let recipe ← recipeOf (bodyAt body 1)
  let geometry ← optionalField (mask.testBit 0) (bodyAt body 4) Geometry.corrected .sensor
  let photometric ← optionalField (mask.testBit 1) (bodyAt body 5) PhotoMode.apply .bypass
  let format ← optionalField (mask.testBit 2) (bodyAt body 6) PixelFormat.toned8 .linear16
  let crop := if mask.testBit 3 then some (bodyCrop body) else none
  if 1 ≤ bodyAt body 0 ∧ mask < 16 ∧ depthOk (bodyAt body 2) ∧ ¬(photometric = .bypass ∧ recipe = .fuse) ∧
      ¬(crop.isSome ∧ geometry = .sensor) ∧ crop.all (cropOk c) then
    some { tag := bodyAt body 0, recipe, depth := bodyAt body 2, geometry, photometric, format, crop }
  else none

/-- The tags of every unfinished still (R106). -/
def openTags (q : Sequencer) : List Nat :=
  q.queue.map StillRequest.tag ++ q.active.toList.map (fun a => a.req.tag) ++ q.later.map fun a => a.req.tag

/-- STIL's owner (R107). -/
def stilOwner (body : List Byte) (s : State) : Answer :=
  match readStill s.pfs.ws.content body with
  | none => refuse .badParam s
  | some q =>
    if needsBeam q.recipe ∧ s.pfs.ws.content.beam.isNone then refuse .noBank s
    else if q.tag ∈ openTags s.csq then refuse .duplicate s
    else if 4 ≤ s.csq.queue.length then refuse .full s
    else accept [] (s.setCsq { s.csq with queue := s.csq.queue ++ [q] })

/-- STIL (R107). -/
def execStil (body : List Byte) (s : State) : Host.Outcome State Fault Refusal :=
  .next (serve ⟨0x12, body⟩ (stilOwner body) s)

/-- The exposure in flight belongs to the still of a tag and has not reached its exposure end (R112). -/
def cancellable (tag : Nat) (s : State) : Bool :=
  s.pxr.exposureTimer.isSome && s.csq.exposure.any fun r => r.purpose = .still tag

/-- The active still is cancelled (R112). -/
def cancelActive (a : StillTrack) (s : State) : State :=
  leaveStill (dropActive a (if cancellable a.req.tag s then sequencerAbandon .cancelled s else s))

/-- The active still, when it is the one a tag names. -/
def activeTagged (tag : Nat) (q : Sequencer) : Option StillTrack := q.active.filter fun a => a.req.tag = tag

/-- SCAN's owner (R112). -/
def scanOwner (body : List Byte) (s : State) : Answer :=
  let tag := bodyAt body 0
  match activeTagged tag s.csq with
  | some a => accept [] (cancelActive a s)
  | none =>
    if tag ∈ s.csq.queue.map StillRequest.tag then
      accept [] (s.setCsq { s.csq with queue := s.csq.queue.filter fun q => q.tag ≠ tag })
    else if tag ∈ s.csq.later.map (fun a => a.req.tag) then refuse .tooLate s
    else refuse .notFound s

/-- SCAN (R112). -/
def execScan (body : List Byte) (s : State) : Host.Outcome State Fault Refusal :=
  .next (serve ⟨0x13, body⟩ (scanOwner body) s)

/-! ## Zones -/

/-- A ZSET body's definition after clamping, with its zone; none when R63 refuses it. -/
def readZone (body : List Byte) : Option (Fin 8 × ZoneDef) := do
  let i ← finOf 8 (bodyAt body 0)
  let bank ← bankOfByte (body.getD 6 0)
  let d : ZoneDef :=
    { enabled := bodyAt body 1 = 1, col0 := bodyAt body 2, col1 := bodyAt body 3, row0 := bodyAt body 4,
      row1 := bodyAt body 5, bank, low := min (bodyAt16 body 7) 4095, high := min (bodyAt16 body 9) 4095,
      glareLimit := min (bodyAt16 body 11) 1024 }
  if bodyAt body 1 ≤ 1 ∧ d.col1 ≤ 19 ∧ d.row1 ≤ 15 ∧ d.col0 ≤ d.col1 ∧ d.row0 ≤ d.row1 ∧ d.low ≤ d.high then some (i, d)
  else none

/-- Whether a ZSET body holds a magnitude that R63 clamps. -/
def zoneClamped (body : List Byte) : Bool :=
  4095 < bodyAt16 body 7 || 4095 < bodyAt16 body 9 || 1024 < bodyAt16 body 11

/-- ZSET's owner (R63, R64, R71). -/
def zsetOwner (body : List Byte) (s : State) : Answer :=
  match readZone body with
  | some (i, d) =>
    (⟨if zoneClamped body then .okClamped else .ok, zoneDefBytes i d⟩, reportZones (s.setMtu (s.mtu.define i d)))
  | none => refuse .badParam s

/-- ZSET (R63, R64). -/
def execZset (body : List Byte) (s : State) : Host.Outcome State Fault Refusal :=
  .next (serve ⟨0x14, body⟩ (zsetOwner body) s)

/-- ZGET (R73). -/
def execZget (body : List Byte) (s : State) : Host.Outcome State Fault Refusal :=
  .next (serve ⟨0x15, body⟩ (fun s => answerData (zoneReply (bodyAt body 0) s.mtu) s) s)

/-! ## Tables -/

/-- `xs` with `vals` written from index `start` on. -/
def writeEntries {α : Type} (xs : List α) (start : Nat) (vals : List α) : List α :=
  xs.take start ++ vals ++ xs.drop (start + vals.length)

/-- The entries a TWRT body carries for a table code. -/
def bodyEntries (code : Nat) (body : List Byte) : List (List Byte) :=
  chunks (entryBytes code) body.length (body.drop 3)

/-- A WEIGHT entry as it is stored (R141). -/
def weightEntry (e : List Byte) : Nat := min (fromLe e) 256

/-- A content with a chunk of a table written (R141). -/
def Content.writeChunk (c : Content) (code start : Nat) (entries : List (List Byte)) : Content :=
  match code with
  | 0 => { c with mesh := writeEntries c.mesh start (entries.map fun e => (fromLe16s (e.take 2), fromLe16s (e.drop 2))) }
  | 1 => { c with gainF := writeEntries c.gainF start (entries.map fromLe) }
  | 2 => { c with beam := c.beam.map fun b => { b with gainB := writeEntries b.gainB start (entries.map fromLe) } }
  | 3 => { c with beam := c.beam.map fun b => { b with weight := writeEntries b.weight start (entries.map weightEntry) } }
  | _ => { c with tone := some (writeEntries (c.tone.getD builtInCurve) start (entries.map fromLe)) }

/-- The status of an accepted chunk: OK_CLAMPED when a WEIGHT entry is above 256 (R141). -/
def chunkStatus (code : Nat) (entries : List (List Byte)) : Status :=
  if code = 3 ∧ (entries.any fun e => 256 < fromLe e) then .okClamped else .ok

/-- TWRT's owner (R141). -/
def twrtOwner (body : List Byte) (s : State) : Answer :=
  let code := bodyAt body 0
  let start := bodyAt16 body 1
  let entries := bodyEntries code body
  let c := s.pfs.ws.content
  if chunkOk c code start entries.length = false then refuse .badParam s
  else if absentBeam c code then refuse .noBank s
  else writeWhenOpen ⟨chunkStatus code entries, []⟩ (c.writeChunk code start entries) s

/-- TWRT (R141). -/
def execTwrt (body : List Byte) (s : State) : Host.Outcome State Fault Refusal :=
  .next (serve ⟨0x20, body⟩ (twrtOwner body) s)

/-- TRD's owner (R142). R142 gives BAD_PARAM and NO_BANK no order; BAD_PARAM first is the model's choice (DESIGN CHOICE, log
entry 37). -/
def trdOwner (body : List Byte) (s : State) : Answer :=
  let code := bodyAt body 0
  let c := s.pfs.ws.content
  if chunkOk c code (bodyAt16 body 1) (bodyAt16 body 3) = false then refuse .badParam s
  else if absentBeam c code then refuse .noBank s
  else accept (chunkBytes c code (bodyAt16 body 1) (bodyAt16 body 3)) s

/-- TRD (R142). -/
def execTrd (body : List Byte) (s : State) : Host.Outcome State Fault Refusal :=
  .next (serve ⟨0x21, body⟩ (trdOwner body) s)

/-! ## The profile store -/

/-- The slot a PACT stands for, or why it is refused (R148). -/
def pactSlot (slot : Nat) (s : State) : Except Status (Fin 8) :=
  if slot = 255 then
    match (adoptedCode s).bind s.pfs.boundSlot with
    | some i => .ok i
    | none => .error .notFound
  else match finOf 8 slot with
    | none => .error .badParam
    | some i =>
      match s.pfs.directory[i].state with
      | .valid => .ok i
      | .empty => .error .notFound
      | .corrupt => .error .corrupt

/-- PACT's owner (R113, R148). -/
def pactOwner (body : List Byte) (s : State) : Answer :=
  match pactSlot (bodyAt body 0) s with
  | .ok i => (⟨.accepted, []⟩, takeTarget (.slot i) s)
  | .error e => refuse e s

/-- PACT (R148). -/
def execPact (body : List Byte) (s : State) : Host.Outcome State Fault Refusal :=
  .next (serve ⟨0x22, body⟩ (pactOwner body) s)

/-- A long operation begins: ACCEPTED (R154). -/
def beginOperation (op : StoreOp) (p : Store) (s : State) : Answer :=
  (⟨.accepted, []⟩, s.setPfs { p with op := some op })

/-- The sequencer is in SWITCH-DRAIN or SWITCH-LOAD. -/
def switching (s : State) : Bool := s.csq.state = .switchDrain || s.csq.state = .switchLoad

/-- A VALID slot other than `i` holds the working set's profile id (R149). -/
def idElsewhere (p : Store) (i : Fin 8) : Bool :=
  allStoreSlots.any fun j => j ≠ i && p.directory[j].validId = some p.ws.content.profileId

/-- PSAV's owner (R149). -/
def psavOwner (body : List Byte) (s : State) : Answer :=
  match finOf 8 (bodyAt body 0) with
  | none => refuse .badParam s
  | some i =>
    if s.pfs.op.isSome ∨ switching s then refuse .busy s
    else if s.pfs.ws.content.profileId = 0 then refuse .badState s
    else if s.pfs.directory[i].guarded then refuse .guarded s
    else if idElsewhere s.pfs i then refuse .duplicate s
    else beginOperation (.save i .erase) (s.pfs.beginWork i) s

/-- PSAV (R149). -/
def execPsav (body : List Byte) (s : State) : Host.Outcome State Fault Refusal :=
  .next (serve ⟨0x23, body⟩ (psavOwner body) s)

/-- PERS's owner (R151). R151 gives its refusals no order; BAD_PARAM, BUSY, then PROTECTED is the model's choice (DESIGN CHOICE,
log entry 37). -/
def persOwner (body : List Byte) (s : State) : Answer :=
  match finOf 8 (bodyAt body 0) with
  | none => refuse .badParam s
  | some i =>
    if s.pfs.op.isSome then refuse .busy s
    else if s.pfs.directory[i].guarded then refuse .guarded s
    else beginOperation (.erase i) (s.pfs.beginWork i) s

/-- PERS (R151). -/
def execPers (body : List Byte) (s : State) : Host.Outcome State Fault Refusal :=
  .next (serve ⟨0x24, body⟩ (persOwner body) s)

/-- Every protect mark and protected flag cleared, and the source slot none (R152). -/
def Store.unprotected (p : Store) : Store :=
  { p with
    slots := p.slots.map fun x => { x with protectMark := false },
    directory := p.directory.map fun r => { r with guarded := false },
    ws := { p.ws with source := none } }

/-- SERS's owner (R152). -/
def sersOwner (s : State) : Answer :=
  if s.pfs.op.isSome then refuse .busy s
  else beginOperation (.eraseAll 0 false) (s.pfs.unprotected.beginWork 0) s

/-- SERS (R152). -/
def execSers (body : List Byte) (s : State) : Host.Outcome State Fault Refusal := .next (serve ⟨0x25, body⟩ sersOwner s)

/-- A slot protected: its mark and its directory flag (R153). -/
def Store.protectSlot (p : Store) (i : Fin 8) : Store :=
  { p with
    slots := p.slots.set i { p.slots[i] with protectMark := true },
    directory := p.directory.set i { p.directory[i] with guarded := true } }

/-- PPRT's owner (R153). R153 gives its refusals no order; BAD_PARAM, BUSY, then BAD_STATE is the model's choice (DESIGN
CHOICE, log entry 37). -/
def pprtOwner (body : List Byte) (s : State) : Answer :=
  match finOf 8 (bodyAt body 0) with
  | none => refuse .badParam s
  | some i =>
    if s.pfs.op.isSome then refuse .busy s
    else if s.pfs.directory[i].state ≠ .valid then refuse .badState s
    else accept [] (s.setPfs (s.pfs.protectSlot i))

/-- PPRT (R153). -/
def execPprt (body : List Byte) (s : State) : Host.Outcome State Fault Refusal :=
  .next (serve ⟨0x26, body⟩ (pprtOwner body) s)

/-- PLST (R146). -/
def execPlst (body : List Byte) (s : State) : Host.Outcome State Fault Refusal :=
  .next (serve ⟨0x27, body⟩ (fun s => answerData (directoryReply (bodyAt body 0) s.pfs) s) s)

/-- The values of a startup record that BWRT accepts (R157). -/
def bootRecordOk (d : List Byte) : Bool :=
  bodyAt d 0 ≤ 3 && 1 ≤ bodyAt16 d 1 && bodyAt16 d 1 ≤ 400 && bodyAt d 3 ≤ 3 && bodyAt d 4 ≤ 1 && bodyAt d 5 ≤ 1 &&
    bodyAt d 6 ≤ 1 && bodyAt d 7 ≤ 1

/-- BWRT's owner (R157). R157 gives BAD_PARAM and BUSY no order; BAD_PARAM first is the model's choice (DESIGN CHOICE, log entry
37). -/
def bwrtOwner (body : List Byte) (s : State) : Answer :=
  if bootRecordOk body = false then refuse .badParam s
  else if s.pfs.op.isSome then refuse .busy s
  else beginOperation (.bootWrite body .erase) s.pfs s

/-- BWRT (R157). -/
def execBwrt (body : List Byte) (s : State) : Host.Outcome State Fault Refusal :=
  .next (serve ⟨0x28, body⟩ (bwrtOwner body) s)

/-- BRD's owner: the record, or as far as a write of it has got (R157; log entry 3). -/
def brdOwner (s : State) : Answer :=
  accept (bootBytes (s.pfs.bootView s.draws)) (if s.pfs.bootWriting then s.draw else s)

/-- BRD (R157). -/
def execBrd (body : List Byte) (s : State) : Host.Outcome State Fault Refusal := .next (serve ⟨0x29, body⟩ brdOwner s)

/-! ## The probe and the reset -/

/-- The probe asked for an ID conversion (R165). -/
def Probe.force (p : Probe) : Probe :=
  if p.conv = .idle then { p with conv := .convertingId, nextKind := .temp } else { p with forceHeld := true }

/-- HPRB's owner (R165). -/
def hprbOwner (body : List Byte) (s : State) : Answer :=
  let readings := probeReadings s.hpb
  if bodyAt body 0 = 0 then accept readings s
  else if bodyAt body 0 = 1 then accept readings (s.setHpb s.hpb.force)
  else refuse .badParam s

/-- HPRB (R165). -/
def execHprb (body : List Byte) (s : State) : Host.Outcome State Fault Refusal :=
  .next (serve ⟨0x30, body⟩ (hprbOwner body) s)

/-- RSET's owner: no further request is taken (R182). -/
def rsetOwner (s : State) : Answer := accept [] (s.setCml { s.cml with resetTaken := true })

/-- RSET (R182). -/
def execRset (body : List Byte) (s : State) : Host.Outcome State Fault Refusal := .next (serve ⟨0x3F, body⟩ rsetOwner s)

/-! ## The request a command carries -/

/-- The request of the link that a request command stands for: its KIND and BODY; none for the other commands (R176). -/
def requestOf : Instr → Option Request
  | .fullReset => none
  | .startupScanDone => none
  | .trigger => none
  | .exposureEnd => none
  | .frameOpen => none
  | .lineOpen => none
  | .pixelWord _ => none
  | .lineClose => none
  | .frameClose => none
  | .readoutTimeout => none
  | .intervalExpiry => none
  | .foldComplete _ => none
  | .stillStart => none
  | .finaliseStart => none
  | .finaliseComplete => none
  | .renderStart => none
  | .renderComplete => none
  | .sendStart => none
  | .sendPeriodExpiry => none
  | .sendComplete => none
  | .switchDrain => none
  | .switchLoad => none
  | .verifyPassDone _ => none
  | .copyPassDone => none
  | .saveEraseDone => none
  | .saveProgramDone _ => none
  | .eraseDone _ => none
  | .eraseAllSlotDone _ => none
  | .bootWriteEraseDone => none
  | .bootWriteProgramDone _ => none
  | .probePeriodExpiry => none
  | .idConversionDone _ => none
  | .tempConversionDone _ => none
  | .frameReceived _ => none
  | .byteGapTimeout => none
  | .frameSent => none
  | .badKind kind body => some ⟨kind, body⟩
  | .idnt body => some ⟨0x01, body⟩
  | .stat body => some ⟨0x02, body⟩
  | .pget body => some ⟨0x03, body⟩
  | .pset body => some ⟨0x04, body⟩
  | .psetLevel bank style value => some (psetRequest .level bank style (word32Bytes value))
  | .psetMin bank style value => some (psetRequest .min bank style (word32Bytes value))
  | .psetMax bank style value => some (psetRequest .max bank style (word32Bytes value))
  | .psetExpo bank style value => some (psetRequest .expo bank style (word32Bytes value))
  | .psetMode bank style value => some (psetRequest .mode bank style (word32Bytes value))
  | .psetSteer bank style value => some (psetRequest .steer bank style (word32Bytes value))
  | .psetCeiling bank style value => some (psetRequest .ceiling bank style (word32Bytes value))
  | .psetDerateStart bank style value => some (psetRequest .derateStart bank style (word32Bytes value))
  | .psetCutoff bank style value => some (psetRequest .cutoff bank style (word32Bytes value))
  | .psetSendMode bank style value => some (psetRequest .sendMode bank style (word32Bytes value))
  | .psetRiseEn bank style value => some (psetRequest .riseEn bank style (word32Bytes value))
  | .psetFallEn bank style value => some (psetRequest .fallEn bank style (word32Bytes value))
  | .psetNoticeEn bank style value => some (psetRequest .noticeEn bank style (word32Bytes value))
  | .psetOutWidth bank style value => some (psetRequest .outWidth bank style (word32Bytes value))
  | .psetOutHeight bank style value => some (psetRequest .outHeight bank style (word32Bytes value))
  | .psetBankSet bank style value => some (psetRequest .bankSet bank style (word32Bytes value))
  | .psetHasTone bank style value => some (psetRequest .hasTone bank style (word32Bytes value))
  | .psetProfileId bank style value => some (psetRequest .profileId bank style (word32Bytes value))
  | .psetHeadBind bank style value => some (psetRequest .headBind bank style (word32Bytes value))
  | .psetLabel bank style label => some (psetRequest .label bank style label)
  | .ltch body => some ⟨0x05, body⟩
  | .sgo body => some ⟨0x10, body⟩
  | .shlt body => some ⟨0x11, body⟩
  | .stil body => some ⟨0x12, body⟩
  | .scan body => some ⟨0x13, body⟩
  | .zset body => some ⟨0x14, body⟩
  | .zget body => some ⟨0x15, body⟩
  | .twrt body => some ⟨0x20, body⟩
  | .trd body => some ⟨0x21, body⟩
  | .pact body => some ⟨0x22, body⟩
  | .psav body => some ⟨0x23, body⟩
  | .pers body => some ⟨0x24, body⟩
  | .sers body => some ⟨0x25, body⟩
  | .pprt body => some ⟨0x26, body⟩
  | .plst body => some ⟨0x27, body⟩
  | .bwrt body => some ⟨0x28, body⟩
  | .brd body => some ⟨0x29, body⟩
  | .hprb body => some ⟨0x30, body⟩
  | .rset body => some ⟨0x3F, body⟩
  | .modemReady => none
  | .lenOutOfRange _ => none

end Sys2Proof.Machine
end

