-- ==== Sys2Proof/Machine/StoreEvents.lean ====
section
/-! DEFINITION. The switch of profiles and the phases of store operations (chapters 06, 08): SWITCH_DRAIN, SWITCH_LOAD,
VERIFY_PASS_DONE, COPY_PASS_DONE, SAVE_ERASE_DONE, SAVE_PROGRAM_DONE, ERASE_DONE, ERASE_ALL_SLOT_DONE, BOOT_WRITE_ERASE_DONE,
BOOT_WRITE_PROGRAM_DONE. -/

namespace Sys2Proof.Machine

/-- SWITCH_DRAIN (R100, R114): at the choice of R100 a held switch target sends the sequencer into SWITCH-DRAIN. -/
def execSwitchDrain (s : State) : Host.Outcome State Fault Refusal :=
  if choiceOpen s ∧ s.csq.switchTarget.isSome then .next (enter .switchDrain s) else .next s

/-- The drain has emptied everything and the store is idle (R114). -/
def drained (s : State) : Bool :=
  s.csq.exposure.isNone && s.csq.active.isNone && s.phc.finalise.isNone && s.phc.lin0.content = .empty &&
    s.phc.lin1.content = .empty && s.rme.job.isNone && s.pfs.op.isNone

/-- The store slot a target resolves to: a slot as it stands, a head code to the lowest VALID slot bound to it (R114). -/
def resolveTarget (t : Target) (s : State) : Option (Fin 8) :=
  match t with
  | .slot i => some i
  | .head k => s.pfs.boundSlot k

/-- SWITCH_LOAD (R114): the drain done, SWITCH-LOAD is entered, the target resolved, and its load begun or skipped. -/
def execSwitchLoad (s : State) : Host.Outcome State Fault Refusal :=
  if s.csq.state = .switchDrain ∧ drained s then
    let slot := s.csq.switchTarget.bind fun t => resolveTarget t s
    let s := s.setCsq { s.csq with state := .switchLoad, switchTarget := none }
    match slot with
    | some i => .next (pump (beginLoad i s))
    | none => .next (switchExit s)
  else .next s

/-- What a verify pass finds in a slot: the slot's header of the directory, when the contents match their check (R147). -/
def verifiedHeader (r : DirRecord) (bytes : List Byte) : Option StoredHeader :=
  match r.header with
  | some h => if crc32 (slotBytes bytes h.length) = storedCheck bytes h.length then some h else none
  | none => none

/-- A verify pass completes over a slot (R147). -/
def endVerify (i : Fin 8) (lost : LostCells) (s : State) : State :=
  let bytes := loseCells s.pfs.slots[i].bytes lost
  let s := s.setPfs { s.pfs with slots := s.pfs.slots.set i { s.pfs.slots[i] with bytes := bytes } }
  match verifiedHeader s.pfs.directory[i] bytes with
  | some h =>
    s.setPfs { s.pfs with
      op := some (.load i .copy),
      standby := some { content := readContent h bytes, source := some i, modified := false } }
  | none =>
    let s := s.setPfs (s.pfs.setRecord i (corruptRecord s.pfs.directory[i].guarded))
    loadCompleted (storeFailed .corrupt s)

/-- VERIFY_PASS_DONE (R147). -/
def execVerifyPassDone (lost : LostCells) (s : State) : Host.Outcome State Fault Refusal :=
  match s.pfs.op with
  | some (.load i .verify) => .next (pump (endVerify i lost s))
  | _ => .next s

/-- COPY_PASS_DONE (R147): the working set takes the standby copy whole. -/
def execCopyPassDone (s : State) : Host.Outcome State Fault Refusal :=
  match s.pfs.op with
  | some (.load _ .copy) =>
    let s := s.setPfs { s.pfs with ws := s.pfs.standby.getD s.pfs.ws, standby := none }
    .next (pump (loadCompleted (storeDone s)))
  | _ => .next s

/-- SAVE_ERASE_DONE (R150). -/
def execSaveEraseDone (s : State) : Host.Outcome State Fault Refusal :=
  match s.pfs.op with
  | some (.save i .erase) =>
    .next (s.setPfs { s.pfs with
      slots := s.pfs.slots.set i { s.pfs.slots[i] with bytes := [] }, op := some (.save i .program) })
  | _ => .next s

/-- A save's slot after a read-back that matches: VALID with the working set's header and check, unprotected, its work mark
cleared, and the working set's source (R150). -/
def Store.saved (p : Store) (i : Fin 8) (bytes : List Byte) : Store :=
  let c := p.ws.content
  { p with
    slots := p.slots.set i { bytes, protectMark := false, workMark := false },
    directory := p.directory.set i
      { state := .valid, guarded := false, header := some c.header, check := some (crc32 c.stored) },
    ws := { p.ws with source := some i, modified := false } }

/-- A save's program and read-back complete (R150). -/
def endSave (i : Fin 8) (lost : LostCells) (s : State) : State :=
  let c := s.pfs.ws.content
  let bytes := loseCells (programmedBytes c) lost
  if crc32 (slotBytes bytes c.stored.length) = crc32 c.stored then storeDone (s.setPfs (s.pfs.saved i bytes))
  else
    storeFailed .failVerify
      (s.setPfs { s.pfs with slots := s.pfs.slots.set i { s.pfs.slots[i] with bytes := bytes } })

/-- SAVE_PROGRAM_DONE (R150). -/
def execSaveProgramDone (lost : LostCells) (s : State) : Host.Outcome State Fault Refusal :=
  match s.pfs.op with
  | some (.save i .program) => .next (pump (endSave i lost s))
  | _ => .next s

/-- The end of an erase, well or not, as its read-backs found (R151, R152). -/
def eraseResult (ok : Bool) (s : State) : State := if ok then storeDone s else storeFailed .failVerify s

/-- ERASE_DONE (R151). -/
def execEraseDone (lost : LostCells) (s : State) : Host.Outcome State Fault Refusal :=
  match s.pfs.op with
  | some (.erase i) =>
    .next (pump (eraseResult (blankBytes (loseCells [] lost)) (s.setPfs (s.pfs.endErase i lost))))
  | _ => .next s

/-- ERASE_ALL_SLOT_DONE (R152): the next slot's erase begins, and after slot 7 the operation ends. -/
def execEraseAllSlotDone (lost : LostCells) (s : State) : Host.Outcome State Fault Refusal :=
  match s.pfs.op with
  | some (.eraseAll i failed) =>
    let failed := failed || !blankBytes (loseCells [] lost)
    let s := s.setPfs (s.pfs.endErase i lost)
    match finOf 8 (i.val + 1) with
    | some k => .next (s.setPfs { s.pfs.beginWork k with op := some (.eraseAll k failed) })
    | none => .next (pump (eraseResult (!failed) s))
  | _ => .next s

/-- BOOT_WRITE_ERASE_DONE (R157). -/
def execBootWriteEraseDone (s : State) : Host.Outcome State Fault Refusal :=
  match s.pfs.op with
  | some (.bootWrite data .erase) =>
    .next (s.setPfs { s.pfs with
      boot := Vector.replicate 8 (Config.erasedByte, Config.erasedByte), op := some (.bootWrite data .program) })
  | _ => .next s

/-- BOOT_WRITE_PROGRAM_DONE (R157). -/
def execBootWriteProgramDone (lost : LostCells) (s : State) : Host.Outcome State Fault Refusal :=
  match s.pfs.op with
  | some (.bootWrite data .program) =>
    let boot := loseBootCells (bootCells data) lost
    let s := s.setPfs { s.pfs with boot }
    .next (pump (if boot = bootCells data then storeDone s else storeFailed .failVerify s))
  | _ => .next s

end Sys2Proof.Machine
end

