-- ==== Sys2Proof/Machine/Dispatch.lean ====
section
/-! DEFINITION. The meaning of every command, one arm each. -/

namespace Sys2Proof.Machine

/-- A command's effect on everything but the queue of commands waiting. -/
def exec (i : Instr) (s : State) : Host.Outcome State Fault Refusal :=
  match i with
  | .fullReset => Sys2Proof.Machine.execFullReset s
  | .startupScanDone => Sys2Proof.Machine.execStartupScanDone s
  | .trigger => Sys2Proof.Machine.execTrigger s
  | .exposureEnd => Sys2Proof.Machine.execExposureEnd s
  | .frameOpen => Sys2Proof.Machine.execFrameOpen s
  | .lineOpen => Sys2Proof.Machine.execLineOpen s
  | .pixelWord word => Sys2Proof.Machine.execPixelWord word s
  | .lineClose => Sys2Proof.Machine.execLineClose s
  | .frameClose => Sys2Proof.Machine.execFrameClose s
  | .readoutTimeout => Sys2Proof.Machine.execReadoutTimeout s
  | .intervalExpiry => Sys2Proof.Machine.execIntervalExpiry s
  | .foldComplete bank => Sys2Proof.Machine.execFoldComplete bank s
  | .stillStart => Sys2Proof.Machine.execStillStart s
  | .finaliseStart => Sys2Proof.Machine.execFinaliseStart s
  | .finaliseComplete => Sys2Proof.Machine.execFinaliseComplete s
  | .renderStart => Sys2Proof.Machine.execRenderStart s
  | .renderComplete => Sys2Proof.Machine.execRenderComplete s
  | .sendStart => Sys2Proof.Machine.execSendStart s
  | .sendPeriodExpiry => Sys2Proof.Machine.execSendPeriodExpiry s
  | .sendComplete => Sys2Proof.Machine.execSendComplete s
  | .switchDrain => Sys2Proof.Machine.execSwitchDrain s
  | .switchLoad => Sys2Proof.Machine.execSwitchLoad s
  | .verifyPassDone lost => Sys2Proof.Machine.execVerifyPassDone lost s
  | .copyPassDone => Sys2Proof.Machine.execCopyPassDone s
  | .saveEraseDone => Sys2Proof.Machine.execSaveEraseDone s
  | .saveProgramDone lost => Sys2Proof.Machine.execSaveProgramDone lost s
  | .eraseDone lost => Sys2Proof.Machine.execEraseDone lost s
  | .eraseAllSlotDone lost => Sys2Proof.Machine.execEraseAllSlotDone lost s
  | .bootWriteEraseDone => Sys2Proof.Machine.execBootWriteEraseDone s
  | .bootWriteProgramDone lost => Sys2Proof.Machine.execBootWriteProgramDone lost s
  | .probePeriodExpiry => Sys2Proof.Machine.execProbePeriodExpiry s
  | .idConversionDone code => Sys2Proof.Machine.execIdConversionDone code s
  | .tempConversionDone code => Sys2Proof.Machine.execTempConversionDone code s
  | .frameReceived bytes => Sys2Proof.Machine.execFrameReceived bytes s
  | .byteGapTimeout => Sys2Proof.Machine.execByteGapTimeout s
  | .frameSent => Sys2Proof.Machine.execFrameSent s
  | .badKind kind body => Sys2Proof.Machine.execBadKind kind body s
  | .idnt body => Sys2Proof.Machine.execIdnt body s
  | .stat body => Sys2Proof.Machine.execStat body s
  | .pget body => Sys2Proof.Machine.execPget body s
  | .pset body => Sys2Proof.Machine.execPset body s
  | .psetLevel bank style value => Sys2Proof.Machine.execPsetLevel bank style value s
  | .psetMin bank style value => Sys2Proof.Machine.execPsetMin bank style value s
  | .psetMax bank style value => Sys2Proof.Machine.execPsetMax bank style value s
  | .psetExpo bank style value => Sys2Proof.Machine.execPsetExpo bank style value s
  | .psetMode bank style value => Sys2Proof.Machine.execPsetMode bank style value s
  | .psetSteer bank style value => Sys2Proof.Machine.execPsetSteer bank style value s
  | .psetCeiling bank style value => Sys2Proof.Machine.execPsetCeiling bank style value s
  | .psetDerateStart bank style value => Sys2Proof.Machine.execPsetDerateStart bank style value s
  | .psetCutoff bank style value => Sys2Proof.Machine.execPsetCutoff bank style value s
  | .psetSendMode bank style value => Sys2Proof.Machine.execPsetSendMode bank style value s
  | .psetRiseEn bank style value => Sys2Proof.Machine.execPsetRiseEn bank style value s
  | .psetFallEn bank style value => Sys2Proof.Machine.execPsetFallEn bank style value s
  | .psetNoticeEn bank style value => Sys2Proof.Machine.execPsetNoticeEn bank style value s
  | .psetOutWidth bank style value => Sys2Proof.Machine.execPsetOutWidth bank style value s
  | .psetOutHeight bank style value => Sys2Proof.Machine.execPsetOutHeight bank style value s
  | .psetBankSet bank style value => Sys2Proof.Machine.execPsetBankSet bank style value s
  | .psetHasTone bank style value => Sys2Proof.Machine.execPsetHasTone bank style value s
  | .psetProfileId bank style value => Sys2Proof.Machine.execPsetProfileId bank style value s
  | .psetHeadBind bank style value => Sys2Proof.Machine.execPsetHeadBind bank style value s
  | .psetLabel bank style label => Sys2Proof.Machine.execPsetLabel bank style label s
  | .ltch body => Sys2Proof.Machine.execLtch body s
  | .sgo body => Sys2Proof.Machine.execSgo body s
  | .shlt body => Sys2Proof.Machine.execShlt body s
  | .stil body => Sys2Proof.Machine.execStil body s
  | .scan body => Sys2Proof.Machine.execScan body s
  | .zset body => Sys2Proof.Machine.execZset body s
  | .zget body => Sys2Proof.Machine.execZget body s
  | .twrt body => Sys2Proof.Machine.execTwrt body s
  | .trd body => Sys2Proof.Machine.execTrd body s
  | .pact body => Sys2Proof.Machine.execPact body s
  | .psav body => Sys2Proof.Machine.execPsav body s
  | .pers body => Sys2Proof.Machine.execPers body s
  | .sers body => Sys2Proof.Machine.execSers body s
  | .pprt body => Sys2Proof.Machine.execPprt body s
  | .plst body => Sys2Proof.Machine.execPlst body s
  | .bwrt body => Sys2Proof.Machine.execBwrt body s
  | .brd body => Sys2Proof.Machine.execBrd body s
  | .hprb body => Sys2Proof.Machine.execHprb body s
  | .rset body => Sys2Proof.Machine.execRset body s
  | .modemReady => Sys2Proof.Machine.execModemReady s
  | .lenOutOfRange len => Sys2Proof.Machine.execLenOutOfRange len s

end Sys2Proof.Machine
end

