-- ==== Sys2Proof/Machine/Step.lean ====
section
/-! DEFINITION. One step: the command at the front of the queue is taken and carried out; with none waiting, an idle moment
passes. -/

namespace Sys2Proof.Machine

/-- One step. On an empty queue a render in progress goes on by a row, and otherwise nothing happens (log entry 8). -/
def step (s : State) : Host.Outcome State Fault Refusal :=
  match s.pending with
  | [] => .next (idleMoment s)
  | i :: rest => exec i (s.setPending rest)

/-- The state with the command that a table word spells put at the front of the queue; the state itself when the word spells
none. -/
def State.withFetchWord (s : State) (nbits w : Nat) : State :=
  match decodeTableWord nbits w with
  | some i => s.setPending (i :: s.pending)
  | none => s

end Sys2Proof.Machine
end

