-- ==== Sys2Proof/Safety.lean ====
section
/-! DEFINITION. The terms in which claims are made: when a request is taken, the reply it gets, what lies outside the link, and
the invariants the part keeps. -/

namespace Sys2Proof.Machine

/-! ## Requests and replies -/

/-- A request is taken when its command comes: it is the next request held, or the receiver is in HUNT and every request held,
of which there is at most one, has been taken; and no RSET has been taken (R175, R176, R182). -/
def Takes (q : Request) (s : State) : Prop :=
  s.cml.nextRequest = some q ∨
    (s.cml.rx = .hunt ∧ s.cml.holding.length < 2 ∧ (∀ h ∈ s.cml.holding, h.taken = true) ∧ s.cml.resetTaken = false)

/-- The newest reply composed: the last of those waiting, or the one being sent when none waits. -/
def newestReply (s : State) : Option LinkFrame :=
  match s.cml.replies.getLast? with
  | some r => some r.1
  | none => match s.cml.tx with
    | some (.reply f _) => some f
    | _ => none

/-- The state with the link and the notice-pending flag left out of account: what a request changes beside its reply. -/
def outsideLink (s : State) : State := (s.setCml State.reset.cml).setCdu { s.cdu with noticePending := false }

/-- A reply frame: its KIND from the request's, then the status code and the data (R176). -/
def replyFrame (kind : Byte) (st : Status) (data : List Byte) : LinkFrame := ⟨replyKind kind, st.code :: data⟩

/-- A request was answered with a status and data, and outside the link the part stands as in `s`. -/
def Answered (kind : Byte) (st : Status) (data : List Byte) (s t : State) : Prop :=
  newestReply t = some (replyFrame kind st data) ∧ outsideLink t = outsideLink s

/-- A command completes with a next state of which something holds. -/
def Completes (i : Instr) (s : State) (p : State → Prop) : Prop := ∃ t, exec i s = .next t ∧ p t

/-- The request that a command stands for is taken when the command comes (R175, R176). -/
def TakenNow (i : Instr) (s : State) : Prop := ∃ q, requestOf i = some q ∧ Takes q s

/-- The request that a command stands for is taken when the command comes, and start-up has ended (R176). -/
def Served (i : Instr) (s : State) : Prop := TakenNow i s ∧ startUpEnded s = true

/-- A command completes with its request answered: a status and data, and outside the link the part stands as in `s'`. -/
def Answers (i : Instr) (kind : Byte) (st : Status) (data : List Byte) (s s' : State) : Prop :=
  Completes i s (Answered kind st data s')

/-- A PSET of the number `v` is answered with the stored number `n`, OK when they are equal and else OK_CLAMPED, and outside
the link the part stands as in `s'` (R181). -/
def AnswersStored (i : Instr) (v n : Int) (s s' : State) : Prop :=
  Answers i 0x04 (if n = v then .ok else .okClamped) (le32s n) s s'

/-! ## Parts of rules that several statements share -/

/-- R91's condition for UNDERLIT: a bank in AUTO whose level is at or above its standing effective maximum (R83) and whose
steering zone, in the steering copy, is bound to it and LOW. -/
def UnderlitHolds (l : Lamps) : Prop :=
  ∃ (b : Bank) (z : Fin 8), (l.bank b).mode = .auto ∧
    min (l.bank b).max (min (l.derateLimit b) (l.ceiling / (l.bank b).expo)) ≤ (l.bank b).level ∧
    (l.bank b).steer = some z ∧ l.steering[z].defn.bank = b ∧ l.steering[z].result.level = .low

/-- A picture's values gathered from the records of its exposures in the order they completed, the part standing as `s`: each
bank's time and used level are those of its last exposure, 0 and 0 with none (R93, R102); the numbers, the black level, the flags
and the patched lines are those of the records (R102); the zone states and glare mask are the zone table's (R72), the temperature
the probe's (R163), and the mismatch flag R116's, set also with no HEAD adopted (log entry 31). -/
def GatheredFrom (parts : List ExposureRecord) (s : State) (v : PictureValues) : Prop :=
  ((∀ p ∈ parts, p.kind ≠ .lit .flood) → v.timeF = 0 ∧ v.levelF = 0) ∧
  ((∀ p ∈ parts, p.kind ≠ .lit .beam) → v.timeB = 0 ∧ v.levelB = 0) ∧
  (∀ before p after, parts = before ++ p :: after →
    (p.kind = .lit .flood → (∀ x ∈ after, x.kind ≠ .lit .flood) → v.timeF = p.time ∧ v.levelF = p.usedLevel) ∧
    (p.kind = .lit .beam → (∀ x ∈ after, x.kind ≠ .lit .beam) → v.timeB = p.time ∧ v.levelB = p.usedLevel) ∧
    (before = [] → v.first = p.number) ∧ (after = [] → v.last = p.number ∧ v.black = p.black)) ∧
  v.patchedLines = min (parts.map ExposureRecord.patchedLines).sum 65535 ∧ (v.patched = true ↔ 0 < v.patchedLines) ∧
  (v.clamped = true ↔ ∃ p ∈ parts, p.clamped = true) ∧ (v.strayOpen = true ↔ ∃ p ∈ parts, p.strayOpen = true) ∧
  (v.longLines = true ↔ ∃ p ∈ parts, p.longLines = true) ∧ (v.shortLines = true ↔ ∃ p ∈ parts, p.shortLines = true) ∧
  (∀ i : Fin 8, v.zoneStates[i] = s.mtu.zones[i].result.level ∧ v.glare[i] = s.mtu.zones[i].result.glare) ∧
  (v.mismatch = true ↔ ∀ k, s.hpb.adopted = some (.head k) → s.pfs.ws.content.head ≠ some k.val) ∧
  v.temperature = s.hpb.temperature

/-- The receiver at an accepted trigger, the part going from `s` to `t`: the counts 0, the exposure timer started with the time,
EXPOSING from IDLE and SKIP with the held exposure exposing from SKIP (R4). -/
def ReceiverTriggered (time : Nat) (s t : State) : Prop :=
  t.pxr.exposureTimer = some time ∧ t.pxr.lineNumber = 0 ∧ t.pxr.openLine = [] ∧ t.pxr.patched = 0 ∧ t.pxr.received = 0 ∧
    t.pxr.leading = 0 ∧ t.pxr.lastLine = none ∧ t.pxr.readoutTimer = s.pxr.readoutTimer ∧
    (s.pxr.state = .idle → t.pxr.state = .exposing) ∧ (s.pxr.state = .skip .none → t.pxr.state = .skip .exposing)

/-- The Metering Unit at every trigger: every revised mark is cleared, and the zones and CLIP_LEVEL stand (R66). -/
def MarksCleared (s t : State) : Prop :=
  t.mtu.clipLevel = s.mtu.clipLevel ∧ ∀ i : Fin 8, t.mtu.zones[i] = { s.mtu.zones[i] with revised := false }

/-- The measurement that the trigger of a stream exposure opens: its zones are the enabled zones bound to the exposure's bank,
each once, as defined at the trigger, with sum and clipped count 0 (R66). -/
def MeasurementOpened (number : Word32) (b : Bank) (s t : State) : Prop :=
  ∃ m, t.mtu.measurement = some m ∧ m.number = number ∧ m.bank = b ∧ m.clipLevel = s.mtu.clipLevel ∧
    (m.zones.map MeasuredZone.index).Nodup ∧
    ∀ z, z ∈ m.zones ↔ s.mtu.zones[z.index].defn.enabled = true ∧ s.mtu.zones[z.index].defn.bank = b ∧
      z.defn = s.mtu.zones[z.index].defn ∧ z.sum = 0 ∧ z.clipped = 0

/-- An exposure of bank `b` of the active still `a` is abandoned with TIMEOUT, PATCH_LIMIT or EMPTY, the part going from `s` to
`t`: the abandonment is counted and the accumulator stays claimed with what it has folded; the third fails the still (R35, R110,
R36). -/
def StillExposureAbandoned (b : Bank) (a : StillTrack) (s t : State) : Prop :=
  t.csq.queue = s.csq.queue ∧ t.csq.later = s.csq.later ∧ t.ofq.frameCounter = s.ofq.frameCounter ∧
    (a.abandonments < 2 →
      t.csq.active = some { a with abandonments := a.abandonments + 1 } ∧ t.csq.state = s.csq.state ∧ t.ofq = s.ofq ∧
      ((s.phc.acc b).state = .receiving →
        (t.phc.acc b).state = .opened ∧ (t.phc.acc b).folded = (s.phc.acc b).folded ∧
          (t.phc.acc b).sum = (s.phc.acc b).sum)) ∧
    (2 ≤ a.abandonments →
      t.csq.active = none ∧ t.csq.state = (if s.csq.streamRequested then .run else .idle) ∧
      t.ofq.slots[a.slot].state = .free ∧
      (∀ c, (c = b ∧ (s.phc.acc c).state = .receiving) ∨ (s.phc.acc c).state = .opened ∨ (s.phc.acc c).state = .folding →
        (t.phc.acc c).state = .free ∧ (t.phc.acc c).folded = 0) ∧
      (s.cdu.riseEn.getLsbD 11 = true → t.cdu.latches.getLsbD 11 = true))

/-- A halt cause arises outside STARTING, the part going from `s` to `t` (R117). In SWITCH-LOAD the load-halt note is set and
nothing else is done. In every other state the sequencer is in HALT; the exposure in flight is abandoned with the reason, whatever
its kind on a head loss, unless it is dark on a cutoff; the stream frame is discarded, its HALF buffer or the abandoned exposure's
buffer EMPTY; the active still has failed; and what R117 keeps is kept. `lastEnded` is the record as it stood at its end (log
entry 7). -/
def HaltArises (reason : AbandonReason) (s t : State) : Prop :=
  (s.csq.state = .switchLoad →
    t.csq = { s.csq with loadHalt := true } ∧ t.pxr = s.pxr ∧ t.phc = s.phc ∧ t.ofq = s.ofq ∧ t.rme = s.rme) ∧
  (s.csq.state ≠ .switchLoad →
    t.csq.state = .halt ∧ t.csq.frame = none ∧ t.csq.active = none ∧ t.csq.queue = s.csq.queue ∧
      t.csq.later = s.csq.later ∧ t.csq.awaiting = s.csq.awaiting ∧ t.csq.streamRequested = s.csq.streamRequested ∧
      t.csq.requestedRecipe = s.csq.requestedRecipe ∧ t.csq.switchTarget = s.csq.switchTarget ∧
      t.phc.finalise = s.phc.finalise ∧ t.rme = s.rme ∧
    (s.csq.exposure = none → t.csq.exposure = none ∧ t.pxr = s.pxr) ∧
    (∀ r, s.csq.exposure = some r → r.kind = .dark → reason ≠ .headLost →
      t.csq.exposure = some r ∧ t.csq.lastEnded = s.csq.lastEnded ∧ t.pxr = s.pxr) ∧
    (∀ r, s.csq.exposure = some r → reason = .headLost ∨ r.kind ≠ .dark →
      t.csq.exposure = none ∧ t.mtu.measurement = none ∧ t.lpc.lit = none ∧
      t.csq.lastEnded = some { r with state := .abandoned, patchedLines := s.pxr.patched, reason := some reason } ∧
      t.pxr = { s.pxr with
        state := (match s.pxr.state with
          | .exposing | .awaiting => .idle
          | .inFrame _ | .skip _ => .skip .none
          | x => x),
        exposureTimer := none, readoutTimer := none } ∧
      (s.cdu.riseEn.getLsbD 8 = true → t.cdu.latches.getLsbD 8 = true) ∧
      ∀ b role id, r.kind = .lit b → r.purpose = .stream → r.assigned = some (role, id) →
        (t.phc.lin id).content = .empty) ∧
    (∀ f, s.csq.frame = some f → (∀ r, s.csq.exposure = some r → r.purpose ≠ .stream) →
      (s.phc.lin f.buffer).content = .half → (t.phc.lin f.buffer).content = .empty) ∧
    (∀ id, (∀ f, s.csq.frame = some f → f.buffer ≠ id) →
      (∀ r role, s.csq.exposure = some r → r.assigned ≠ some (role, id)) → t.phc.lin id = s.phc.lin id) ∧
    (s.csq.active = none → t.ofq = s.ofq) ∧
    ∀ a, s.csq.active = some a →
      t.ofq.slots[a.slot].state = .free ∧ (s.cdu.riseEn.getLsbD 11 = true → t.cdu.latches.getLsbD 11 = true) ∧
      ∀ b, (s.phc.acc b).state = .opened ∨ (s.phc.acc b).state = .folding ∨
          ((s.phc.acc b).state = .receiving ∧
            ∃ r tag, s.csq.exposure = some r ∧ r.kind = .lit b ∧ r.purpose = .still tag) →
        (t.phc.acc b).state = .free ∧ (t.phc.acc b).folded = 0)

/-! ## Conditions and notices -/

/-- LINK_ERROR raised: its latch set when RISE_EN has its bit, and nothing else (R169, R175). -/
def linkErrorRaised (s : State) : State :=
  s.setCdu { s.cdu with
    latches := if s.cdu.riseEn.getLsbD 14 = true then s.cdu.latches ||| 0x4000#16 else s.cdu.latches }

/-- R168 and R169 over one command, the part going from `s` to `t`. A level source's latch is set exactly when it was, or its live
value rose with its RISE_EN bit set, or fell with its FALL_EN bit set; an event source's latch stays set, and is newly set only with
its RISE_EN bit set. The masks are those of before the command. -/
def EdgesLatch (s t : State) : Prop :=
  ∀ n, n < 16 →
    if n ∈ [0, 2, 3, 4, 5, 6, 7, 15] then
      (t.cdu.latches.getLsbD n = true ↔ s.cdu.latches.getLsbD n = true ∨
        (s.cdu.live.getLsbD n = false ∧ t.cdu.live.getLsbD n = true ∧ s.cdu.riseEn.getLsbD n = true) ∨
        (s.cdu.live.getLsbD n = true ∧ t.cdu.live.getLsbD n = false ∧ s.cdu.fallEn.getLsbD n = true))
    else
      (s.cdu.latches.getLsbD n = true → t.cdu.latches.getLsbD n = true) ∧
        (t.cdu.latches.getLsbD n = true → s.cdu.latches.getLsbD n = true ∨ s.cdu.riseEn.getLsbD n = true)

/-- A notice begins to be sent with the latch set and the live set of the part as it then stands in `t` (R171, R177). -/
def NoticeStarted (t : State) : Prop :=
  ∃ code, t.cml.tx = some (.notice ⟨0x60, le16 t.cdu.latches.toNat ++ le16 t.cdu.live.toNat ++ [code]⟩)

/-- R171 over one command, the part going from `s` to `t`. With NOTICE_EN on, a latch that was clear and is set makes a notice
pending, or with an idle transmitter sent at once. With NOTICE_EN off, or no latch newly set, a command that leaves NOTICE_EN as it
is makes none pending and starts none but the one that was pending. A pending notice stays until its own sending starts, with the
transmitter idle or at the end of a frame (FRAME_SENT), unless NOTICE_EN changes; and a frame being sent is sent to its end
(R177). -/
def NoticesMade (i : Instr) (s t : State) : Prop :=
  (s.cdu.noticeEn = true → (∃ n, s.cdu.latches.getLsbD n = false ∧ t.cdu.latches.getLsbD n = true) →
    t.cdu.noticePending = true ∨ (s.cml.tx = none ∧ NoticeStarted t)) ∧
  (t.cdu.noticeEn = s.cdu.noticeEn →
    (s.cdu.noticeEn = false ∨ ∀ n, t.cdu.latches.getLsbD n = true → s.cdu.latches.getLsbD n = true) →
    (t.cdu.noticePending = true → s.cdu.noticePending = true) ∧
      ∀ f, t.cml.tx = some (.notice f) → s.cml.tx = some (.notice f) ∨ s.cdu.noticePending = true) ∧
  (t.cdu.noticeEn = s.cdu.noticeEn → s.cdu.noticePending = true →
    t.cdu.noticePending = true ∨ ((s.cml.tx = none ∨ i = .frameSent) ∧ NoticeStarted t)) ∧
  (i ≠ .frameSent → ∀ x, s.cml.tx = some x → t.cml.tx = some x)

/-! ## Loads and their ends -/

/-- A command ends the load of slot `i`: its copy pass completes, or its verify pass finds contents that do not give the check value
stored with them (R147). -/
def EndsLoad (cmd : Instr) (i : Fin 8) (s : State) : Prop :=
  (cmd = .copyPassDone ∧ s.pfs.op = some (.load i .copy)) ∨
    ∃ lost h bytes, cmd = .verifyPassDone lost ∧ s.pfs.op = some (.load i .verify) ∧ s.pfs.directory[i].header = some h ∧
      bytes = loseCells s.pfs.slots[i].bytes lost ∧ crc32 (slotBytes bytes h.length) ≠ storedCheck bytes h.length

/-- A halt cause holds: no HEAD is adopted, or cutoff is ON (R117). -/
def HaltCauseHolds (s : State) : Prop := (∀ k, s.hpb.adopted ≠ some (.head k)) ∨ s.lpc.cutoff = true

/-- SWITCH-LOAD left, the part going from `s` to `t`, with `held` the switch target (R115). -/
def SwitchLeft (held : Option Target) (s t : State) : Prop :=
  t.csq.nextTarget = none ∧ t.csq.loadHalt = false ∧
  t.csq.switchTarget = (if s.csq.nextTarget = none then held else s.csq.nextTarget) ∧
  (s.csq.loadHalt = true → HaltCauseHolds t → t.csq.state = .halt) ∧
  (s.csq.loadHalt = false ∨ ¬HaltCauseHolds t → t.csq.state =
    if t.csq.switchTarget ≠ none then .switchDrain else if s.csq.streamRequested then .run else .idle) ∧
  t.hpb = s.hpb ∧ t.lpc = s.lpc

/-- Start-up ended, the part going from `s` to `t`: the receiver IDLE, autostart taken, and HALT, RUN or IDLE (R95). -/
def StartUpEnds (s t : State) : Prop :=
  t.pxr = { s.pxr with state := .idle } ∧ t.csq.streamRequested = (s.csq.streamRequested || s.csq.autostart.isSome) ∧
  (∀ r, s.csq.autostart = some r → t.csq.requestedRecipe = some r) ∧
  (s.csq.autostart = none → t.csq.requestedRecipe = s.csq.requestedRecipe) ∧
  (HaltCauseHolds t → t.csq.state = .halt) ∧
  (¬HaltCauseHolds t → t.csq.state = if t.csq.streamRequested then .run else .idle) ∧ t.lpc = s.lpc

/-! ## Stored profiles -/

/-- A stored header that is well formed (R158), its label of 16 bytes (R137). -/
def StoredHeader.wellFormed (h : StoredHeader) : Prop :=
  1 ≤ h.profileId ∧ h.profileId ≤ 65535 ∧ (∀ k, h.head = some k → k ≤ 11) ∧
    h.width % 16 = 0 ∧ 256 ≤ h.width ∧ h.width ≤ 1024 ∧ h.height % 16 = 0 ∧ 256 ≤ h.height ∧ h.height ≤ 1024 ∧
    h.label.length = 16

/-- A calibration content whose fields and tables have the values, lengths and entries of R137 and R138. -/
def Content.wellFormed (c : Content) : Prop :=
  c.profileId ≤ 65535 ∧ (∀ k, c.head = some k → k ≤ 11) ∧
    c.width % 16 = 0 ∧ 256 ≤ c.width ∧ c.width ≤ 1024 ∧ c.height % 16 = 0 ∧ 256 ≤ c.height ∧ c.height ≤ 1024 ∧
    c.label.length = 16 ∧ c.mesh.length = (c.width / 16 + 1) * (c.height / 16 + 1) ∧
    (∀ p ∈ c.mesh, -32768 ≤ p.1 ∧ p.1 ≤ 32767 ∧ -32768 ≤ p.2 ∧ p.2 ≤ 32767) ∧
    c.gainF.length = 357 ∧ (∀ g ∈ c.gainF, g ≤ 65535) ∧
    (∀ b, c.beam = some b →
      b.gainB.length = 357 ∧ (∀ g ∈ b.gainB, g ≤ 65535) ∧ b.weight.length = 357 ∧ ∀ w ∈ b.weight, w ≤ 256) ∧
    ∀ x, c.tone = some x → x.length = 1025 ∧ ∀ v ∈ x, v ≤ 255

/-! ## Bodies of requests, as the Command Link chapter lays them out -/

/-- A still request that STIL's first check accepts under a working set's content (R107), with fields that fit their bytes. -/
def StillRequest.valid (c : Content) (q : StillRequest) : Prop :=
  1 ≤ q.tag ∧ q.tag ≤ 255 ∧ q.depth ∈ [1, 2, 4, 8, 16] ∧ ¬(q.photometric = .bypass ∧ q.recipe = .fuse) ∧
    ∀ k, q.crop = some k →
      q.geometry = .corrected ∧ k.x0 % 16 = 0 ∧ k.y0 % 16 = 0 ∧ k.w % 16 = 0 ∧ k.h % 16 = 0 ∧ 64 ≤ k.w ∧ 64 ≤ k.h ∧
        k.x0 + k.w ≤ c.width ∧ k.y0 + k.h ≤ c.height ∧ c.width < 65536 ∧ c.height < 65536

/-- The 15 bytes of a STIL body that gives every optional field but an absent crop. -/
def stilBody (q : StillRequest) : List Byte :=
  [byte q.tag, byte q.recipe.code, byte q.depth, if q.crop.isSome then 15 else 7, byte q.geometry.code,
   byte q.photometric.code, byte q.format.code] ++
  (match q.crop with
    | some k => le16 k.x0 ++ le16 k.y0 ++ le16 k.w ++ le16 k.h
    | none => List.replicate 8 0)

/-- A STIL body that R107's first check refuses: fields `tag` to `format` are the first seven bytes, the crop's four numbers
follow. -/
def stilRefused (c : Content) (tag recipe depth mask geometry photometric format : Byte) (k : Crop) : Prop :=
  tag = 0 ∨ 16 ≤ mask.toNat ∨ recipe = 0 ∨ 3 < recipe.toNat ∨ depth.toNat ∉ [1, 2, 4, 8, 16] ∨
    (mask.getLsbD 0 = true ∧ 1 < geometry.toNat) ∨ (mask.getLsbD 1 = true ∧ 1 < photometric.toNat) ∨
    (mask.getLsbD 2 = true ∧ 1 < format.toNat) ∨ (mask.getLsbD 1 = true ∧ photometric = 1 ∧ recipe = 3) ∨
    (mask.getLsbD 3 = true ∧ mask.getLsbD 0 = true ∧ geometry = 1) ∨
    (mask.getLsbD 3 = true ∧
      (k.x0 % 16 ≠ 0 ∨ k.y0 % 16 ≠ 0 ∨ k.w % 16 ≠ 0 ∨ k.h % 16 ≠ 0 ∨ k.w < 64 ∨ k.h < 64 ∨ c.width < k.x0 + k.w ∨
        c.height < k.y0 + k.h))

/-- The body of a TWRT: the table code, the start index and the entries (R141). -/
def twrtBody (code start : Nat) (entries : List (List Byte)) : List Byte := byte code :: le16 start ++ entries.flatten

/-- A zone's definition that ZSET stores as it is sent (R63). -/
def ZoneDef.valid (d : ZoneDef) : Prop :=
  d.col0 ≤ d.col1 ∧ d.col1 ≤ 19 ∧ d.row0 ≤ d.row1 ∧ d.row1 ≤ 15 ∧ d.low ≤ d.high ∧ d.high ≤ 4095 ∧ d.glareLimit ≤ 1024

/-! ## Invariants -/

/-- The receiver, its timers and the exposure in flight agree as R1's table gives. -/
def ReceiverCoherent (s : State) : Prop :=
  match s.pxr.state with
  | .off | .idle | .skip .none => s.csq.exposure = none ∧ s.pxr.exposureTimer = none ∧ s.pxr.readoutTimer = none
  | .exposing | .skip .exposing =>
    (∃ r, s.csq.exposure = some r ∧ r.state = .armed) ∧ s.pxr.exposureTimer.isSome ∧ s.pxr.readoutTimer = none
  | .awaiting | .skip .ended =>
    (∃ r, s.csq.exposure = some r ∧ r.state = .armed) ∧ s.pxr.exposureTimer = none ∧ s.pxr.readoutTimer.isSome
  | .inFrame _ =>
    (∃ r, s.csq.exposure = some r ∧ r.state = .readout) ∧ s.pxr.exposureTimer = none ∧ s.pxr.readoutTimer.isSome

/-- The receiver is OFF while start-up runs (R2). -/
def OffWhileStarting (s : State) : Prop := s.csq.state = .starting → s.pxr.state = .off

/-- A bank is lit only while an exposure of its kind integrates, at that exposure's used level, within the startup ceiling's
energy, and never while cutoff is ON (R80, R86, R87). -/
def LampsSafe (s : State) : Prop :=
  10000 ≤ s.lpc.startupCeiling ∧ s.lpc.ceiling ≤ s.lpc.startupCeiling ∧
    ∀ b n, s.lpc.lit = some (b, n) →
      s.lpc.cutoff = false ∧ 0 < n ∧ (s.pxr.state = .exposing ∨ s.pxr.state = .skip .exposing) ∧
        ∃ r, s.csq.exposure = some r ∧ r.kind = .lit b ∧ r.usedLevel = n ∧ n * r.time ≤ s.lpc.startupCeiling

/-- The exposure invariant: the receiver, its timers, the exposure in flight and the lamps agree. -/
def ExposureInv (s : State) : Prop := ReceiverCoherent s ∧ OffWhileStarting s ∧ LampsSafe s

/-- A bank's settings lie in their ranges (R75, R78). -/
def BankLamp.inRange (x : BankLamp) : Prop :=
  x.min ≤ x.level ∧ x.level ≤ x.max ∧ x.max ≤ 1023 ∧ 50 ≤ x.expo ∧ x.expo ≤ 8000 ∧ x.target ≤ 4095

/-- The Lamp Controller's settings lie in their ranges (R75, R78, R80, R81). -/
def LampSettingsInv (s : State) : Prop :=
  s.lpc.flood.inRange ∧ s.lpc.beam.inRange ∧ s.lpc.deadband ≤ 1024 ∧
    10000 ≤ s.lpc.ceiling ∧ s.lpc.ceiling ≤ s.lpc.startupCeiling ∧ s.lpc.startupCeiling ≤ 4000000 ∧
    -80 ≤ s.lpc.derateStart ∧ s.lpc.derateStart < s.lpc.cutoffAt ∧ s.lpc.cutoffAt ≤ 249

/-- The stills: at most four are pending, no two unfinished stills share a tag, and the sequencer is in STILL exactly while a
still is active (R106, R107). -/
def StillsInv (s : State) : Prop :=
  s.csq.queue.length ≤ 4 ∧ (openTags s.csq).Nodup ∧ (s.csq.state = .still ↔ s.csq.active.isSome = true)

/-- The directory: a record has its header and its check exactly when its slot is VALID, profile ids are unique among VALID slots
(R146), and while a save runs start-up has ended and no other VALID slot holds the working set's profile id (R149, R140). -/
def DirectoryInv (s : State) : Prop :=
  (∀ i : Fin 8, (s.pfs.directory[i].header.isSome = true ↔ s.pfs.directory[i].state = .valid) ∧
    (s.pfs.directory[i].check.isSome = true ↔ s.pfs.directory[i].state = .valid)) ∧
  (∀ (i j : Fin 8) (h k : StoredHeader), i ≠ j → s.pfs.directory[i].header = some h → s.pfs.directory[j].header = some k →
    h.profileId ≠ k.profileId) ∧
  ∀ i p, s.pfs.op = some (.save i p) → s.csq.state ≠ .starting ∧
    ∀ (j : Fin 8) (h : StoredHeader), j ≠ i → s.pfs.directory[j].header = some h →
      h.profileId ≠ s.pfs.ws.content.profileId

/-- The bits of the live set and the latch set that stand for event sources: bits 1 and 8 to 14 (R168). -/
def eventBits : Word16 := 0x7F02

/-- The Condition Unit and the link's holding area: the live set's event bits read 0, a notice is pending only with NOTICE_EN
on and a latch set, and at most two requests are held (R168, R171, R176). -/
def ConditionsInv (s : State) : Prop :=
  s.cdu.live &&& eventBits = 0 ∧ (s.cdu.noticePending = true → s.cdu.noticeEn = true ∧ s.cdu.latches ≠ 0) ∧
    s.cml.holding.length ≤ 2

end Sys2Proof.Machine
end

