-- ==== Sys2Proof/WellFormed.lean ====
section
/-! DEFINITION. Which commands are well formed: those whose operands the ports and the link can deliver. -/

namespace Sys2Proof

open Machine

/-- A conversion code is 0..1023 (R160). -/
def codeOk (code : Nat) : Bool := code < 1024

/-- The cells lost lie in a region of `size` bytes. -/
def lostOk (size : Nat) (lost : LostCells) : Bool := lost.all fun p => p.1 < size

/-- A body fits in a frame: at most 240 bytes (R174). -/
def bodyOk (body : List Byte) : Bool := body.length ≤ 240

/-- The parameters whose PSET has a row of its own in the table. -/
def ownRow : Param → Bool
  | .level | .min | .max | .expo | .mode | .steer | .ceiling | .derateStart | .cutoff | .sendMode | .riseEn | .fallEn
  | .noticeEn | .outWidth | .outHeight | .bankSet | .hasTone | .profileId | .headBind | .label => true
  | .align | .depth | .readoutTimeout | .patchLimit | .blackMode | .blackLevel | .darkEvery | .clipLevel | .fill | .target
  | .deadband | .interval | .paced | .autoswitch | .policy | .sendPeriod | .streamFormat | .probePeriod => false

/-- A PSET body belongs to the PSET row: its code names no parameter with a row of its own. -/
def plainPset (body : List Byte) : Bool := !((Param.ofCode (body.headD 0)).any ownRow)

/-- The operands of a command are ones the outside can deliver. -/
def Instr.wellFormed : Instr → Bool
  | .fullReset => true
  | .startupScanDone => true
  | .trigger => true
  | .exposureEnd => true
  | .frameOpen => true
  | .lineOpen => true
  | .pixelWord _ => true
  | .lineClose => true
  | .frameClose => true
  | .readoutTimeout => true
  | .intervalExpiry => true
  | .foldComplete _ => true
  | .stillStart => true
  | .finaliseStart => true
  | .finaliseComplete => true
  | .renderStart => true
  | .renderComplete => true
  | .sendStart => true
  | .sendPeriodExpiry => true
  | .sendComplete => true
  | .switchDrain => true
  | .switchLoad => true
  | .verifyPassDone lost => lostOk Config.storeSlotBytes lost
  | .copyPassDone => true
  | .saveEraseDone => true
  | .saveProgramDone lost => lostOk Config.storeSlotBytes lost
  | .eraseDone lost => lostOk Config.storeSlotBytes lost
  | .eraseAllSlotDone lost => lostOk Config.storeSlotBytes lost
  | .bootWriteEraseDone => true
  | .bootWriteProgramDone lost => lostOk 16 lost
  | .probePeriodExpiry => true
  | .idConversionDone code => codeOk code
  | .tempConversionDone code => codeOk code
  | .frameReceived _ => true
  | .byteGapTimeout => true
  | .frameSent => true
  | .badKind kind body => !(knownKind kind) && bodyOk body
  | .idnt body => bodyOk body
  | .stat body => bodyOk body
  | .pget body => bodyOk body
  | .pset body => bodyOk body && plainPset body
  | .psetLevel _ _ _ => true
  | .psetMin _ _ _ => true
  | .psetMax _ _ _ => true
  | .psetExpo _ _ _ => true
  | .psetMode _ _ _ => true
  | .psetSteer _ _ _ => true
  | .psetCeiling _ _ _ => true
  | .psetDerateStart _ _ _ => true
  | .psetCutoff _ _ _ => true
  | .psetSendMode _ _ _ => true
  | .psetRiseEn _ _ _ => true
  | .psetFallEn _ _ _ => true
  | .psetNoticeEn _ _ _ => true
  | .psetOutWidth _ _ _ => true
  | .psetOutHeight _ _ _ => true
  | .psetBankSet _ _ _ => true
  | .psetHasTone _ _ _ => true
  | .psetProfileId _ _ _ => true
  | .psetHeadBind _ _ _ => true
  | .psetLabel _ _ label => label.length = 16
  | .ltch body => bodyOk body
  | .sgo body => bodyOk body
  | .shlt body => bodyOk body
  | .stil body => bodyOk body
  | .scan body => bodyOk body
  | .zset body => bodyOk body
  | .zget body => bodyOk body
  | .twrt body => bodyOk body
  | .trd body => bodyOk body
  | .pact body => bodyOk body
  | .psav body => bodyOk body
  | .pers body => bodyOk body
  | .sers body => bodyOk body
  | .pprt body => bodyOk body
  | .plst body => bodyOk body
  | .bwrt body => bodyOk body
  | .brd body => bodyOk body
  | .hprb body => bodyOk body
  | .rset body => bodyOk body
  | .modemReady => true
  | .lenOutOfRange len => len.toNat = 0 || 241 < len.toNat

end Sys2Proof
end

