-- ==== Sys2Proof/Certificates/Slice0/Obligations.lean ====
section
/-! DEFINITION. The statements for the provers, one for each obligation of OBLIGATIONS.json. -/

open Sys2Proof

open Sys2Proof.Machine

/-- A step of a state whose queue has `i` in front carries out `i` on the state with the rest of the queue (log entry
10). With an empty queue the part idles: without a render, or with one row of it left, nothing changes; else the
render writes its next row. What an idle moment does is the model's choice (log entry 8). -/
def Obligations.StepTakesFrontCommandOrIdles : Prop :=
  (∀ (i : Instr) (s : State) (rest : List Instr), step (s.setPending (i :: rest)) = exec i (s.setPending rest)) ∧
  ∀ s : State, s.pending = [] →
    (s.rme.job = none → step s = .next s) ∧
    ∀ j, s.rme.job = some j →
      (j.height ≤ j.nextRow + 1 → step s = .next s) ∧
      (j.nextRow + 1 < j.height →
        step s = .next
          ((s.setOfq { s.ofq with
            slots := s.ofq.slots.set j.dest
              { s.ofq.slots[j.dest] with
                pixels := s.ofq.slots[j.dest].pixels ++
                  [renderRow s.pfs.ws.content j (s.phc.lin j.source).rows j.nextRow] } }).setRme
            { s.rme with job := some { j with nextRow := j.nextRow + 1 } }))

/-- FULL_RESET gives every block its values after a full reset, block by block, and keeps the slots of the store; the
startup record's values are in StartupRecordValues. The model's own choices in it: `pending` is kept (log entries 10
and 26), EMPTY buffers, FREE accumulators and FREE slots are blank (log entry 23), the steering copy carries the
zones' definitions (log entry 35), and the transmitter is idle with no reply waiting, a frame then being sent cut off
(log entry 39). -/
def Obligations.FullResetValues : Prop :=
  ∀ s : State, ∃ t, exec .fullReset s = .next t ∧
    t.pxr = State.reset.pxr ∧ t.pxr.state = .off ∧ t.pxr.readoutTimeout = 50000 ∧ t.pxr.patchLimit = 16 ∧
    t.phc = State.reset.phc ∧ t.phc.black = 64 ∧ t.phc.darkEvery = 30 ∧ t.phc.lin0.content = .empty ∧
    t.phc.accF.state = .free ∧ t.rme.job = none ∧ t.rme.fill = 0 ∧
    t.mtu = State.reset.mtu ∧ t.mtu.clipLevel = 4032 ∧
    t.lpc.flood = BankLamp.default 0 ∧ t.lpc.beam = BankLamp.default 1 ∧ t.lpc.deadband = 64 ∧
    t.lpc.derateStart = 140 ∧ t.lpc.cutoffAt = 170 ∧ t.lpc.temperature = none ∧ t.lpc.cutoff = false ∧ t.lpc.lit = none ∧
    (∀ i : Fin 8, t.lpc.steering[i].result.level = .unmeasured ∧ t.lpc.steering[i].result.glare = false) ∧
    t.csq.state = .starting ∧ t.csq.streamRequested = false ∧ t.csq.requestedRecipe = none ∧ t.csq.queue = [] ∧
    t.csq.active = none ∧ t.csq.later = [] ∧ t.csq.nextExposure = 0 ∧ t.csq.darkCounter = 0 ∧ t.csq.exposure = none ∧
    t.csq.intervalTimer = none ∧ t.csq.frame = none ∧ t.csq.awaiting = [] ∧ t.csq.switchTarget = none ∧
    t.csq.nextTarget = none ∧ t.csq.loadHalt = false ∧ t.csq.interval = 40000 ∧ t.csq.paced = false ∧
    t.ofq.slots = State.reset.ofq.slots ∧ t.ofq.readyOrder = [] ∧ t.ofq.frameCounter = 0 ∧ t.ofq.send = none ∧
    t.ofq.sendPeriod = 40000 ∧ t.ofq.streamFormat = .toned8 ∧
    t.pfs.ws = WorkingSet.default ∧ t.pfs.op = none ∧ t.pfs.lastResult = .none ∧ t.pfs.slots = s.pfs.slots ∧
    t.hpb = State.reset.hpb ∧ t.cdu.latches = 0 ∧ t.cdu.riseEn = 0xFFFF ∧ t.cdu.fallEn = 1 ∧ t.cdu.noticePending = false ∧
    t.cdu.live &&& 0x7FFF = 0x0010 ∧
    t.cml.rx = .hunt ∧ t.cml.holding = [] ∧ t.cml.replies = [] ∧ t.cml.tx = none ∧ t.pending = s.pending

/-- With no startup-record write running, FULL_RESET hands the record's values to their owners: a field that fails its
check takes its default, and STARTUP_DEFAULTED's live value is 1 exactly when some field does (R156). -/
def Obligations.StartupRecordValues : Prop :=
  ∀ s : State, s.pfs.bootWriting = false → ∃ t, exec .fullReset s = .next t ∧
    t.pfs.boot = s.pfs.boot ∧
    t.cml.rateCode = (if cellOk s.pfs.boot[0] ∧ s.pfs.boot[0].1.toNat ≤ 3 then s.pfs.boot[0].1.toNat else 0) ∧
    t.cml.baud = [115200, 230400, 460800, 921600].getD t.cml.rateCode 0 ∧
    t.lpc.ceiling = t.lpc.startupCeiling ∧
    t.lpc.ceiling =
      (if cellOk s.pfs.boot[1] ∧ cellOk s.pfs.boot[2] ∧ 1 ≤ storedCeiling s.pfs.boot ∧ storedCeiling s.pfs.boot ≤ 400
        then storedCeiling s.pfs.boot * 10000 else 2000000) ∧
    t.csq.autostart =
      (if cellOk s.pfs.boot[3] ∧ s.pfs.boot[3].1.toNat ≤ 3 then recipeOf s.pfs.boot[3].1.toNat else none) ∧
    (t.ofq.sendMode = .fixedRate ↔ cellOk s.pfs.boot[4] = true ∧ s.pfs.boot[4].1 = 1) ∧
    (t.ofq.periodTimer = if t.ofq.sendMode = .fixedRate then some 40000 else none) ∧
    (t.ofq.policy = .keepOld ↔ cellOk s.pfs.boot[5] = true ∧ s.pfs.boot[5].1 = 1) ∧
    (t.cdu.noticeEn = false ↔ cellOk s.pfs.boot[6] = true ∧ s.pfs.boot[6].1 = 0) ∧
    (t.csq.autoswitch = false ↔ cellOk s.pfs.boot[7] = true ∧ s.pfs.boot[7].1 = 0) ∧
    (t.cdu.live.getLsbD 15 = false ↔
      (∀ k : Fin 8, cellOk s.pfs.boot[k] = true) ∧ s.pfs.boot[0].1.toNat ≤ 3 ∧ 1 ≤ storedCeiling s.pfs.boot ∧
        storedCeiling s.pfs.boot ≤ 400 ∧ s.pfs.boot[3].1.toNat ≤ 3 ∧ s.pfs.boot[4].1.toNat ≤ 1 ∧
        s.pfs.boot[5].1.toNat ≤ 1 ∧ s.pfs.boot[6].1.toNat ≤ 1 ∧ s.pfs.boot[7].1.toNat ≤ 1)

/-- R9, whole: a word is stored at the next column of an open line, a word past the 1280th is dropped and sets the
long-lines flag, and outside an open line a word is ignored. -/
def Obligations.PixelWordStoredOrDropped : Prop :=
  ∀ (w : Word16) (s : State),
    (s.pxr.state = .inFrame .inLine → s.pxr.openLine.length < 1280 →
      exec (.pixelWord w) s =
        .next (s.setPxr { s.pxr with openLine := s.pxr.openLine ++ [extractPixel s.pxr.align s.pxr.depth w] })) ∧
    (s.pxr.state = .inFrame .inLine → 1280 ≤ s.pxr.openLine.length →
      exec (.pixelWord w) s =
        .next (s.setCsq { s.csq with exposure := s.csq.exposure.map fun r => { r with longLines := true } })) ∧
    (s.pxr.state ≠ .inFrame .inLine → exec (.pixelWord w) s = .next s)

/-- R7, whole: outside IN_FRAME a line-open is ignored; with a line open, that line is closed as by a line-close
first; then a line opens, or from line number 1024 on the long-lines flag is set and no line opens. -/
def Obligations.LineOpens : Prop :=
  ∀ s : State,
    ((∀ sub, s.pxr.state ≠ .inFrame sub) → exec .lineOpen s = .next s) ∧
    (s.pxr.state = .inFrame .inLine →
      ∃ t, exec .lineClose s = .next t ∧ t.pxr.state = .inFrame .between ∧ exec .lineOpen s = exec .lineOpen t) ∧
    (s.pxr.state = .inFrame .between → s.pxr.lineNumber < 1024 →
      exec .lineOpen s =
        .next (s.setPxr
          { s.pxr with state := .inFrame .inLine, lineNumber := s.pxr.lineNumber + 1, openLine := [] })) ∧
    (s.pxr.state = .inFrame .between → 1024 ≤ s.pxr.lineNumber →
      exec .lineOpen s =
        .next (s.setCsq { s.csq with exposure := s.csq.exposure.map fun r => { r with longLines := true } }))

/-- LINE_CLOSE by R10 and R11: a full, a short and a missing line, with what is counted and the row that is handed on
as row `lineNumber - 1`, after the leading rows that wait for it; and what a handed row does at the corrector (R21,
R30, R34) and at the Metering Unit (R67). `nodeValue`, `correctedValue` and `fuseBlend` are given by PixelArithmetic.
Rows come in ascending order (R11), so a row beyond those a buffer or plane holds is the next one. -/
def Obligations.LineCloses : Prop :=
  (∀ s : State,
    (s.pxr.state ≠ .inFrame .inLine → exec .lineClose s = .next s) ∧
    (s.pxr.state = .inFrame .inLine →
      (s.pxr.openLine.length = 1280 →
        exec .lineClose s = .next
          (handRow (s.pxr.lineNumber - 1) s.pxr.openLine
            (handRows 0 (List.replicate s.pxr.leading s.pxr.openLine)
              (s.setPxr { s.pxr with
                state := .inFrame .between, received := s.pxr.received + 1, lastLine := some s.pxr.openLine,
                leading := 0 })))) ∧
      (∀ p, s.pxr.openLine.getLast? = some p → s.pxr.openLine.length < 1280 →
        let row := s.pxr.openLine ++ List.replicate (1280 - s.pxr.openLine.length) p
        exec .lineClose s = .next
          (handRow (s.pxr.lineNumber - 1) row
            (handRows 0 (List.replicate s.pxr.leading row)
              ((s.setPxr { s.pxr with
                state := .inFrame .between, patched := s.pxr.patched + 1, received := s.pxr.received + 1,
                lastLine := some row, leading := 0 }).setCsq
                { s.csq with exposure := s.csq.exposure.map fun r => { r with shortLines := true } })))) ∧
      (s.pxr.openLine = [] → ∀ row, s.pxr.lastLine = some row →
        exec .lineClose s = .next
          (handRow (s.pxr.lineNumber - 1) row
            (s.setPxr { s.pxr with state := .inFrame .between, patched := s.pxr.patched + 1 }))) ∧
      (s.pxr.openLine = [] → s.pxr.lastLine = none →
        exec .lineClose s = .next
          (s.setPxr { s.pxr with
            state := .inFrame .between, patched := s.pxr.patched + 1, leading := s.pxr.leading + 1 })))) ∧
  (∀ (y : Nat) (s : State), handRows y [] s = s ∧
    ∀ row rows, handRows y (row :: rows) s = handRows (y + 1) rows (handRow y row s)) ∧
  (∀ (y : Nat) (row : List Nat) (s : State), s.csq.exposure = none → handRow y row s = s) ∧
  ∀ (s t : State) (r : ExposureRecord) (y : Nat) (row : List Nat),
    s.csq.exposure = some r → row.length = 1280 → t = handRow y row s →
    t = (s.setPhc t.phc).setMtu t.mtu ∧
    (r.kind = .dark →
      (384 ≤ y → y ≤ 639 → t.phc = { s.phc with
        darkSum := s.phc.darkSum.map fun d => d + ((List.range 1024).map fun k => row.getD (128 + k) 0).sum }) ∧
      (y < 384 ∨ 639 < y → t.phc = s.phc)) ∧
    (∀ b role id, r.kind = .lit b → r.purpose = .stream → r.assigned = some (role, id) →
      (s.phc.lin id).releaseMarked = false →
      (t.phc.lin id).content = (s.phc.lin id).content ∧
      (role ≠ .second → y = (s.phc.lin id).rows.length → ∃ new, (t.phc.lin id).rows = (s.phc.lin id).rows ++ [new] ∧
        new.length = 1280 ∧ ∀ x p, row[x]? = some p →
          new[x]? = some (correctedValue (subtractBlackClamped p r.black)
            (nodeValue (gainTable s.pfs.ws.content b) x y))) ∧
      (∀ rowF, role = .second → (s.phc.lin id).rows[y]? = some rowF → rowF.length = 1280 →
        ∃ new, (t.phc.lin id).rows = (s.phc.lin id).rows.set y new ∧ new.length = 1280 ∧
          ∀ x p f, row[x]? = some p → rowF[x]? = some f →
            new[x]? = some (fuseBlend (nodeValue (weightTable s.pfs.ws.content) x y) f
              (correctedValue (subtractBlackClamped p r.black)
                (nodeValue (gainTable s.pfs.ws.content b) x y))))) ∧
    (∀ b tag, r.kind = .lit b → r.purpose = .still tag →
      ((s.phc.acc b).state = .receiving → y = (s.phc.acc b).pendingPlane.length →
        t.phc = s.phc.setAcc b { s.phc.acc b with
          pendingPlane := (s.phc.acc b).pendingPlane ++ [row.map fun (p : Nat) => (p : Int) - (r.black : Int)] }) ∧
      ((s.phc.acc b).state = .discarding → t.phc = s.phc)) ∧
    (s.mtu.measurement = none → t.mtu = s.mtu) ∧
    ∀ m, s.mtu.measurement = some m → t.mtu.zones = s.mtu.zones ∧ t.mtu.clipLevel = s.mtu.clipLevel ∧
      ∃ m', t.mtu.measurement = some m' ∧ m'.number = m.number ∧ m'.bank = m.bank ∧ m'.clipLevel = m.clipLevel ∧
        m'.zones.length = m.zones.length ∧
        ∀ (k : Nat) (z : MeasuredZone), m.zones[k]? = some z → z.defn.col0 ≤ z.defn.col1 → z.defn.col1 ≤ 19 →
          ∃ z', m'.zones[k]? = some z' ∧ z'.index = z.index ∧ z'.defn = z.defn ∧
            (64 * z.defn.row0 ≤ y → y ≤ 64 * z.defn.row1 + 63 →
              let cols := (List.range (64 * (z.defn.col1 - z.defn.col0 + 1))).map fun i =>
                row.getD (64 * z.defn.col0 + i) 0
              z'.sum = z.sum + (cols.map fun p => min (p - r.black) 4095).sum ∧
                z'.clipped = z.clipped + cols.countP fun p => m.clipLevel ≤ p) ∧
            (y < 64 * z.defn.row0 ∨ 64 * z.defn.row1 + 63 < y → z' = z)

/-- R6, whole: the effect of a frame-open in OFF, IDLE, EXPOSING, AWAIT, IN_FRAME and SKIP. -/
def Obligations.FrameOpens : Prop :=
  ∀ s : State,
    (s.pxr.state = .off → exec .frameOpen s = .next s) ∧
    (s.pxr.state = .idle → exec .frameOpen s = .next (s.setPxr { s.pxr with state := .skip .none })) ∧
    (s.pxr.state = .exposing →
      exec .frameOpen s = .next ((s.setPxr { s.pxr with state := .skip .exposing }).setCsq
        { s.csq with exposure := s.csq.exposure.map fun r => { r with strayOpen := true } })) ∧
    (s.pxr.state = .awaiting →
      exec .frameOpen s = .next ((s.setPxr { s.pxr with state := .inFrame .between, lineNumber := 0 }).setCsq
        { s.csq with exposure := s.csq.exposure.map fun r => { r with state := .readout } })) ∧
    (∀ sub, s.pxr.state = .inFrame sub →
      exec .frameOpen s = .next (s.setCsq
        { s.csq with exposure := s.csq.exposure.map fun r => { r with strayOpen := true } })) ∧
    (∀ held, s.pxr.state = .skip held → exec .frameOpen s = .next s)

/-- R13, whole: a frame-close in SKIP and in the states where it is ignored; after the close the frame-open of an
ended held exposure is taken as its readout. -/
def Obligations.FrameCloseEndsSkip : Prop :=
  ∀ s : State,
    (s.pxr.state = .skip .none → exec .frameClose s = .next (s.setPxr { s.pxr with state := .idle })) ∧
    (s.pxr.state = .skip .exposing → exec .frameClose s = .next (s.setPxr { s.pxr with state := .exposing })) ∧
    (s.pxr.state = .skip .ended →
      exec .frameClose s = .next (s.setPxr { s.pxr with state := .awaiting }) ∧
      ∃ t, exec .frameOpen (s.setPxr { s.pxr with state := .awaiting }) = .next t ∧ t.pxr.state = .inFrame .between) ∧
    (s.pxr.state = .off ∨ s.pxr.state = .idle ∨ s.pxr.state = .exposing ∨ s.pxr.state = .awaiting →
      exec .frameClose s = .next s)

/-- FRAME_CLOSE in IN_FRAME by R12: the open line is closed first, then the readout ends as EMPTY, as PATCH_LIMIT or
complete; a still's exposure by R35 and R110, an abandoned stream exposure and a buffer marked for release by R31, R32
and R101, an abandoned dark one by R21; and the trailing missing rows, handed as copies of the last received line
(R11): the close is that of the readout with those rows counted and handed. `lastEnded` is the record as it stood at
its end (the model's own field, log entry 7); that AWAIT_FINALISE comes with the last completed end mark, before its
fold, is log entry 16's reading. A still's values are gathered as GatheredFrom of Safety.lean says (R102). -/
def Obligations.FrameCloseJudgesReadout : Prop :=
  ((∀ (s : State) (r : ExposureRecord), s.csq.exposure = some r →
    (s.pxr.state = .inFrame .inLine →
      ∃ u, exec .lineClose s = .next u ∧ u.pxr.state = .inFrame .between ∧ u.csq.exposure.isSome ∧
        exec .frameClose s = exec .frameClose u) ∧
    (s.pxr.state = .inFrame .between → ∃ t, exec .frameClose s = .next t ∧
      t.pxr.state = .idle ∧ t.pxr.readoutTimer = none ∧ t.csq.exposure = none ∧ t.mtu.measurement = none ∧
      (s.pxr.received = 0 →
        t.csq.lastEnded = some { r with
          state := .abandoned, patchedLines := s.pxr.patched + (1024 - s.pxr.lineNumber), reason := some .empty }) ∧
      (0 < s.pxr.received → s.pxr.patchLimit < s.pxr.patched + (1024 - s.pxr.lineNumber) →
        t.csq.lastEnded = some { r with
          state := .abandoned, patchedLines := s.pxr.patched + (1024 - s.pxr.lineNumber), reason := some .patchLimit }) ∧
      (0 < s.pxr.received → s.pxr.patched + (1024 - s.pxr.lineNumber) ≤ s.pxr.patchLimit →
        t.csq.lastEnded = some { r with
          state := .complete, patchedLines := s.pxr.patched + (1024 - s.pxr.lineNumber) }) ∧
      (s.cdu.riseEn.getLsbD 8 = true →
        s.pxr.received = 0 ∨ 0 < s.pxr.patched + (1024 - s.pxr.lineNumber) → t.cdu.latches.getLsbD 8 = true))) ∧
  ∀ (s : State) (r : ExposureRecord) (b : Bank) (tag : Nat), s.csq.exposure = some r → r.kind = .lit b →
    r.purpose = .still tag → s.pxr.state = .inFrame .between → ∃ t, exec .frameClose s = .next t ∧
      ((s.phc.acc b).state = .discarding → (t.phc.acc b).state = .free ∧ (t.phc.acc b).folded = 0) ∧
      (0 < s.pxr.received → s.pxr.patched + (1024 - s.pxr.lineNumber) ≤ s.pxr.patchLimit →
        ((s.phc.acc b).state = .receiving →
          (t.phc.acc b).state = .folding ∧ (t.phc.acc b).folded = (s.phc.acc b).folded ∧
            (t.phc.acc b).sum = (s.phc.acc b).sum) ∧
        ∀ a, s.csq.active = some a → a.req.tag = tag →
          t.csq.state = s.csq.state ∧ ∃ a', t.csq.active = some a' ∧ a'.req = a.req ∧ a'.slot = a.slot ∧
            a'.abandonments = a.abandonments ∧
            a'.doneF = (if b = .flood then a.doneF + 1 else a.doneF) ∧
            a'.doneB = (if b = .beam then a.doneB + 1 else a.doneB) ∧
            (a'.nextBank.isSome = true → a'.phase = a.phase) ∧
            (a'.nextBank = none → a'.phase = .awaitFinalise ∧ ∃ v, a'.values = some v ∧ v.tag = tag ∧
              v.recipe = a.req.recipe ∧ v.depth = a.req.depth ∧ v.photometric = a.req.photometric ∧
              v.last = r.number ∧ v.black = r.black ∧ v.degraded = false ∧
              GatheredFrom
                (a.parts ++ [{ r with state := .complete, patchedLines := s.pxr.patched + (1024 - s.pxr.lineNumber) }]) t v)) ∧
      (s.pxr.received = 0 ∨ s.pxr.patchLimit < s.pxr.patched + (1024 - s.pxr.lineNumber) →
        ∀ a, s.csq.active = some a → a.req.tag = tag → StillExposureAbandoned b a s t)) ∧
  (∀ (s : State) (r : ExposureRecord) (b : Bank) (role : Role) (id : LinId), s.csq.exposure = some r → r.kind = .lit b →
    r.purpose = .stream → r.assigned = some (role, id) → s.pxr.state = .inFrame .between →
    ∃ t, exec .frameClose s = .next t ∧
      ((s.phc.lin id).releaseMarked = true → (t.phc.lin id).content = .empty) ∧
      (s.pxr.received = 0 ∨ s.pxr.patchLimit < s.pxr.patched + (1024 - s.pxr.lineNumber) →
        (t.phc.lin id).content = .empty ∧ t.csq.frame = none ∧ t.csq.awaiting = s.csq.awaiting ∧
          t.csq.darkCounter = s.csq.darkCounter ∧ t.csq.state = s.csq.state)) ∧
  (∀ (s : State) (r : ExposureRecord), s.csq.exposure = some r → r.kind = .dark → s.pxr.state = .inFrame .between →
    s.pxr.received = 0 ∨ s.pxr.patchLimit < s.pxr.patched + (1024 - s.pxr.lineNumber) →
    ∃ t, exec .frameClose s = .next t ∧ t.phc.lastDark = s.phc.lastDark ∧ t.phc.black = s.phc.black ∧ t.phc.darkSum = none) ∧
  ∀ (s : State) (row : List Nat), s.pxr.state = .inFrame .between → 0 < s.pxr.received → s.pxr.lastLine = some row →
    s.pxr.lineNumber ≤ 1024 → ∃ t u, exec .frameClose s = .next t ∧
      exec .frameClose (handRows s.pxr.lineNumber (List.replicate (1024 - s.pxr.lineNumber) row)
        (s.setPxr { s.pxr with
          lineNumber := 1024, patched := s.pxr.patched + (1024 - s.pxr.lineNumber) })) = .next u ∧
      t = u.setPxr { u.pxr with lineNumber := s.pxr.lineNumber }

/-- EXPOSURE_END by R5 and R87, from EXPOSING and from SKIP; with no exposure timer running nothing happens, which is
the model's reading of an event that cannot come (log entry 1). -/
def Obligations.ExposureEndStartsReadoutTimer : Prop :=
  ∀ s : State,
    (s.pxr.exposureTimer.isSome → s.pxr.state = .exposing →
      exec .exposureEnd s = .next ((s.setPxr { s.pxr with
        state := .awaiting, exposureTimer := none, readoutTimer := some s.pxr.readoutTimeout }).setLpc
          { s.lpc with lit := none })) ∧
    (s.pxr.exposureTimer.isSome → s.pxr.state = .skip .exposing →
      exec .exposureEnd s = .next ((s.setPxr { s.pxr with
        state := .skip .ended, exposureTimer := none, readoutTimer := some s.pxr.readoutTimeout }).setLpc
          { s.lpc with lit := none })) ∧
    (s.pxr.exposureTimer = none → exec .exposureEnd s = .next s)

/-- READOUT_TIMEOUT by R14: the exposure in flight ends ABANDONED with TIMEOUT, and the next receiver state for each
state it finds. With the timer stopped nothing happens (log entry 1). A still's exposure by R35 and R110, a stream
exposure by R31 and R101, a dark one by R21. -/
def Obligations.ReadoutTimeoutAbandons : Prop :=
  ∀ s : State,
    (s.pxr.readoutTimer = none → exec .readoutTimeout s = .next s) ∧
    ∀ r, s.pxr.readoutTimer.isSome → s.csq.exposure = some r → ∃ t, exec .readoutTimeout s = .next t ∧
      (s.pxr.state = .awaiting → t.pxr.state = .idle) ∧
      (∀ sub, s.pxr.state = .inFrame sub → t.pxr.state = .skip .none) ∧
      (s.pxr.state = .skip .ended → t.pxr.state = .skip .none) ∧
      t.pxr.readoutTimer = none ∧ t.csq.exposure = none ∧ t.mtu.measurement = none ∧
      t.csq.lastEnded =
        some { r with state := .abandoned, patchedLines := s.pxr.patched, reason := some .timeout } ∧
      (s.cdu.riseEn.getLsbD 8 = true → t.cdu.latches.getLsbD 8 = true) ∧
      (∀ b tag, r.kind = .lit b → r.purpose = .still tag →
        ((s.phc.acc b).state = .discarding → (t.phc.acc b).state = .free ∧ (t.phc.acc b).folded = 0) ∧
        ∀ a, s.csq.active = some a → a.req.tag = tag → StillExposureAbandoned b a s t) ∧
      (∀ b role id, r.kind = .lit b → r.purpose = .stream → r.assigned = some (role, id) →
        (t.phc.lin id).content = .empty ∧ t.csq.frame = none ∧ t.csq.awaiting = s.csq.awaiting ∧
          t.csq.darkCounter = s.csq.darkCounter ∧ t.csq.state = s.csq.state) ∧
      (r.kind = .dark → t.phc.lastDark = s.phc.lastDark ∧ t.phc.black = s.phc.black ∧ t.phc.darkSum = none)

/-- The completed end mark of a stream exposure (R31, R101): FIRST leaves the buffer HALF and the frame open; SINGLE
and SECOND leave it WHOLE, awaiting render. Missing rows at the end of the readout are handed first, as copies of the
last received line (R11, R12); what a handed row does is in LineCloses. A buffer marked for release is in
FrameCloseJudgesReadout. The picture values are gathered from the records of the frame's exposures, this one the last,
as GatheredFrom of Safety.lean says (R102, R72, R93, R116, R163; the mismatch flag with no HEAD adopted is log entry
31's, DEDUCED). -/
def Obligations.StreamExposureCompletes : Prop :=
  ∀ (s : State) (r : ExposureRecord) (f : StreamFrame) (b : Bank) (role : Role) (id : LinId),
    s.pxr.state = .inFrame .between → 0 < s.pxr.received →
    s.pxr.patched + (1024 - s.pxr.lineNumber) ≤ s.pxr.patchLimit → s.csq.exposure = some r → r.kind = .lit b →
    r.purpose = .stream →
    r.assigned = some (role, id) → s.csq.frame = some f → f.buffer = id → (s.phc.lin id).releaseMarked = false →
    ∃ t, exec .frameClose s = .next t ∧ (t.phc.lin id).rows = ((handRows s.pxr.lineNumber
      (List.replicate (1024 - s.pxr.lineNumber) (s.pxr.lastLine.getD [])) s).phc.lin id).rows ∧
      (s.pxr.lineNumber = 1024 → (t.phc.lin id).rows = (s.phc.lin id).rows) ∧
      (role = .first → (t.phc.lin id).content = .half ∧ t.csq.awaiting = s.csq.awaiting ∧
        t.csq.darkCounter = s.csq.darkCounter ∧
        t.csq.frame = some { f with
          parts := f.parts ++ [{ r with state := .complete, patchedLines := s.pxr.patched + (1024 - s.pxr.lineNumber) }] }) ∧
      (role ≠ .first → (t.phc.lin id).content = .whole ∧ t.csq.frame = none ∧
        t.csq.darkCounter = min (s.csq.darkCounter + 1) 255 ∧
        ∃ w, t.csq.awaiting = s.csq.awaiting ++ [w] ∧ w.buffer = id ∧ w.kind = .stream ∧
          w.values.recipe = f.recipe ∧ w.values.depth = 1 ∧ w.values.photometric = .apply ∧ w.values.tag = 0 ∧
          w.values.degraded = f.degraded ∧ w.values.last = r.number ∧ w.values.black = r.black ∧
          GatheredFrom
            (f.parts ++ [{ r with state := .complete, patchedLines := s.pxr.patched + (1024 - s.pxr.lineNumber) }]) t
            w.values)

/-- The completed end mark of a dark exposure (R21, R22): the mean of the window is the last dark result, and in AUTO
the black level, at most 1023. -/
def Obligations.DarkExposureCompletes : Prop :=
  ∀ (s : State) (r : ExposureRecord) (sum : Nat),
    s.pxr.state = .inFrame .between → s.pxr.lineNumber = 1024 → 0 < s.pxr.received →
    s.pxr.patched ≤ s.pxr.patchLimit → s.csq.exposure = some r → r.kind = .dark → s.phc.darkSum = some sum →
    ∃ t, exec .frameClose s = .next t ∧
      t.phc.lastDark = some { mean := (sum + 131072) / 262144, number := r.number } ∧
      (s.phc.blackMode = .auto → t.phc.black = min ((sum + 131072) / 262144) 1023) ∧
      (s.phc.blackMode = .manual → t.phc.black = s.phc.black) ∧ t.phc.darkSum = none ∧
      t.phc.lin0 = s.phc.lin0 ∧ t.phc.lin1 = s.phc.lin1

/-- TRIGGER of a stream frame's first exposure: F for FLOOD and FUSE, B for BEAM, and FLOOD marked degraded when the
bank set is F. The measurement and the revised marks are R66's (MeasurementOpened, MarksCleared of Safety.lean), the
receiver R4's (ReceiverTriggered). That the DARK_EVERY held at the trigger counts, however lately it was set, is the
model's choice (DESIGN CHOICE, log entry 40). -/
def Obligations.StreamTriggerOpensFrame : Prop :=
  ∀ (s : State) (k : Fin 12) (req : Recipe) (id : LinId),
    startUpEnded s = true → s.csq.exposure = none → s.hpb.adopted = some (.head k) → receiverReady s = true →
    s.csq.state = .run → s.csq.frame = none → s.csq.intervalTimer = none → s.csq.switchTarget = none →
    stillCanStart s = false → (s.phc.darkEvery = 0 ∨ s.csq.darkCounter < s.phc.darkEvery) → s.lpc.cutoff = false →
    (s.csq.paced = true → s.ofq.streamWaiting = false) → s.csq.requestedRecipe = some req → s.phc.emptyLin = some id →
    let eff : Recipe := if req = .flood ∨ s.pfs.ws.content.beam.isSome = true then req else .flood
    let b : Bank := if eff = .beam then .beam else .flood
    let limit := s.lpc.effectiveMax b (s.lpc.bank b).expo
    ∃ t r, exec .trigger s = .next t ∧
      t.csq.frame = some { recipe := eff, degraded := decide (eff ≠ req), buffer := id, parts := [] } ∧
      t.csq.intervalTimer = some s.csq.interval ∧ t.csq.nextExposure = s.csq.nextExposure + 1 ∧
      t.csq.exposure = some r ∧ r.number = s.csq.nextExposure ∧ r.kind = .lit b ∧ r.purpose = .stream ∧
      r.time = (s.lpc.bank b).expo ∧ r.black = s.phc.black ∧ r.usedLevel = min (s.lpc.bank b).level limit ∧
      r.clamped = decide (limit < (s.lpc.bank b).level) ∧ r.zones = s.mtu.zones.map Zone.defn ∧ r.state = .armed ∧
      r.strayOpen = false ∧ r.longLines = false ∧ r.shortLines = false ∧
      r.assigned = some (if eff = .fuse then .first else .single, id) ∧ (t.phc.lin id).content = .writing ∧
      t.pxr.exposureTimer = some (s.lpc.bank b).expo ∧ t.pxr.lineNumber = 0 ∧ t.pxr.patched = 0 ∧ t.pxr.received = 0 ∧
      (s.pxr.state = .idle → t.pxr.state = .exposing) ∧ (s.pxr.state = .skip .none → t.pxr.state = .skip .exposing) ∧
      t.lpc.lit = (if r.usedLevel = 0 then none else some (b, r.usedLevel)) ∧
      (t.lpc.bank b).lastLit = some { number := r.number, used := r.usedLevel } ∧
      MeasurementOpened r.number b s t ∧ MarksCleared s t ∧ ReceiverTriggered r.time s t

/-- TRIGGER when a dark is due (R103): no lamp, no buffer, the counter back to 0. It opens no measurement and clears
every revised mark (R66). That the DARK_EVERY held at the trigger counts, however lately it was set, is the model's
choice (DESIGN CHOICE, log entry 40). -/
def Obligations.DarkTriggerRules : Prop :=
  ∀ (s : State) (k : Fin 12),
    startUpEnded s = true → s.csq.exposure = none → s.hpb.adopted = some (.head k) → receiverReady s = true →
    s.csq.state = .run → s.csq.frame = none → s.csq.intervalTimer = none → s.csq.switchTarget = none →
    stillCanStart s = false → 0 < s.phc.darkEvery → s.phc.darkEvery ≤ s.csq.darkCounter →
    ∃ t r, exec .trigger s = .next t ∧ t.csq.exposure = some r ∧ r.number = s.csq.nextExposure ∧ r.kind = .dark ∧
      r.purpose = .darkReference ∧ r.time = s.lpc.flood.expo ∧ r.black = s.phc.black ∧ r.usedLevel = 0 ∧
      r.assigned = none ∧ r.state = .armed ∧ t.csq.darkCounter = 0 ∧ t.csq.intervalTimer = some s.csq.interval ∧
      t.csq.nextExposure = s.csq.nextExposure + 1 ∧ t.csq.frame = none ∧ t.phc.darkSum = some 0 ∧
      t.phc.lin0 = s.phc.lin0 ∧ t.phc.lin1 = s.phc.lin1 ∧ t.lpc = s.lpc ∧
      t.pxr.exposureTimer = some s.lpc.flood.expo ∧ r.clamped = false ∧ r.zones = s.mtu.zones.map Zone.defn ∧
      r.strayOpen = false ∧ r.longLines = false ∧ r.shortLines = false ∧
      t.mtu.measurement = s.mtu.measurement ∧ MarksCleared s t ∧ ReceiverTriggered r.time s t

/-- TRIGGER in its two untimed forms: a FUSE frame's B exposure, and the active still's next exposure. The lit bank is
R86's, the receiver R4's (ReceiverTriggered), the revised marks and the measurement R66's (MarksCleared,
MeasurementOpened): a still's exposure opens no measurement. -/
def Obligations.SecondAndStillTriggers : Prop :=
  (∀ a : StillTrack,
      (a.req.recipe = .flood → a.nextBank = if a.doneF < a.req.depth then some .flood else none) ∧
      (a.req.recipe = .beam → a.nextBank = if a.doneB < a.req.depth then some .beam else none) ∧
      (a.req.recipe = .fuse → a.doneF = a.doneB →
        a.nextBank = if a.doneF < a.req.depth then some .flood else none) ∧
      (a.req.recipe = .fuse → a.doneF = a.doneB + 1 → a.nextBank = some .beam)) ∧
  ∀ (s : State) (k : Fin 12),
    startUpEnded s = true → s.csq.exposure = none → s.hpb.adopted = some (.head k) → receiverReady s = true →
    s.lpc.cutoff = false →
    (∀ f, s.csq.state = .run → s.csq.frame = some f → (s.phc.lin f.buffer).content = .half →
      ∃ t r, exec .trigger s = .next t ∧ t.csq.exposure = some r ∧ r.number = s.csq.nextExposure ∧ r.kind = .lit .beam ∧
        r.purpose = .stream ∧ r.time = s.lpc.beam.expo ∧ r.black = s.phc.black ∧
        r.usedLevel = min s.lpc.beam.level (s.lpc.effectiveMax .beam s.lpc.beam.expo) ∧
        r.assigned = some (.second, f.buffer) ∧ (t.phc.lin f.buffer).content = .writing ∧
        (t.phc.lin f.buffer).rows = (s.phc.lin f.buffer).rows ∧ t.csq.frame = some f ∧
        r.clamped = decide (s.lpc.effectiveMax .beam s.lpc.beam.expo < s.lpc.beam.level) ∧ r.state = .armed ∧
        r.zones = s.mtu.zones.map Zone.defn ∧ r.strayOpen = false ∧ r.longLines = false ∧ r.shortLines = false ∧
        t.lpc.lit = (if r.usedLevel = 0 then none else some (.beam, r.usedLevel)) ∧
        t.lpc.beam = { s.lpc.beam with lastLit := some { number := r.number, used := r.usedLevel } } ∧
        t.lpc.flood = s.lpc.flood ∧ MeasurementOpened r.number .beam s t ∧ MarksCleared s t ∧
        ReceiverTriggered r.time s t ∧
        t.csq.intervalTimer = s.csq.intervalTimer ∧ t.csq.nextExposure = s.csq.nextExposure + 1) ∧
    (∀ a b, s.csq.state = .still → s.csq.active = some a → a.nextBank = some b → (s.phc.acc b).state = .opened →
      ∃ t r, exec .trigger s = .next t ∧ t.csq.exposure = some r ∧ r.number = s.csq.nextExposure ∧ r.kind = .lit b ∧
        r.purpose = .still a.req.tag ∧ r.black = a.black ∧
        r.time = (match b with | .flood => a.expoF | .beam => a.expoB) ∧
        r.usedLevel = min (match b with | .flood => a.levelF | .beam => a.levelB) (s.lpc.effectiveMax b r.time) ∧
        r.assigned = none ∧ (t.phc.acc b).state = .receiving ∧ (t.phc.acc b).folded = (s.phc.acc b).folded ∧
        t.lpc.flood = s.lpc.flood ∧ t.lpc.beam = s.lpc.beam ∧ t.csq.active = some a ∧
        r.clamped = decide (s.lpc.effectiveMax b r.time < (match b with | .flood => a.levelF | .beam => a.levelB)) ∧
        r.state = .armed ∧ r.zones = s.mtu.zones.map Zone.defn ∧ r.strayOpen = false ∧ r.longLines = false ∧
        r.shortLines = false ∧ t.lpc.lit = (if r.usedLevel = 0 then none else some (b, r.usedLevel)) ∧
        t.mtu.measurement = s.mtu.measurement ∧ MarksCleared s t ∧ ReceiverTriggered r.time s t ∧
        t.csq.intervalTimer = s.csq.intervalTimer ∧ t.csq.nextExposure = s.csq.nextExposure + 1)

/-- The whole-machine reading of R98: what must hold when an exposure comes into flight, over every command. -/
def Obligations.OnlyTriggerStartsExposure : Prop :=
  ∀ (i : Instr) (s t : State), exec i s = .next t →
    (∀ r, s.csq.exposure = none → t.csq.exposure = some r →
      i = .trigger ∧ (∃ k, s.hpb.adopted = some (.head k)) ∧ (s.csq.state = .run ∨ s.csq.state = .still) ∧
        r.state = .armed ∧ r.number = s.csq.nextExposure ∧ (r.kind = .dark ∨ s.lpc.cutoff = false)) ∧
    ∀ r r', s.csq.exposure = some r → t.csq.exposure = some r' → r'.number = r.number

/-- INTERVAL_EXPIRY (R99), SEND_PERIOD_EXPIRY (the table of R128) and PROBE_PERIOD_EXPIRY (R160). That
SEND_PERIOD_EXPIRY with the period timer stopped, and INTERVAL_EXPIRY with the timer expired already, change nothing
is the model's choice for an event that cannot come (log entry 1). -/
def Obligations.TimerExpiries : Prop :=
  ∀ s : State,
    exec .intervalExpiry s = .next (s.setCsq { s.csq with intervalTimer := none }) ∧
    (s.ofq.periodTimer = none → exec .sendPeriodExpiry s = .next s) ∧
    (s.ofq.periodTimer.isSome →
      (s.ofq.send.isSome → exec .sendPeriodExpiry s =
        .next (s.setOfq { s.ofq with periodTimer := some s.ofq.sendPeriod })) ∧
      (∀ i rest, s.ofq.send = none → s.ofq.readyOrder = i :: rest → exec .sendPeriodExpiry s =
        .next (s.setOfq { s.ofq with
          slots := s.ofq.slots.set i { s.ofq.slots[i] with state := .sending },
          readyOrder := rest.filter (· ≠ i), send := some { slot := i, isRepeat := false, taken := 0 },
          periodTimer := some s.ofq.sendPeriod })) ∧
      (∀ h, s.ofq.send = none → s.ofq.readyOrder = [] → s.ofq.heldSlot = some h → exec .sendPeriodExpiry s =
        .next (s.setOfq { s.ofq with
          slots := s.ofq.slots.set h { s.ofq.slots[h] with state := .sending },
          send := some { slot := h, isRepeat := true, taken := 0 }, periodTimer := some s.ofq.sendPeriod })) ∧
      (s.ofq.send = none → s.ofq.readyOrder = [] → s.ofq.heldSlot = none → exec .sendPeriodExpiry s =
        .next (s.setOfq { s.ofq with periodTimer := some s.ofq.sendPeriod }))) ∧
    (s.hpb.conv = .idle → s.hpb.nextKind = .id → exec .probePeriodExpiry s =
      .next (s.setHpb { s.hpb with periodTimer := s.hpb.probePeriod, conv := .convertingId, nextKind := .temp })) ∧
    (s.hpb.conv = .idle → s.hpb.nextKind = .temp → exec .probePeriodExpiry s =
      .next (s.setHpb { s.hpb with periodTimer := s.hpb.probePeriod, conv := .convertingTemp, nextKind := .id })) ∧
    (s.hpb.conv ≠ .idle → exec .probePeriodExpiry s = .next (s.setHpb { s.hpb with periodTimer := s.hpb.probePeriod }))

/-- STILL_START at the choice of R100: the first still starts (R108), or fails at its start for want of bank B. -/
def Obligations.StillStarts : Prop :=
  ∀ (s : State) (q : StillRequest) (rest : List StillRequest) (claim : Fin 4 × Bool),
    choiceOpen s = true → s.csq.switchTarget = none → s.phc.accF.state = .free → s.phc.accB.state = .free →
    s.csq.queue = q :: rest → s.ofq.stillClaim = some claim →
    ∃ t, exec .stillStart s = .next t ∧ t.csq.queue = rest ∧ t.csq.later = s.csq.later ∧
      (q.recipe ≠ .flood → s.pfs.ws.content.beam = none →
        t.csq.active = s.csq.active ∧ t.csq.state = s.csq.state ∧ t.phc = s.phc ∧ t.ofq = s.ofq ∧
          (s.cdu.riseEn.getLsbD 11 = true → t.cdu.latches.getLsbD 11 = true)) ∧
      (q.recipe = .flood ∨ s.pfs.ws.content.beam.isSome = true →
        t.csq.state = .still ∧
        (∃ a, t.csq.active = some a ∧ a.req = q ∧ a.phase = .exposing ∧ a.slot = claim.1 ∧ a.black = s.phc.black ∧
          a.levelF = s.lpc.flood.level ∧ a.expoF = s.lpc.flood.expo ∧ a.levelB = s.lpc.beam.level ∧
          a.expoB = s.lpc.beam.expo ∧ a.doneF = 0 ∧ a.doneB = 0 ∧ a.abandonments = 0) ∧
        t.phc.accF.state = .opened ∧ t.phc.accF.folded = 0 ∧ t.phc.accB.state = .opened ∧ t.phc.accB.folded = 0 ∧
        t.ofq.slots[claim.1].state = .reserved ∧ t.ofq.slots[claim.1].number = s.ofq.frameCounter ∧
        t.ofq.slots[claim.1].kind = .still q.tag ∧ t.ofq.frameCounter = s.ofq.frameCounter + 1 ∧
        claim.1 ∉ t.ofq.readyOrder ∧
        (claim.2 = true → s.cdu.riseEn.getLsbD 9 = true → t.cdu.latches.getLsbD 9 = true))

/-- FOLD_COMPLETE by R35 (of an accumulator that is not FOLDING it does nothing, log entry 1), FINALISE_START (R37,
R111) and FINALISE_COMPLETE (R38, R39). -/
def Obligations.FoldsAndFinalise : Prop :=
  (∀ (b : Bank) (s : State),
    ((s.phc.acc b).state = .folding → exec (.foldComplete b) s =
      .next (s.setPhc (s.phc.setAcc b
        { state := .opened, folded := (s.phc.acc b).folded + 1, pendingPlane := [],
          sum := if (s.phc.acc b).folded = 0 then (s.phc.acc b).pendingPlane
            else List.zipWith (List.zipWith (· + ·)) (s.phc.acc b).sum (s.phc.acc b).pendingPlane }))) ∧
    ((s.phc.acc b).state ≠ .folding → exec (.foldComplete b) s = .next s)) ∧
  ∀ s : State,
    (∀ a id, s.csq.active = some a → a.phase = .awaitFinalise → s.phc.emptyLin = some id →
      (a.req.recipe ≠ .beam → s.phc.accF.state = .opened ∧ s.phc.accF.folded = a.req.depth) →
      (a.req.recipe ≠ .flood → s.phc.accB.state = .opened ∧ s.phc.accB.folded = a.req.depth) →
      ∃ t, exec .finaliseStart s = .next t ∧ (t.phc.lin id).content = .writing ∧ t.phc.accF.state = .finalising ∧
        t.phc.accB.state = .finalising ∧ t.phc.accF.sum = s.phc.accF.sum ∧ t.phc.accB.sum = s.phc.accB.sum ∧
        t.phc.finalise = some
          { buffer := id, recipe := a.req.recipe, depth := a.req.depth, photometric := a.req.photometric } ∧
        t.csq.active = none ∧ t.csq.later = s.csq.later ++ [{ a with phase := .finalising }] ∧
        t.csq.state = (if s.csq.streamRequested then .run else .idle)) ∧
    ∀ j, s.phc.finalise = some j → ∃ t, exec .finaliseComplete s = .next t ∧
      (t.phc.lin j.buffer).content = .whole ∧ (t.phc.lin j.buffer).rows.length = 1024 ∧
      (∀ x y, x < 1280 → y < 1024 →
        ((t.phc.lin j.buffer).rows.getD y []).getD x 0 =
          finalisePixel s.pfs.ws.content j s.phc.accF s.phc.accB x y) ∧
      t.phc.accF.state = .free ∧ t.phc.accF.folded = 0 ∧ t.phc.accB.state = .free ∧ t.phc.accB.folded = 0 ∧
      t.phc.finalise = none ∧
      (∀ a v, (s.csq.later.find? fun x => x.phase = .finalising) = some a → a.values = some v →
        t.csq.awaiting = s.csq.awaiting ++ [{ buffer := j.buffer, kind := .still a.req.tag, values := v }]) ∧
      t.csq.later = s.csq.later.map fun a => if a.phase = .finalising then { a with phase := .awaitRender } else a

/-- RENDER_START by R42 and R124: a stream frame is numbered into a slot or dropped, a still goes into its own slot; W
× H is the working set's, and a still's kept crop or SENSOR geometry settles its size (R43). -/
def Obligations.RenderStarts : Prop :=
  ∀ (s : State) (w : Waiting) (rest : List Waiting), s.rme.job = none → s.csq.awaiting = w :: rest →
    (w.kind = .stream →
      (∀ i drops, s.ofq.streamClaim = some (i, drops) → ∃ t j, exec .renderStart s = .next t ∧
        t.csq.awaiting = rest ∧ t.rme.job = some j ∧ j.source = w.buffer ∧ j.dest = i ∧ j.kind = .stream ∧
        j.geometry = .corrected ∧ j.format = s.ofq.streamFormat ∧ j.crop = none ∧
        j.width = s.pfs.ws.content.width ∧ j.height = s.pfs.ws.content.height ∧ j.fill = s.rme.fill ∧ j.nextRow = 0 ∧
        t.ofq.slots[i].state = .reserved ∧ t.ofq.slots[i].number = s.ofq.frameCounter ∧
        t.ofq.slots[i].kind = .stream ∧ t.ofq.slots[i].values = some w.values ∧ t.ofq.slots[i].pixels = [] ∧
        t.ofq.slots[i].form = some
          { width := s.pfs.ws.content.width, height := s.pfs.ws.content.height, format := s.ofq.streamFormat,
            geometry := .corrected, cropX := 0, cropY := 0, profileId := s.pfs.ws.content.profileId,
            head := s.pfs.ws.content.head, source := s.pfs.ws.source } ∧
        t.ofq.frameCounter = s.ofq.frameCounter + 1 ∧ i ∉ t.ofq.readyOrder ∧
        (∀ k, k ≠ i → t.ofq.slots[k] = s.ofq.slots[k]) ∧
        (drops = true → s.cdu.riseEn.getLsbD 9 = true → t.cdu.latches.getLsbD 9 = true)) ∧
      (s.ofq.streamClaim = none → ∃ t, exec .renderStart s = .next t ∧ t.csq.awaiting = rest ∧ t.rme = s.rme ∧
        t.ofq = s.ofq ∧ ((s.phc.lin w.buffer).content = .whole → (t.phc.lin w.buffer).content = .empty) ∧
        (s.cdu.riseEn.getLsbD 9 = true → t.cdu.latches.getLsbD 9 = true))) ∧
    (∀ a, w.kind = .still a.req.tag → (s.csq.later.find? fun x => x.req.tag = a.req.tag) = some a →
      ∃ t j, exec .renderStart s = .next t ∧ t.csq.awaiting = rest ∧ t.rme.job = some j ∧ j.source = w.buffer ∧
        j.dest = a.slot ∧ j.kind = .still a.req.tag ∧ j.geometry = a.req.geometry ∧ j.format = a.req.format ∧
        j.fill = s.rme.fill ∧ j.nextRow = 0 ∧
        (a.req.geometry = .sensor → j.width = 1280 ∧ j.height = 1024 ∧ j.crop = none) ∧
        (a.req.geometry = .corrected →
          (∀ c, a.req.crop = some c → c.x0 + c.w ≤ s.pfs.ws.content.width → c.y0 + c.h ≤ s.pfs.ws.content.height →
            j.crop = some c ∧ j.width = c.w ∧ j.height = c.h) ∧
          (∀ c, a.req.crop = some c →
            s.pfs.ws.content.width < c.x0 + c.w ∨ s.pfs.ws.content.height < c.y0 + c.h →
            j.crop = none ∧ j.width = s.pfs.ws.content.width ∧ j.height = s.pfs.ws.content.height) ∧
          (a.req.crop = none →
            j.crop = none ∧ j.width = s.pfs.ws.content.width ∧ j.height = s.pfs.ws.content.height)) ∧
        t.ofq.slots[a.slot].values = some w.values ∧
        t.ofq.slots[a.slot].form = some
          { width := j.width, height := j.height, format := a.req.format, geometry := a.req.geometry,
            cropX := (j.crop.map Crop.x0).getD 0, cropY := (j.crop.map Crop.y0).getD 0,
            profileId := s.pfs.ws.content.profileId, head := s.pfs.ws.content.head, source := s.pfs.ws.source } ∧
        t.ofq.slots[a.slot].state = s.ofq.slots[a.slot].state ∧
        (∃ x ∈ t.csq.later, x.req = a.req ∧ x.phase = .rendering))

/-- The tables of R124 and R125, on the Output Queue's claims: what a claim answers is FREE and lowest, or the first
READY stream frame of the ready order. -/
def Obligations.StreamSlotClaim : Prop :=
  ∀ o : Output,
    (∀ i, o.slots[i].state = .free → (∀ k, k < i → o.slots[k].state ≠ .free) →
      o.streamClaim = some (i, false) ∧ o.stillClaim = some (i, false)) ∧
    ((∀ k : Fin 4, o.slots[k].state ≠ .free) →
      (o.policy = .keepOld → o.streamClaim = none) ∧
      (∀ before i after, o.readyOrder = before ++ i :: after → o.slots[i].kind = .stream →
        (∀ k ∈ before, o.slots[k].kind ≠ .stream) →
        o.stillClaim = some (i, true) ∧ (o.policy = .keepNew → o.streamClaim = some (i, true))) ∧
      ((∀ k ∈ o.readyOrder, o.slots[k].kind ≠ .stream) → o.stillClaim = none ∧ o.streamClaim = none))

/-- RENDER_COMPLETE by R56 and R126, a still QUEUED by R106 and R111; with no job it does nothing (log entry 1). The
last clauses give each pixel of `renderRow`, which the rows written are: mesh position (R46, R47), field and fill
(R48), sample (R49), crop (R50), SENSOR (R51), format (R52) and tone (R53, R54). -/
def Obligations.RenderCompletes : Prop :=
  (∀ s : State,
    (s.rme.job = none → exec .renderComplete s = .next s) ∧
    ∀ j, s.rme.job = some j → ∃ t, exec .renderComplete s = .next t ∧ t.rme.job = none ∧
      (t.phc.lin j.source).content = .empty ∧ t.ofq.slots[j.dest].state = .ready ∧
      t.ofq.slots[j.dest].number = s.ofq.slots[j.dest].number ∧ t.ofq.slots[j.dest].kind = s.ofq.slots[j.dest].kind ∧
      t.ofq.slots[j.dest].form = s.ofq.slots[j.dest].form ∧
      (∃ rows, t.ofq.slots[j.dest].pixels = s.ofq.slots[j.dest].pixels ++ rows ∧ rows.length = j.height - j.nextRow ∧
        ∀ k, k < j.height - j.nextRow →
          rows[k]? = some (renderRow s.pfs.ws.content j (s.phc.lin j.source).rows (j.nextRow + k))) ∧
      (∀ k, k ≠ j.dest → t.ofq.slots[k] = s.ofq.slots[k]) ∧
      (j.kind = .stream → t.csq = s.csq) ∧
      (∀ tag, j.kind = .still tag → t.csq = { s.csq with
        later := s.csq.later.map fun a => if a.req.tag = tag then { a with phase := .queued } else a }) ∧
      (s.ofq.slots[j.dest].kind = .stream → t.ofq.readyOrder = s.ofq.readyOrder ++ [j.dest]) ∧
      (∀ tag stills streams, s.ofq.slots[j.dest].kind = .still tag → s.ofq.readyOrder = stills ++ streams →
        (∀ k ∈ stills, s.ofq.slots[k].kind ≠ .stream) → (∀ k ∈ streams, s.ofq.slots[k].kind = .stream) →
        t.ofq.readyOrder = stills ++ [j.dest] ++ streams)) ∧
  ∀ (c : Content) (j : RenderJob) (rows : List (List Nat)) (v : Nat), (renderRow c j rows v).length = j.width ∧
    ∀ u, u < j.width →
      let curve (k : Nat) : Nat := match c.tone with | some e => e.getD k 0 | none => (k * 255 + 512) / 1024
      let shown (l : Nat) : Nat := match j.format with
        | .linear16 => l
        | .toned8 => (curve (l / 16) * (16 - l % 16) + curve (l / 16 + 1) * (l % 16) + 8) / 16
      let source (x y : Nat) : Nat := (rows.getD y []).getD x 0
      (j.geometry = .sensor → (renderRow c j rows v)[u]? = some (shown (source u v))) ∧
      ∀ m fu n fv : Nat, fu < 16 → fv < 16 → (j.crop.map Crop.x0).getD 0 + u = 16 * m + fu →
        (j.crop.map Crop.y0).getD 0 + v = 16 * n + fv → j.geometry = .corrected →
        let node (a b : Nat) : Int × Int := c.mesh.getD ((c.width / 16 + 1) * b + a) (0, 0)
        let mix (f : Int × Int → Int) : Int :=
          ((((16 - fu) * (16 - fv) : Nat) : Int) * f (node m n) + ((fu * (16 - fv) : Nat) : Int) * f (node (m + 1) n) +
            (((16 - fu) * fv : Nat) : Int) * f (node m (n + 1)) + ((fu * fv : Nat) : Int) * f (node (m + 1) (n + 1)) +
            128) / 256
        let x16 := mix Prod.fst
        let y16 := mix Prod.snd
        (x16 < 0 ∨ 20464 < x16 ∨ y16 < 0 ∨ 16368 < y16 → (renderRow c j rows v)[u]? =
          some (match j.format with | .toned8 => j.fill | .linear16 => 0)) ∧
        ∀ x ax y ay : Nat, ax < 16 → ay < 16 → x16 = ((16 * x + ax : Nat) : Int) → y16 = ((16 * y + ay : Nat) : Int) →
          16 * x + ax ≤ 20464 → 16 * y + ay ≤ 16368 → (renderRow c j rows v)[u]? =
            some (shown (((16 - ax) * (16 - ay) * source x y + ax * (16 - ay) * source (x + 1) y +
              (16 - ax) * ay * source x (y + 1) + ax * ay * source (x + 1) (y + 1) + 128) / 256))

/-- SEND_START by R127, MODEM_READY and SEND_COMPLETE by R129 and R130, and the byte the port presents (R129; the
frame's bytes are in FrameBytesLayout). The model's choices in it: SEND_COMPLETE stands for the modem taking every
byte left (log entry 9); the three commands change nothing when their conditions do not hold (log entry 1); a
completion leaves the ready order for a later SEND_START (log entry 13). -/
def Obligations.SendsRunToLastByte : Prop :=
  (∀ s : State,
    (∀ i rest, s.ofq.sendMode = .onDemand → s.ofq.send = none → s.ofq.readyOrder = i :: rest →
      exec .sendStart s = .next (s.setOfq { s.ofq with
        slots := s.ofq.slots.set i { s.ofq.slots[i] with state := .sending },
        readyOrder := rest.filter (· ≠ i), send := some { slot := i, isRepeat := false, taken := 0 } })) ∧
    (s.ofq.sendMode = .fixedRate ∨ s.ofq.send.isSome ∨ s.ofq.readyOrder = [] → exec .sendStart s = .next s)) ∧
  (∀ s : State,
    (s.ofq.send = none → exec .modemReady s = .next s ∧ exec .sendComplete s = .next s) ∧
    ∀ snd, s.ofq.send = some snd →
      (snd.taken + 1 < s.ofq.slots[snd.slot].frameLength →
        exec .modemReady s = .next (s.setOfq { s.ofq with send := some { snd with taken := snd.taken + 1 } })) ∧
      (s.ofq.slots[snd.slot].frameLength ≤ snd.taken + 1 → exec .modemReady s = exec .sendComplete s) ∧
      ∃ t, exec .sendComplete s = .next t ∧ t.ofq.send = none ∧ t.ofq.readyOrder = s.ofq.readyOrder ∧
        (s.ofq.sendMode = .onDemand → t.ofq.slots[snd.slot].state = .free) ∧
        (s.ofq.sendMode = .fixedRate → t.ofq.slots[snd.slot].state = .held ∧
          t.ofq.slots[snd.slot].pixels = s.ofq.slots[snd.slot].pixels ∧
          ∀ h, s.ofq.heldSlot = some h → h ≠ snd.slot → t.ofq.slots[h].state = .free) ∧
        (∀ tag, s.ofq.slots[snd.slot].kind = .still tag → snd.isRepeat = false →
          (∀ a ∈ t.csq.later, a.req.tag ≠ tag) ∧
          (s.cdu.riseEn.getLsbD 10 = true → t.cdu.latches.getLsbD 10 = true))) ∧
  ∀ s : State,
    (s.ofq.send = none → presentedByte s = none) ∧
    ∀ snd f v, s.ofq.send = some snd → s.ofq.slots[snd.slot].form = some f → s.ofq.slots[snd.slot].values = some v →
      s.ofq.slots[snd.slot].pixels.length = f.height → (∀ row ∈ s.ofq.slots[snd.slot].pixels, row.length = f.width) →
      snd.taken < s.ofq.slots[snd.slot].frameLength →
      ∃ b, presentedByte s = some b ∧ (s.ofq.slots[snd.slot].frameBytes snd.isRepeat)[snd.taken]? = some b ∧
        ∀ t, (exec .modemReady s = .next t → snd.taken + 1 < s.ofq.slots[snd.slot].frameLength →
          presentedByte t = (s.ofq.slots[snd.slot].frameBytes snd.isRepeat)[snd.taken + 1]?)

/-- The layout of R134 in all its 64 bytes, R135's pixel bytes, and R129's repeat flag. -/
def Obligations.FrameBytesLayout : Prop :=
  ∀ (x : Slot) (f : PictureForm) (v : PictureValues), x.form = some f → x.values = some v →
    (headerBytes x.number x.kind f v false).length = 64 ∧
    (headerBytes x.number x.kind f v false).take 8 = [0x4C, 0x56, 0x46, 0x48] ++ word32Bytes x.number ∧
    (headerBytes x.number x.kind f v false)[8]? = some (if x.kind = .stream then 0 else 1) ∧
    (x.kind = .stream → (headerBytes x.number x.kind f v false)[10]? = some 0) ∧
    (∀ tag, x.kind = .still tag → (headerBytes x.number x.kind f v false)[10]? = some (byte tag)) ∧
    (headerBytes x.number x.kind f v false)[11]? = some (byte v.recipe.code) ∧
    ((headerBytes x.number x.kind f v false).drop 12).take 7 =
      le16 f.width ++ le16 f.height ++
        [if f.format = .toned8 then 0 else 1, if f.geometry = .corrected then 0 else 1, byte v.depth] ∧
    ((headerBytes x.number x.kind f v false).drop 19).take 5 =
      (if v.photometric = .apply then 0 else 1) :: le16 f.profileId ++
        [byte (f.head.getD 255), byte ((f.source.map Fin.val).getD 255)] ∧
    ((headerBytes x.number x.kind f v false).drop 24).take 2 = le16 (BitVec.ofInt 16 (v.temperature.getD (-32768))).toNat ∧
    ((headerBytes x.number x.kind f v false).drop 26).take 10 =
      le16 v.black ++ le16 v.timeF ++ le16 v.timeB ++ le16 v.levelF ++ le16 v.levelB ∧
    (∀ k : Fin 8, fromLe (((headerBytes x.number x.kind f v false).drop 36).take 2) / 4 ^ k.val % 4 =
      match v.zoneStates[k] with | .unmeasured => 0 | .inside => 1 | .low => 2 | .high => 3) ∧
    (∃ g, (headerBytes x.number x.kind f v false)[38]? = some g ∧ ∀ k : Fin 8, g.getLsbD k = v.glare[k]) ∧
    ((headerBytes x.number x.kind f v false).drop 39).take 9 = 0 :: word32Bytes v.first ++ word32Bytes v.last ∧
    (headerBytes x.number x.kind f v false).drop 48 =
      le16 f.cropX ++ le16 f.cropY ++ le16 v.patchedLines ++ List.replicate 10 0 ∧
    x.frameBytes false = headerBytes x.number x.kind f v false ++
      x.pixels.flatten.flatMap (fun p => match f.format with | .toned8 => [byte p] | .linear16 => [byte p, byte (p / 256)]) ∧
    x.frameBytes true = headerBytes x.number x.kind f v true ++ (x.frameBytes false).drop 64 ∧
    (x.pixels.length = f.height → (∀ row ∈ x.pixels, row.length = f.width) →
      (x.frameBytes false).length = x.frameLength) ∧
    ∃ b, (headerBytes x.number x.kind f v false)[9]? = some b ∧ b.getLsbD 0 = false ∧
      b.getLsbD 1 = v.patched ∧ b.getLsbD 2 = v.degraded ∧ b.getLsbD 3 = v.mismatch ∧ b.getLsbD 4 = v.clamped ∧
      b.getLsbD 5 = v.strayOpen ∧ b.getLsbD 6 = v.longLines ∧ b.getLsbD 7 = v.shortLines ∧
      headerBytes x.number x.kind f v true = (headerBytes x.number x.kind f v false).set 9 (b ||| 1)

/-- SWITCH_DRAIN (R100) and SWITCH_LOAD (R114), a slot that is not VALID failing its load at once (R147 step 1, R115);
SwitchLeft of Safety.lean is the exit of R115. That the switch target is cleared on entering SWITCH-LOAD is the
model's reading (DEDUCED, log entry 15); a load that fails in its verify pass is in LoadPassesVerifyThenCopy. -/
def Obligations.SwitchDrainsThenLoads : Prop :=
  ∀ s : State,
    (∀ tgt, s.csq.switchTarget = some tgt → choiceOpen s = true →
      exec .switchDrain s = .next (s.setCsq { s.csq with state := .switchDrain })) ∧
    (s.csq.state = .switchDrain → s.csq.exposure = none → s.csq.active = none → s.phc.finalise = none →
      s.phc.lin0.content = .empty → s.phc.lin1.content = .empty → s.rme.job = none → s.pfs.op = none →
      (∀ i, s.csq.switchTarget = some (.slot i) ∨
          (∃ k, s.csq.switchTarget = some (.head k) ∧ s.pfs.boundSlot k = some i) →
        s.pfs.directory[i].state = .valid → ∃ t, exec .switchLoad s = .next t ∧ t.csq.state = .switchLoad ∧
          t.csq.switchTarget = none ∧ t.csq.nextTarget = s.csq.nextTarget ∧ t.pfs = { s.pfs with op := some (.load i .verify) }) ∧
      (∀ k, s.csq.switchTarget = some (.head k) → s.pfs.boundSlot k = none →
        ∃ t, exec .switchLoad s = .next t ∧ t.pfs = s.pfs ∧ t.cdu = s.cdu ∧ SwitchLeft none s t) ∧
      (∀ i, s.csq.switchTarget = some (.slot i) → s.pfs.directory[i].state ≠ .valid → ∃ t, exec .switchLoad s = .next t ∧
        t.pfs = { s.pfs with op := none, lastResult := .corrupt } ∧ SwitchLeft none s t ∧
        (s.cdu.riseEn.getLsbD 13 = true → t.cdu.latches.getLsbD 13 = true)))

/-- VERIFY_PASS_DONE and COPY_PASS_DONE by R147, of a load carried out in SWITCH-LOAD, R115's exit at the completion
of a load (SwitchLeft of Safety.lean), and the end of start-up at a load's end (StartUpEnds), each well or not
(EndsLoad); with no such pass running they do nothing (log entry 1). That the standby copy is whole at the end of the
verify pass, where R147 reads it in the copy pass, is the model's reading (DEDUCED, log entry 25). The byte order of
the stored check is log entry 21's (DEDUCED). The first clause reads R145's stored form back; SavePhases gives that
form byte by byte, and ScanClassesSlots what storedCheck reads. That the exit and the end of start-up come in the same
step is log entry 14's (DEDUCED). -/
def Obligations.LoadPassesVerifyThenCopy : Prop :=
  (∀ (c : Content) (rest : List Byte), c.wellFormed →
    readContent c.header (c.stored ++ rest) = c ∧ c.header.length = c.stored.length ∧
      slotBytes (c.stored ++ rest) c.header.length = c.stored) ∧
  ((∀ (s : State) (lost : LostCells),
    ((∀ i, s.pfs.op ≠ some (.load i .verify)) → exec (.verifyPassDone lost) s = .next s) ∧
    ((∀ i, s.pfs.op ≠ some (.load i .copy)) → exec .copyPassDone s = .next s) ∧
    (∀ i h bytes, s.pfs.op = some (.load i .verify) → s.pfs.directory[i].header = some h →
      bytes = loseCells s.pfs.slots[i].bytes lost →
      (crc32 (slotBytes bytes h.length) = storedCheck bytes h.length →
        ∃ t, exec (.verifyPassDone lost) s = .next t ∧ t.pfs.op = some (.load i .copy) ∧ t.pfs.ws = s.pfs.ws ∧
          t.pfs.standby = some { content := readContent h bytes, source := some i, modified := false } ∧
          t.csq = s.csq ∧ t.pfs.directory = s.pfs.directory) ∧
      (crc32 (slotBytes bytes h.length) ≠ storedCheck bytes h.length → s.csq.state = .switchLoad →
        ∃ t, exec (.verifyPassDone lost) s = .next t ∧ t.pfs.op = none ∧ t.pfs.lastResult = .corrupt ∧
          t.pfs.ws.content = s.pfs.ws.content ∧ t.pfs.directory[i].state = .corrupt ∧
          t.pfs.directory[i].guarded = s.pfs.directory[i].guarded ∧ t.csq.state ≠ .switchLoad ∧
          (∀ k, k ≠ i → t.pfs.directory[k] = s.pfs.directory[k]) ∧
          (s.cdu.riseEn.getLsbD 13 = true → t.cdu.latches.getLsbD 13 = true))) ∧
    ∀ i ws, s.pfs.op = some (.load i .copy) → s.pfs.standby = some ws → s.csq.state = .switchLoad →
      ∃ t, exec .copyPassDone s = .next t ∧ t.pfs.ws = ws ∧ t.pfs.op = none ∧ t.pfs.lastResult = .ok ∧
        t.pfs.directory = s.pfs.directory ∧ t.pfs.slots = s.pfs.slots ∧ t.csq.state ≠ .switchLoad ∧
        (s.cdu.riseEn.getLsbD 12 = true → t.cdu.latches.getLsbD 12 = true)) ∧
  ∀ (s : State) (cmd : Instr) (i : Fin 8), s.csq.state = .switchLoad → EndsLoad cmd i s →
    ∃ t, exec cmd s = .next t ∧ SwitchLeft s.csq.switchTarget s t) ∧
  ∀ (s : State) (cmd : Instr) (i : Fin 8), s.csq.state = .starting → EndsLoad cmd i s →
    ∃ t, exec cmd s = .next t ∧ t.pfs.op = none ∧ StartUpEnds s t ∧ t.hpb = s.hpb ∧
      (∀ ws, cmd = .copyPassDone → s.pfs.standby = some ws → t.pfs.ws = ws ∧ t.pfs.lastResult = .ok) ∧
      (cmd ≠ .copyPassDone → t.pfs.ws.content = s.pfs.ws.content ∧ t.pfs.lastResult = .corrupt ∧
        t.pfs.directory[i].state = .corrupt)

/-- SAVE_ERASE_DONE and SAVE_PROGRAM_DONE by R150; with no such phase running they do nothing (log entry 1). R145
gives the check value no byte order: low byte first, as it stands in the slot's bytes here, is the model's reading
(log entry 21). The first clause is R145's check value, bit by bit, before the final complement. The clauses after it
are R145's stored form, byte by byte, and the check's four bytes (their order: log entry 21). LoadPassesVerifyThenCopy
reads the form back, and ScanClassesSlots reads its header. -/
def Obligations.SavePhases : Prop :=
  (~~~(crc32 []) = 0xFFFFFFFF#32 ∧ ∀ (bytes : List Byte) (b : Byte), ~~~(crc32 (bytes ++ [b])) =
    (List.range 8).foldl (fun (c : Word32) k => c <<< 1 ^^^ if c.getLsbD 31 = b.getLsbD (7 - k) then 0#32
      else 0x04C11DB7#32)
      (~~~(crc32 bytes))) ∧
  (∀ c : Content,
    let two (v : Nat) : List Byte := [BitVec.ofNat 8 v, BitVec.ofNat 8 (v / 256)]
    let signed (v : Int) : List Byte := two (v % 65536).toNat
    c.stored =
      (two c.profileId ++
        [match c.head with | none => 255#8 | some k => BitVec.ofNat 8 k, if c.beam.isSome = true then 1#8 else 0#8] ++
        two c.width ++ two c.height ++ [if c.tone.isSome = true then 1#8 else 0#8] ++ c.label) ++
      c.mesh.flatMap (fun p => signed p.1 ++ signed p.2) ++ c.gainF.flatMap two ++
      (match c.beam with | some b => b.gainB.flatMap two ++ b.weight.flatMap two | none => []) ++
      (match c.tone with | some x => x.map (BitVec.ofNat 8) | none => []) ∧
    (c.label.length = 16 → (c.stored.take 25).drop 9 = c.label)) ∧
  (∀ b3 b2 b1 b0 : Byte, word32Bytes (b3 ++ b2 ++ b1 ++ b0) = [b0, b1, b2, b3]) ∧
  ∀ (s : State) (i : Fin 8),
    ((∀ k, s.pfs.op ≠ some (.save k .erase)) → exec .saveEraseDone s = .next s) ∧
    (∀ lost, (∀ k, s.pfs.op ≠ some (.save k .program)) → exec (.saveProgramDone lost) s = .next s) ∧
    (s.pfs.op = some (.save i .erase) → exec .saveEraseDone s = .next (s.setPfs { s.pfs with
      slots := s.pfs.slots.set i { s.pfs.slots[i] with bytes := [] }, op := some (.save i .program) })) ∧
    (s.pfs.op = some (.save i .program) →
      (∃ t, exec (.saveProgramDone []) s = .next t ∧ t.pfs.op = none ∧ t.pfs.lastResult = .ok ∧
        t.pfs.directory[i] = { state := .valid, guarded := false, header := some s.pfs.ws.content.header,
                               check := some (crc32 s.pfs.ws.content.stored) } ∧
        t.pfs.slots[i] = { bytes := s.pfs.ws.content.stored ++ word32Bytes (crc32 s.pfs.ws.content.stored),
                           protectMark := false, workMark := false } ∧
        t.pfs.ws = { s.pfs.ws with source := some i, modified := false } ∧
        (∀ k, k ≠ i → t.pfs.directory[k] = s.pfs.directory[k] ∧ t.pfs.slots[k] = s.pfs.slots[k]) ∧
        (s.cdu.riseEn.getLsbD 12 = true → t.cdu.latches.getLsbD 12 = true)) ∧
      ∀ lost bytes, bytes = loseCells (s.pfs.ws.content.stored ++ word32Bytes (crc32 s.pfs.ws.content.stored)) lost →
        (crc32 (slotBytes bytes s.pfs.ws.content.stored.length) = crc32 s.pfs.ws.content.stored →
          ∃ t, exec (.saveProgramDone lost) s = .next t ∧ t.pfs.op = none ∧ t.pfs.lastResult = .ok ∧
            t.pfs.directory = s.pfs.directory.set i
              { state := .valid, guarded := false, header := some s.pfs.ws.content.header,
                check := some (crc32 s.pfs.ws.content.stored) } ∧
            t.pfs.slots = s.pfs.slots.set i { bytes := bytes, protectMark := false, workMark := false } ∧
            t.pfs.ws = { s.pfs.ws with source := some i, modified := false } ∧
            (s.cdu.riseEn.getLsbD 12 = true → t.cdu.latches.getLsbD 12 = true)) ∧
        (crc32 (slotBytes bytes s.pfs.ws.content.stored.length) ≠ crc32 s.pfs.ws.content.stored →
          ∃ t, exec (.saveProgramDone lost) s = .next t ∧ t.pfs.op = none ∧ t.pfs.lastResult = .failVerify ∧
            t.pfs.directory = s.pfs.directory ∧ t.pfs.ws = s.pfs.ws ∧
            t.pfs.slots[i] = { s.pfs.slots[i] with bytes := bytes } ∧
            (∀ k, k ≠ i → t.pfs.slots[k] = s.pfs.slots[k]) ∧
            (s.cdu.riseEn.getLsbD 13 = true → t.cdu.latches.getLsbD 13 = true)))

/-- ERASE_DONE by R151 and ERASE_ALL_SLOT_DONE by R152; with no such operation running they do nothing (log entry 1).
-/
def Obligations.ErasesReadBack : Prop :=
  (blankBytes (loseCells [] []) = true ∧ ∀ bytes : List Byte, blankBytes bytes = true ↔ ∀ b ∈ bytes, b = 0xFF) ∧
  ∀ (s : State) (lost : LostCells) (i : Fin 8),
    let blank := blankBytes (loseCells [] lost)
    let after (t : State) : Prop :=
      t.pfs.directory[i].guarded = s.pfs.directory[i].guarded ∧
      t.pfs.slots[i].protectMark = s.pfs.slots[i].protectMark ∧
      (blank = true → t.pfs.directory[i].state = .empty ∧ t.pfs.directory[i].header = none ∧
        t.pfs.directory[i].check = none ∧ t.pfs.slots[i].bytes = [] ∧ t.pfs.slots[i].workMark = false) ∧
      (blank = false → t.pfs.directory[i] = s.pfs.directory[i] ∧ t.pfs.slots[i].bytes = loseCells [] lost ∧
        t.pfs.slots[i].workMark = s.pfs.slots[i].workMark) ∧
      t.pfs.ws.content = s.pfs.ws.content ∧ t.pfs.boot = s.pfs.boot
    let ended (ok : Bool) (t : State) : Prop := t.pfs.op = none ∧
      (ok = true → t.pfs.lastResult = .ok ∧ (s.cdu.riseEn.getLsbD 12 = true → t.cdu.latches.getLsbD 12 = true)) ∧
      (ok = false → t.pfs.lastResult = .failVerify ∧
        (s.cdu.riseEn.getLsbD 13 = true → t.cdu.latches.getLsbD 13 = true))
    ((∀ k, s.pfs.op ≠ some (.erase k)) → exec (.eraseDone lost) s = .next s) ∧
    ((∀ k failed, s.pfs.op ≠ some (.eraseAll k failed)) → exec (.eraseAllSlotDone lost) s = .next s) ∧
    (s.pfs.op = some (.erase i) → ∃ t, exec (.eraseDone lost) s = .next t ∧ after t ∧ ended blank t ∧
      ∀ k, k ≠ i → t.pfs.directory[k] = s.pfs.directory[k] ∧ t.pfs.slots[k] = s.pfs.slots[k]) ∧
    ∀ failed, s.pfs.op = some (.eraseAll i failed) → ∃ t, exec (.eraseAllSlotDone lost) s = .next t ∧ after t ∧
      (∀ k : Fin 8, k.val = i.val + 1 →
        t.pfs.op = some (.eraseAll k (failed || !blank)) ∧ t.pfs.lastResult = s.pfs.lastResult ∧ t.cdu = s.cdu ∧
        t.pfs.directory[k].state = .corrupt ∧ t.pfs.directory[k].guarded = s.pfs.directory[k].guarded ∧
        t.pfs.slots[k] = { s.pfs.slots[k] with workMark := true }) ∧
      (∀ k : Fin 8, k ≠ i → k.val ≠ i.val + 1 →
        t.pfs.directory[k] = s.pfs.directory[k] ∧ t.pfs.slots[k] = s.pfs.slots[k]) ∧
      (i = 7 → ended (!failed && blank) t)

/-- BOOT_WRITE_ERASE_DONE and BOOT_WRITE_PROGRAM_DONE by R157; with no such phase running they do nothing (log entry
1). -/
def Obligations.StartupRecordWritePhases : Prop :=
  ∀ (s : State) (data : List Byte) (lost : LostCells),
    ((∀ d, s.pfs.op ≠ some (.bootWrite d .erase)) → exec .bootWriteEraseDone s = .next s) ∧
    ((∀ d, s.pfs.op ≠ some (.bootWrite d .program)) → exec (.bootWriteProgramDone lost) s = .next s) ∧
    (s.pfs.op = some (.bootWrite data .erase) → ∃ t, exec .bootWriteEraseDone s = .next t ∧
      t.pfs.op = some (.bootWrite data .program) ∧ (∀ k : Fin 8, t.pfs.boot[k] = (0xFF#8, 0xFF#8)) ∧
      t.cdu = s.cdu ∧ t.lpc = s.lpc ∧ t.csq = s.csq ∧ t.ofq = s.ofq ∧ t.cml = s.cml) ∧
    (s.pfs.op = some (.bootWrite data .program) → ∃ t, exec (.bootWriteProgramDone lost) s = .next t ∧
      t.pfs.op = none ∧ t.lpc = s.lpc ∧ t.csq = s.csq ∧ t.ofq = s.ofq ∧
      (lost = [] → t.pfs.lastResult = .ok ∧
        (∀ k : Fin 8, t.pfs.boot[k].1 = data.getD k 0 ∧ cellOk t.pfs.boot[k] = true) ∧
        (s.cdu.riseEn.getLsbD 12 = true → t.cdu.latches.getLsbD 12 = true)) ∧
      ((∃ k : Fin 8, t.pfs.boot[k] ≠ (data.getD k 0, ~~~(data.getD k 0))) → t.pfs.lastResult = .failVerify ∧
        (s.cdu.riseEn.getLsbD 13 = true → t.cdu.latches.getLsbD 13 = true)))

/-- STARTUP_SCAN_DONE by R158: how each slot is classed, and that profile ids are unique among VALID slots (R146). The
check is read low byte first (log entry 21). The first clause is R145's check value, bit by bit, before the final
complement; the next two are R158's well-formed header in R145's 25 bytes, the length of what follows it, the bytes
read and the check stored after them; the fourth is R146 kept by every step: header and check present exactly for
VALID slots, and profile ids unique among them (DirectoryInv of Safety.lean; that it holds at reset is in
ResetMeetsInvariants). -/
def Obligations.ScanClassesSlots : Prop :=
  (~~~(crc32 []) = 0xFFFFFFFF#32 ∧ ∀ (bytes : List Byte) (b : Byte), ~~~(crc32 (bytes ++ [b])) =
    (List.range 8).foldl (fun (c : Word32) k => c <<< 1 ^^^ if c.getLsbD 31 = b.getLsbD (7 - k) then 0#32
      else 0x04C11DB7#32)
      (~~~(crc32 bytes))) ∧
  (∀ (bytes : List Byte) (h : StoredHeader),
    let two (v : Nat) : List Byte := [BitVec.ofNat 8 v, BitVec.ofNat 8 (v / 256)]
    (readHeader bytes = some h ↔ h.wellFormed ∧ slotBytes bytes 25 =
      two h.profileId ++
        [match h.head with | none => 255#8 | some k => BitVec.ofNat 8 k, if h.fb = true then 1#8 else 0#8] ++
        two h.width ++ two h.height ++ [if h.hasTone = true then 1#8 else 0#8] ++ h.label) ∧
    h.length = 25 + 4 * ((h.width / 16 + 1) * (h.height / 16 + 1)) + 2 * 357 + (if h.fb = true then 4 * 357 else 0) +
      (if h.hasTone = true then 1025 else 0)) ∧
  (∀ (bytes : List Byte) (m : Nat), slotBytes bytes m = (List.range m).map (fun k => bytes.getD k 0xFF#8) ∧
    storedCheck bytes m =
      bytes.getD (m + 3) 0xFF#8 ++ bytes.getD (m + 2) 0xFF#8 ++ bytes.getD (m + 1) 0xFF#8 ++ bytes.getD m 0xFF#8) ∧
  (∀ s t : State, DirectoryInv s → step s = .next t → DirectoryInv t) ∧
  ∀ s : State, s.csq.state = .starting → s.csq.scanDone = false → ∃ t, exec .startupScanDone s = .next t ∧
    t.csq.scanDone = true ∧ t.pfs.slots = s.pfs.slots ∧
    ∀ i : Fin 8,
      t.pfs.directory[i].guarded = s.pfs.slots[i].protectMark ∧
      (s.pfs.slots[i].workMark = true → t.pfs.directory[i].state = .corrupt) ∧
      (s.pfs.slots[i].workMark = false → blankBytes s.pfs.slots[i].bytes = true → t.pfs.directory[i].state = .empty) ∧
      (s.pfs.slots[i].workMark = false → blankBytes s.pfs.slots[i].bytes = false →
        ∀ h, readHeader s.pfs.slots[i].bytes = some h →
          crc32 (slotBytes s.pfs.slots[i].bytes h.length) = storedCheck s.pfs.slots[i].bytes h.length →
          ((∀ j : Fin 8, j < i → t.pfs.directory[j].validId ≠ some h.profileId) → t.pfs.directory[i].state = .valid) ∧
          ((∃ j : Fin 8, j < i ∧ t.pfs.directory[j].validId = some h.profileId) →
            t.pfs.directory[i].state = .corrupt)) ∧
      (s.pfs.slots[i].workMark = false → blankBytes s.pfs.slots[i].bytes = false →
        (∀ h, readHeader s.pfs.slots[i].bytes = some h →
          crc32 (slotBytes s.pfs.slots[i].bytes h.length) ≠ storedCheck s.pfs.slots[i].bytes h.length) →
        t.pfs.directory[i].state = .corrupt) ∧
      (t.pfs.directory[i].state = .valid → s.pfs.slots[i].workMark = false ∧
        ∃ h, readHeader s.pfs.slots[i].bytes = some h ∧ t.pfs.directory[i].header = some h ∧
          crc32 (slotBytes s.pfs.slots[i].bytes h.length) = storedCheck s.pfs.slots[i].bytes h.length ∧
          t.pfs.directory[i].check = some (storedCheck s.pfs.slots[i].bytes h.length)) ∧
      ∀ j : Fin 8, j ≠ i → t.pfs.directory[i].state = .valid → t.pfs.directory[j].state = .valid →
        t.pfs.directory[i].validId ≠ t.pfs.directory[j].validId

/-- R95 at the event that comes last of the scan's end and the adoption: start-up waits for the other one, ends
without a load (StartUpEnds of Safety.lean), or loads the adopted head's profile. The first clause is R146's lookup by
head code. What becomes of the notice of the adoption is in AdoptionReports, and a load's end in
LoadPassesVerifyThenCopy. That the end of start-up or its load comes in the same step is log entry 14's (DEDUCED). -/
def Obligations.StartUpEndsAfterScanAndAdoption : Prop :=
  (∀ (p : Store) (k : Fin 12),
    let bound (i : Fin 8) : Prop := p.directory[i].state = .valid ∧ ∃ h, p.directory[i].header = some h ∧ h.head = some k.val
    (∀ i, p.boundSlot k = some i ↔ bound i ∧ ∀ j, j < i → ¬bound j) ∧ (p.boundSlot k = none ↔ ∀ i, ¬bound i)) ∧
  ∀ s : State, s.csq.state = .starting → s.csq.loadChosen = false → s.pfs.op = none →
    (s.csq.scanDone = false → ∃ t, exec .startupScanDone s = .next t ∧ t.hpb = s.hpb ∧
      (s.hpb.adopted = none → t.csq.state = .starting ∧ t.csq.loadChosen = false ∧ t.pxr = s.pxr ∧ t.pfs.op = none) ∧
      ∀ c, s.hpb.adopted = some c → t.csq.loadChosen = true ∧
        (∀ k i, c = .head k → t.pfs.boundSlot k = some i →
          t.csq.state = .starting ∧ t.pxr = s.pxr ∧ t.pfs.op = some (.load i .verify)) ∧
        ((∀ k, c = .head k → t.pfs.boundSlot k = none) → t.pfs.op = none ∧ StartUpEnds s t)) ∧
    ∀ (r : Nat) (c : Classification), s.hpb.conv = .convertingId → classify r = c → s.hpb.candidate = some c →
      s.hpb.adopted ≠ some c → ∃ t, exec (.idConversionDone r) s = .next t ∧ t.hpb.adopted = some c ∧
        (s.csq.scanDone = false →
          t.csq.state = .starting ∧ t.csq.loadChosen = false ∧ t.pxr = s.pxr ∧ t.pfs = s.pfs) ∧
        (s.csq.scanDone = true → t.csq.loadChosen = true ∧
          (∀ k i, c = .head k → s.pfs.boundSlot k = some i →
            t.csq.state = .starting ∧ t.pxr = s.pxr ∧ t.pfs = { s.pfs with op := some (.load i .verify) }) ∧
          ((∀ k, c = .head k → s.pfs.boundSlot k = none) → t.pfs = s.pfs ∧ StartUpEnds s t))

/-- R161, whole: the latest ID code, its classification by the table with bands that do not overlap, its passing to
adoption, and that a temperature conversion neither classifies nor touches the run adoption counts. -/
def Obligations.IdentityCodesClassified : Prop :=
  (∀ (r : Nat) (s : State), s.hpb.conv = .convertingId → ∃ t c, exec (.idConversionDone r) s = .next t ∧
    t.hpb.latestId = some r ∧ t.hpb.latestClass = some c ∧
    (r < 16 → c = .shortLine) ∧ (1008 ≤ r → c = .openLine) ∧
    (∀ k : Fin 12, 52 + 80 * k.val ≤ r → r ≤ 76 + 80 * k.val → c = .head k) ∧
    (16 ≤ r → r < 1008 → (∀ k : Fin 12, r < 52 + 80 * k.val ∨ 76 + 80 * k.val < r) → c = .between) ∧
    (s.hpb.adopted = some c → t.hpb.candidate = none ∧ t.hpb.adopted = s.hpb.adopted) ∧
    (s.hpb.adopted ≠ some c → s.hpb.candidate ≠ some c →
      t.hpb.candidate = some c ∧ t.hpb.adopted = s.hpb.adopted) ∧
    (s.hpb.adopted ≠ some c → s.hpb.candidate = some c → t.hpb.candidate = none ∧ t.hpb.adopted = some c)) ∧
  ∀ (r : Nat) (s : State), ∃ t, exec (.tempConversionDone r) s = .next t ∧ t.hpb.latestClass = s.hpb.latestClass ∧
    t.hpb.candidate = s.hpb.candidate ∧ t.hpb.adopted = s.hpb.adopted

/-- An adoption (R162) with its reports (R164), the halt of R117 (HaltArises), HEAD_CHANGED's target (R113, and R95 in
start-up) and the end of the halt of R118. In start-up the notice starts before start-up goes on (R171; the moment of
its start inside the step is log entry 12). -/
def Obligations.AdoptionReports : Prop :=
  ∀ (r : Nat) (s : State) (c : Classification), s.hpb.conv = .convertingId → classify r = c →
    s.hpb.candidate = some c → s.hpb.adopted ≠ some c → ∃ t, exec (.idConversionDone r) s = .next t ∧
      t.hpb.adopted = some c ∧
      (t.cdu.live.getLsbD 0 = true ↔ ∃ k, c = .head k) ∧
      (∀ k, c = .head k → t.hpb.lastHead = some k ∧
        (s.hpb.lastHead ≠ some k → s.cdu.riseEn.getLsbD 1 = true → t.cdu.latches.getLsbD 1 = true)) ∧
      ((∀ k, c ≠ .head k) → t.hpb.lastHead = s.hpb.lastHead) ∧
      (∀ k, c = .head k → s.csq.state = .starting → s.cml.tx = none → s.cdu.noticeEn = true →
        s.hpb.lastHead ≠ some k → s.cdu.riseEn.getLsbD 1 = true → s.cdu.latches.getLsbD 1 = false →
        t.cdu.noticePending = false ∧ ∃ f, t.cml.tx = some (.notice f) ∧ f.kind = 0x60 ∧
          f.body = le16 t.cdu.latches.toNat ++ le16 t.cdu.live.toNat ++ [0]) ∧
      ((∃ k, s.hpb.adopted = some (.head k)) → (∀ k, c ≠ .head k) → s.csq.state ≠ .starting →
        HaltArises .headLost s t) ∧
      (∀ k, c = .head k →
        (s.hpb.lastHead ≠ some k → s.csq.autoswitch = true →
          (s.csq.state = .switchLoad →
            t.csq.nextTarget = some (.head k) ∧ t.csq.switchTarget = s.csq.switchTarget) ∧
          (s.csq.state ≠ .switchLoad → (s.csq.state = .starting → s.csq.loadChosen = true) →
            t.csq.switchTarget = some (.head k) ∧ t.csq.nextTarget = s.csq.nextTarget)) ∧
        (s.hpb.lastHead = some k ∨ s.csq.autoswitch = false ∨ (s.csq.state = .starting ∧ s.csq.loadChosen = false) →
          t.csq.switchTarget = s.csq.switchTarget ∧ t.csq.nextTarget = s.csq.nextTarget)) ∧
      (∀ k, c = .head k → s.csq.state = .halt → s.lpc.cutoff = false →
        t.csq.state =
          if s.csq.switchTarget ≠ none ∨ (s.csq.autoswitch = true ∧ s.hpb.lastHead ≠ some k) then .switchDrain
          else if s.csq.streamRequested then .run else .idle)

/-- TEMP_CONVERSION_DONE by R163, with the cutoff of R85, the halt it brings and what that abandons (R117:
HaltArises), and the level sources of R92. The end of the halt is R118's, UNDERLIT R91's. A cutoff that is ON stays ON
above CUTOFF - 10, at and above CUTOFF too (R85). -/
def Obligations.TemperatureDrivesLamps : Prop :=
  ∀ (r : Nat) (s : State), s.hpb.conv = .convertingTemp → ∃ t, exec (.tempConversionDone r) s = .next t ∧
    t.hpb.latestTemp = some r ∧ t.lpc.temperature = t.hpb.temperature ∧
    (r = 0 ∨ 1023 ≤ r → t.hpb.temperature = none) ∧
    (1 ≤ r → r ≤ 1022 → t.hpb.temperature = some ((((r * 330 + 512) / 1024 : Nat) : Int) - 80)) ∧
    (∀ T, t.hpb.temperature = some T → s.lpc.cutoffAt ≤ T → s.lpc.cutoff = false →
      t.lpc.cutoff = true ∧ t.lpc.lit = none ∧ (s.csq.state = .starting → t.csq = s.csq) ∧
        (s.csq.state ≠ .starting → HaltArises .lampCutoff s t)) ∧
    (∀ T, t.hpb.temperature = some T → s.lpc.cutoffAt - 10 < T → s.lpc.cutoff = true →
      t.lpc.cutoff = true ∧ t.lpc.lit = s.lpc.lit ∧ t.csq = s.csq) ∧
    (∀ T, t.hpb.temperature = some T → T ≤ s.lpc.cutoffAt - 10 → t.lpc.cutoff = false) ∧
    (∀ T, t.hpb.temperature = some T → T ≤ s.lpc.cutoffAt - 10 → s.lpc.cutoff = true → s.csq.state = .halt →
      ((∀ k, s.hpb.adopted ≠ some (.head k)) → t.csq.state = .halt) ∧
      ((∃ k, s.hpb.adopted = some (.head k)) → t.csq.state =
        if s.csq.switchTarget ≠ none then .switchDrain else if s.csq.streamRequested then .run else .idle)) ∧
    (∀ T, t.hpb.temperature = some T → s.lpc.cutoffAt - 10 < T → T < s.lpc.cutoffAt → t.lpc.cutoff = s.lpc.cutoff) ∧
    (t.hpb.temperature = none → t.lpc.cutoff = s.lpc.cutoff) ∧
    (t.cdu.live.getLsbD 2 = true ↔ ∃ T, t.hpb.temperature = some T ∧ s.lpc.derateStart < T) ∧
    t.cdu.live.getLsbD 3 = t.lpc.cutoff ∧ t.cdu.live.getLsbD 4 = t.hpb.temperature.isNone ∧
    (t.cdu.live.getLsbD 7 = true ↔ UnderlitHolds t.lpc)

/-- Receiving what R174 lays out gives back its KIND and BODY (R175), whatever they are, and changes nothing outside
the link but LINK_ERROR's latch. The first clauses are R174's check value, bit by bit, most significant bit first, and
its frame. -/
def Obligations.FrameReceivedArrives : Prop :=
  (crc16 [] = 0xFFFF#16 ∧ ∀ (bytes : List Byte) (b : Byte), crc16 (bytes ++ [b]) =
    (List.range 8).foldl (fun (c : Word16) k => c <<< 1 ^^^ if c.getLsbD 15 = b.getLsbD (7 - k) then 0#16 else 0x1021#16)
      (crc16 bytes)) ∧
  (∀ (kind : Byte) (body : List Byte), let c := crc16 (byte (body.length + 1) :: kind :: body)
    frameOnLine kind body =
      0xA5#8 :: byte (body.length + 1) :: kind :: body ++ [(c >>> 8).setWidth 8, c.setWidth 8]) ∧
  ∀ (kind : Byte) (body : List Byte) (s : State), body.length ≤ 240 → s.cml.rx = .hunt →
    ∃ t, exec (.frameReceived (frameOnLine kind body)) s = .next t ∧ t.cml.rx = .hunt ∧
      (s.cml.holding.length < 2 →
        t.cml.holding = s.cml.holding ++ [{ request := { kind, body }, taken := false }] ∧
          outsideLink t = outsideLink s) ∧
      (2 ≤ s.cml.holding.length → t.cml.holding = s.cml.holding ∧
        outsideLink t = outsideLink (linkErrorRaised s) ∧
        (s.cdu.riseEn.getLsbD 14 = true → t.cdu.latches.getLsbD 14 = true) ∧
        (s.cdu.riseEn.getLsbD 14 = false → outsideLink t = outsideLink s))

/-- The discards of R175: a wrong check, a gap, and a LEN out of range. The first clause is R174's check value, bit by
bit. -/
def Obligations.DamagedFramesDiscarded : Prop :=
  (crc16 [] = 0xFFFF#16 ∧ ∀ (bytes : List Byte) (b : Byte), crc16 (bytes ++ [b]) =
    (List.range 8).foldl (fun (c : Word16) k => c <<< 1 ^^^ if c.getLsbD 15 = b.getLsbD (7 - k) then 0#16 else 0x1021#16)
      (crc16 bytes)) ∧
  (∀ (kind hi lo : Byte) (body : List Byte) (s : State), body.length ≤ 240 → s.cml.rx = .hunt →
    hi ++ lo ≠ crc16 (byte (body.length + 1) :: kind :: body) →
    ∃ t, exec (.frameReceived (0xA5#8 :: byte (body.length + 1) :: kind :: body ++ [hi, lo])) s = .next t ∧
      t.cml.rx = .hunt ∧ t.cml.holding = s.cml.holding ∧
        outsideLink t = outsideLink (linkErrorRaised s) ∧
      (s.cdu.riseEn.getLsbD 14 = true → t.cdu.latches.getLsbD 14 = true)) ∧
  (∀ s : State, exec .byteGapTimeout s = .next (s.setCml { s.cml with rx := .hunt })) ∧
  ∀ (len : Byte) (s : State), len = 0 ∨ 241 < len.toNat →
    (s.cml.rx = .hunt ∨ s.cml.rx = .length → exec (.lenOutOfRange len) s = .next (s.setCml { s.cml with rx := .hunt }))

/-- FRAME_SENT by R176 and R177, but for the OK reply of an RSET, whose end is in SoftResetValues; with nothing being
sent it does nothing (log entry 1). The line by R174; the levels of the start bit and of the stop bit are the serial
family's (PRESUMED, log entry 38). -/
def Obligations.FrameSentFreesTransmitter : Prop :=
  (∀ s : State,
    (s.cml.tx = none → exec .frameSent s = .next s) ∧
    ∀ x, s.cml.tx = some x → (∀ f, x ≠ .reply f true) → ∃ t, exec .frameSent s = .next t ∧
      outsideLink t = outsideLink s ∧ t.cml.rx = s.cml.rx ∧
      (∀ f, x = .notice f → t.cml.holding = s.cml.holding) ∧
      (∀ f, x = .reply f false → t.cml.holding = s.cml.holding.tail) ∧
      (s.cdu.noticePending = true → t.cdu.noticePending = false ∧ t.cml.replies = s.cml.replies ∧
        ∃ f, t.cml.tx = some (.notice f) ∧ f.kind = 0x60 ∧
          f.body = le16 s.cdu.latches.toNat ++ le16 s.cdu.live.toNat ++ [byte (seqCode s.csq.state)]) ∧
      (s.cdu.noticePending = false → ∀ f b rest, s.cml.replies = (f, b) :: rest →
        t.cml.tx = some (.reply f b) ∧ t.cml.replies = rest) ∧
      (s.cdu.noticePending = false → s.cml.replies = [] → t.cml.tx = none)) ∧
  (∀ t : State, t.cml.tx = none → transmitBytes t = [] ∧ transmitBits t = []) ∧
  (∀ (t : State) (f : LinkFrame), (t.cml.tx = some (.notice f) ∨ ∃ b, t.cml.tx = some (.reply f b)) →
    ∃ hi lo, hi ++ lo = crc16 (byte (f.body.length + 1) :: f.kind :: f.body) ∧
      transmitBytes t = 0xA5 :: byte (f.body.length + 1) :: f.kind :: f.body ++ [hi, lo]) ∧
  (∀ t : State, transmitBits t = (transmitBytes t).flatMap fun b =>
    [false, b.getLsbD 0, b.getLsbD 1, b.getLsbD 2, b.getLsbD 3, b.getLsbD 4, b.getLsbD 5, b.getLsbD 6, b.getLsbD 7, true]) ∧
  ∀ b : Byte, byteOnLine (lineBits b) = some b

/-- The soft reset of R182, block by block as each chapter gives. The model's own choices in it: a slot whose save or
erase is cut off keeps its bytes as they stood before the phase, where R155 gives only CORRUPT with its work mark, and
chapter 08 a slot neither in its old form nor in its new one (log entry 21); how far a startup-record write has got is
a free value for each byte (log entry 3). -/
def Obligations.SoftResetValues : Prop :=
  ∀ (s : State) (f : LinkFrame), s.cml.tx = some (.reply f true) → ∃ t, exec .frameSent s = .next t ∧
    t.pxr.state = .idle ∧ t.pxr.readoutTimer = none ∧ t.pxr.exposureTimer = none ∧ t.pxr.lineNumber = 0 ∧
    t.pxr.openLine = [] ∧ t.pxr.patched = 0 ∧ t.pxr.received = 0 ∧ t.pxr.leading = 0 ∧ t.pxr.lastLine = none ∧
    t.pxr.depth = s.pxr.depth ∧ t.phc.blackMode = s.phc.blackMode ∧ t.phc.darkEvery = s.phc.darkEvery ∧
    t.phc.darkSum = none ∧ t.phc.accF.folded = 0 ∧ t.phc.accB.folded = 0 ∧ t.lpc.deadband = s.lpc.deadband ∧
    t.lpc.derateStart = s.lpc.derateStart ∧ t.lpc.cutoffAt = s.lpc.cutoffAt ∧
    t.lpc.startupCeiling = s.lpc.startupCeiling ∧ t.csq.requestedRecipe = none ∧ t.csq.loadHalt = false ∧
    t.csq.intervalTimer = none ∧ t.hpb.probePeriod = s.hpb.probePeriod ∧ t.hpb.latestId = s.hpb.latestId ∧
    t.hpb.latestClass = s.hpb.latestClass ∧ t.hpb.latestTemp = s.hpb.latestTemp ∧
    t.hpb.temperature = s.hpb.temperature ∧ t.pfs.standby = none ∧ (s.pfs.bootWriting = false → t.pfs.boot = s.pfs.boot) ∧
    (∀ data, s.pfs.op = some (.bootWrite data .erase) → ∀ i : Fin 8,
      (t.pfs.boot[i].1 = s.pfs.boot[i].1 ∨ t.pfs.boot[i].1 = 0xFF) ∧
        (t.pfs.boot[i].2 = s.pfs.boot[i].2 ∨ t.pfs.boot[i].2 = 0xFF)) ∧
    (∀ data, s.pfs.op = some (.bootWrite data .program) → ∀ i : Fin 8,
      (t.pfs.boot[i].1 = s.pfs.boot[i].1 ∨ t.pfs.boot[i].1 = data.getD i.val 0) ∧
        (t.pfs.boot[i].2 = s.pfs.boot[i].2 ∨ t.pfs.boot[i].2 = ~~~(data.getD i.val 0))) ∧
    t.pxr.align = s.pxr.align ∧ t.pxr.readoutTimeout = s.pxr.readoutTimeout ∧ t.pxr.patchLimit = s.pxr.patchLimit ∧
    t.phc.black = s.phc.black ∧ t.phc.lastDark = s.phc.lastDark ∧ t.phc.lin0.content = .empty ∧
    t.phc.lin1.content = .empty ∧ t.phc.accF.state = .free ∧ t.phc.accB.state = .free ∧ t.phc.finalise = none ∧
    t.rme.job = none ∧ t.rme.fill = s.rme.fill ∧ t.mtu.measurement = none ∧ t.mtu.clipLevel = s.mtu.clipLevel ∧
    (∀ i : Fin 8, t.mtu.zones[i].defn = s.mtu.zones[i].defn ∧ t.mtu.zones[i].result.level = .unmeasured ∧
      t.mtu.zones[i].result.glare = false ∧ t.mtu.zones[i].result.measured = none ∧ t.mtu.zones[i].result.mean = 0 ∧
      t.mtu.zones[i].result.clip = 0 ∧ t.mtu.zones[i].revised = false) ∧
    t.lpc.lit = none ∧ t.lpc.flood = { s.lpc.flood with lastLit := none } ∧
    t.lpc.beam = { s.lpc.beam with lastLit := none } ∧ t.lpc.ceiling = s.lpc.ceiling ∧ t.lpc.cutoff = s.lpc.cutoff ∧
    t.lpc.temperature = s.lpc.temperature ∧ (∀ i : Fin 8, t.lpc.steering[i].result.level = .unmeasured) ∧
    t.csq.state = (if (∃ k, s.hpb.adopted = some (.head k)) ∧ s.lpc.cutoff = false then .idle else .halt) ∧
    t.csq.streamRequested = false ∧ t.csq.queue = [] ∧ t.csq.active = none ∧ t.csq.later = [] ∧ t.csq.exposure = none ∧
    t.csq.frame = none ∧ t.csq.awaiting = [] ∧ t.csq.nextExposure = 0 ∧ t.csq.darkCounter = 0 ∧
    t.csq.switchTarget = none ∧ t.csq.nextTarget = none ∧ t.csq.interval = s.csq.interval ∧ t.csq.paced = s.csq.paced ∧
    t.csq.autoswitch = s.csq.autoswitch ∧
    (∀ i : Fin 4, t.ofq.slots[i].state = .free) ∧ t.ofq.readyOrder = [] ∧ t.ofq.frameCounter = 0 ∧ t.ofq.send = none ∧
    t.ofq.policy = s.ofq.policy ∧ t.ofq.sendMode = s.ofq.sendMode ∧ t.ofq.sendPeriod = s.ofq.sendPeriod ∧
    t.ofq.streamFormat = s.ofq.streamFormat ∧
    t.ofq.periodTimer = (if s.ofq.sendMode = .fixedRate then some s.ofq.sendPeriod else none) ∧
    t.pfs.ws = s.pfs.ws ∧ t.pfs.directory = s.pfs.directory ∧ t.pfs.slots = s.pfs.slots ∧ t.pfs.op = none ∧
    t.pfs.lastResult = (if s.pfs.op = none then s.pfs.lastResult else .aborted) ∧
    t.hpb.adopted = s.hpb.adopted ∧ t.hpb.lastHead = s.hpb.lastHead ∧ t.hpb.candidate = none ∧ t.hpb.conv = .idle ∧
    t.hpb.nextKind = .id ∧ t.hpb.forceHeld = false ∧ t.hpb.periodTimer = s.hpb.probePeriod ∧
    t.cdu.latches = 0 ∧ t.cdu.noticePending = false ∧ t.cdu.live = s.cdu.live &&& 0xFF1F ∧
    t.cdu.riseEn = s.cdu.riseEn ∧ t.cdu.fallEn = s.cdu.fallEn ∧ t.cdu.noticeEn = s.cdu.noticeEn ∧
    t.cml.rx = .hunt ∧ t.cml.holding = [] ∧ t.cml.replies = [] ∧ t.cml.tx = none ∧ t.cml.resetTaken = false ∧
    t.cml.rateCode = s.cml.rateCode

/-- The first three checks of R176, for every request command (BAD_KIND is its own row, and its reply is that
command's own effect), and R175's holding area for a request that is not the next to be taken. That the command itself
brings its request to the holding area is the model's reading (DEDUCED, log entry 6); whether a PSET of the other
width is a length error is a free value (log entry 4). The first clauses are the reply's KIND and status byte of R176,
its table of statuses, and the kinds and body lengths of the request index. -/
def Obligations.RequestsRefusedBeforeTheirOwner : Prop :=
  (∀ (kind : Byte) (st : Status) (data : List Byte),
    replyFrame kind st data = ⟨if kind.toNat < 0x80 then kind + 0x80 else kind, st.code :: data⟩) ∧
  (Status.code .ok = 0x00 ∧ Status.code .okClamped = 0x01 ∧ Status.code .accepted = 0x02 ∧ Status.code .badKind = 0x10 ∧
    Status.code .badLength = 0x11 ∧ Status.code .badParam = 0x12 ∧ Status.code .badState = 0x13 ∧
    Status.code .busy = 0x14 ∧ Status.code .guarded = 0x15 ∧ Status.code .noBank = 0x16 ∧
    Status.code .duplicate = 0x17 ∧ Status.code .tooLate = 0x18 ∧ Status.code .full = 0x19 ∧
    Status.code .notFound = 0x1A ∧ Status.code .corrupt = 0x1B) ∧
  (∀ kind : Byte,
    (knownKind kind = true ↔ kind.toNat ∈ [0x01, 0x02, 0x03, 0x04, 0x05, 0x10, 0x11, 0x12, 0x13, 0x14, 0x15, 0x20, 0x21,
      0x22, 0x23, 0x24, 0x25, 0x26, 0x27, 0x28, 0x29, 0x30, 0x3F]) ∧
    (startUpKind kind = true ↔ kind.toNat ∈ [0x01, 0x02, 0x03])) ∧
  (∀ (kind : Byte) (body : List Byte),
    let fits (n : Nat) : Prop := lengthOk ⟨kind, body⟩ = true ↔ body.length = n
    (kind.toNat ∈ [0x01, 0x05, 0x11, 0x25, 0x29, 0x3F] → fits 0) ∧
    (kind.toNat ∈ [0x02, 0x10, 0x13, 0x15, 0x22, 0x23, 0x24, 0x26, 0x27, 0x30] → fits 1) ∧
    (kind = 0x03 → fits 2) ∧ (kind = 0x12 → fits 15) ∧ (kind = 0x14 → fits 13) ∧ (kind = 0x21 → fits 5) ∧
    (kind = 0x28 → fits 8)) ∧
  (∀ (table : Byte) (rest : List Byte), table.toNat ≤ 4 → (lengthOk ⟨0x20, table :: rest⟩ = true ↔
    2 ≤ rest.length ∧ (rest.length - 2) % (if table = 0 then 4 else if table = 4 then 1 else 2) = 0)) ∧
  (∀ (code bank style : Byte) (value : List Byte),
    let ok := lengthOk ⟨0x04, code :: bank :: style :: value⟩
    (value.length ≠ 4 → value.length ≠ 16 → ok = false) ∧
    (value.length = 4 → code ≠ 0x46 → ok = true) ∧ (value.length = 16 → code = 0x46 → ok = true) ∧
    (value.length = 4 ∨ value.length = 16 → Param.ofCode code = none → ok = true)) ∧
  (∀ body : List Byte, body.length < 3 → lengthOk ⟨0x04, body⟩ = false ∧ lengthOk ⟨0x20, body⟩ = false) ∧
  ∀ (i : Instr) (q : Request) (s : State), i.wellFormed = true → requestOf i = some q →
    (Takes q s →
      (knownKind q.kind = false → Answers i q.kind .badKind [] s s) ∧
      (knownKind q.kind = true → lengthOk q = false → Answers i q.kind .badLength [] s s) ∧
      (knownKind q.kind = true → lengthOk q = true → startUpEnded s = false → startUpKind q.kind = false →
        Answers i q.kind .busy [] s s)) ∧
    ∀ q', s.cml.nextRequest = some q' → q' ≠ q → s.cml.rx = .hunt → ∃ t, exec i s = .next t ∧
      (s.cml.holding.length < 2 →
        t.cml.holding = s.cml.holding ++ [{ request := q, taken := false }] ∧ outsideLink t = outsideLink s) ∧
      (2 ≤ s.cml.holding.length → t.cml.holding = s.cml.holding ∧
        outsideLink t = outsideLink (linkErrorRaised s) ∧
        (s.cdu.riseEn.getLsbD 14 = true → t.cdu.latches.getLsbD 14 = true))

/-- The requests that only look, with their replies byte by byte (R179, R181 and the request index). The readings of
STAT's and TRD's model choices: what a BRD shows during a BWRT is free (log entry 3); the slot byte beside ERASE_ALL
is free (log entry 5); the codes of absent values, flags and targets, and a FREE slot's picture as absent, are DEDUCED
(log entry 18), as is a directory reply for a slot that is not VALID (log entry 19) and BRD's check flags (log entry
20); BAD_PARAM before NO_BANK in TRD is log entry 37's. That a slot's header and check are there exactly when it is
VALID is R146's invariant (DirectoryInv), which ScanClassesSlots says every step keeps. -/
def Obligations.ReadingRequestsOnlyAnswer : Prop :=
  ∀ s : State,
    let flag (v : Bool) : Byte := if v then 1 else 0
    let manual (m : AutoMode) : Byte := match m with | .auto => 0 | .manual => 1
    let recipe (r : Option Recipe) : Byte := match r with
      | none => 0 | some .flood => 1 | some .beam => 2 | some .fuse => 3
    let buffer (i : LinId) : Byte := match i with | .lin0 => 0 | .lin1 => 1
    let kind (k : PictureKind) : List Byte := match k with | .stream => [0, 0] | .still tag => [1, byte tag]
    let phase (p : StillPhase) : Nat := match p with
      | .pending => 1 | .exposing => 2 | .awaitFinalise => 3 | .finalising => 4 | .awaitRender => 5 | .rendering => 6
      | .queued => 7
    let target (x : Option Target) : List Byte := match x with
      | none => [0, 255] | some (.slot i) => [1, byte i.val] | some (.head k) => [2, byte k.val]
    let content (c : LinContent) : Byte := match c with | .empty => 0 | .writing => 1 | .half => 2 | .whole => 3
    let account (a : Accumulator) : List Byte :=
      [match a.state with
        | .free => 0 | .opened => 1 | .receiving => 2 | .folding => 3 | .finalising => 4 | .discarding => 5,
       byte a.folded]
    let classOf (absent : Byte) (c : Option Classification) : Byte := match c with
      | some (.head k) => byte k.val | some .shortLine => 12 | some .openLine => 13 | some .between => 14 | none => absent
    let head (h : Option Nat) : Byte := match h with | some k => byte k | none => 255
    let celsius (x : Option Int) : List Byte := le16s (match x with | some T => T | none => -32768)
    let record (d : DirRecord) : List Byte :=
      [match d.state with | .empty => 0 | .valid => 1 | .corrupt => 2, flag d.guarded]
    let results (r : ZoneResult) : List Byte :=
      le16 r.mean ++ le16 r.clip ++
      [match r.level with | .unmeasured => 0 | .inside => 1 | .low => 2 | .high => 3, flag r.glare] ++
      (match r.measured with | some m => le32 m.toNat | none => [0, 0, 0, 0])
    (TakenNow (.idnt []) s →
      Answers (.idnt []) 0x01 .ok
        ([0xE4, 0x02, 1, byte s.cml.rateCode] ++ le16 (s.lpc.startupCeiling / 10000)) s s) ∧
    (∀ (quiet : Bool) (tracked : Option StillTrack), TakenNow (.stat [0]) s →
      (quiet = true ↔ (s.pxr.state = .idle ∨ s.pxr.state = .skip .none) ∧ s.csq.exposure = none ∧ s.rme.job = none ∧
        s.phc.finalise = none ∧ s.csq.queue = [] ∧ s.csq.active = none) →
      (∀ a, s.csq.active = some a → tracked = some a) →
      (s.csq.active = none → s.csq.later = [] → tracked = none) →
      (∀ a before after, s.csq.active = none → s.csq.later = before ++ a :: after →
        (∀ x ∈ before, phase x.phase < phase a.phase) → (∀ x ∈ after, phase x.phase ≤ phase a.phase) →
        tracked = some a) →
      Answers (.stat [0]) 0x02 .ok
        ([match s.csq.state with
            | .starting => 0 | .idle => 1 | .run => 2 | .still => 3 | .switchDrain => 4 | .switchLoad => 5 | .halt => 6,
          flag quiet, flag s.csq.streamRequested, recipe s.csq.requestedRecipe,
          recipe (s.csq.frame.map StreamFrame.recipe), byte s.csq.darkCounter] ++ le32 s.csq.nextExposure.toNat ++
         (match s.csq.exposure with
            | some r => le32 r.number.toNat ++
                [match r.kind with | .lit .flood => 1 | .lit .beam => 2 | .dark => 3, flag (r.state = .readout)]
            | none => [0, 0, 0, 0, 0, 0]) ++
         [byte s.csq.queue.length] ++ ((s.csq.queue.map fun (q : StillRequest) => byte q.tag) ++ [0, 0, 0, 0]).take 4 ++
         (match tracked with
            | some a => [byte a.req.tag, byte (phase a.phase), byte a.doneF, byte a.doneB, byte a.abandonments]
            | none => [0, 0, 0, 0, 0]) ++
         target s.csq.switchTarget ++ target s.csq.nextTarget) s s) ∧
    (TakenNow (.stat [1]) s → Answers (.stat [1]) 0x02 .ok
      ([match s.pxr.state with | .off => 0 | .idle => 1 | .exposing => 2 | .awaiting => 3 | .inFrame _ => 4 | .skip _ => 5] ++
       le16 s.pxr.lineNumber ++ le16 s.pxr.patched ++ [manual s.phc.blackMode] ++ le16 s.phc.black ++
       (match s.phc.lastDark with
          | some d => 1 :: (le16 d.mean ++ le32 d.number.toNat)
          | none => [0, 0, 0, 0, 0, 0, 0]) ++
       [content s.phc.lin0.content, content s.phc.lin1.content] ++ account s.phc.accF ++ account s.phc.accB ++
       (match s.rme.job with
          | some j => [1, buffer j.source, byte j.dest.val] ++ kind j.kind ++ le16 j.nextRow
          | none => [0, 255, 255, 0, 0, 0, 0])) s s) ∧
    (TakenNow (.stat [2]) s → Answers (.stat [2]) 0x02 .ok
      ((([.flood, .beam] : List Bank).flatMap fun b =>
          [manual (s.lpc.bank b).mode] ++ le16 (s.lpc.bank b).level ++ le16 (s.lpc.derateLimit b) ++
          le16 (min (s.lpc.bank b).max (min (s.lpc.derateLimit b) (s.lpc.ceiling / (s.lpc.bank b).expo))) ++
          (match (s.lpc.bank b).lastLit with
            | some x => 1 :: (le32 x.number.toNat ++ le16 x.used)
            | none => [0, 0, 0, 0, 0, 0, 0])) ++
       [flag s.lpc.cutoff] ++
       (match s.lpc.lit with
          | some (.flood, v) => 1 :: le16 v
          | some (.beam, v) => 2 :: le16 v
          | none => [0, 0, 0]) ++
       celsius s.lpc.temperature) s s) ∧
    (TakenNow (.stat [3]) s → Answers (.stat [3]) 0x02 .ok
      ((([0, 1, 2, 3] : List (Fin 4)).flatMap fun i =>
          match s.ofq.slots[i].state with
          | .free => [0, 0, 0, 0, 0, 0, 0]
          | st => [match st with | .free => 0 | .reserved => 1 | .ready => 2 | .sending => 3 | .held => 4] ++
              le32 s.ofq.slots[i].number.toNat ++ kind s.ofq.slots[i].kind) ++
       [byte s.ofq.readyOrder.length] ++ ((s.ofq.readyOrder.map fun (i : Fin 4) => byte i.val) ++ [255, 255, 255, 255]).take 4 ++
       le32 s.ofq.frameCounter.toNat ++
       (match s.ofq.send with
          | some x => [byte x.slot.val, flag x.isRepeat] ++ le32 x.taken
          | none => [255, 0, 0, 0, 0, 0]) ++
       [match ([0, 1, 2, 3] : List (Fin 4)).find? fun i => s.ofq.slots[i].state = .held with
          | some i => byte i.val
          | none => 255]) s s) ∧
    (TakenNow (.stat [4]) s → Answers (.stat [4]) 0x02 .ok
      ((match s.pfs.op with
          | none => [0, 0, 255]
          | some (.load i _) => [3, 1, byte i.val]
          | some (.save i .erase) => [1, 2, byte i.val]
          | some (.save i .program) => [2, 2, byte i.val]
          | some (.erase i) => [1, 3, byte i.val]
          | some (.eraseAll i _) => [1, 4, Config.eraseAllSlotByte i.val]
          | some (.bootWrite _ .erase) => [1, 5, 255]
          | some (.bootWrite _ .program) => [2, 5, 255]) ++
       [match s.pfs.lastResult with | .none => 0 | .ok => 1 | .failVerify => 2 | .corrupt => 3 | .aborted => 4] ++
       le16 s.pfs.ws.content.profileId ++ [head s.pfs.ws.content.head, flag s.pfs.ws.content.beam.isSome] ++
       le16 s.pfs.ws.content.width ++ le16 s.pfs.ws.content.height ++
       [flag s.pfs.ws.content.tone.isSome, match s.pfs.ws.source with | some i => byte i.val | none => 255,
        flag s.pfs.ws.modified] ++
       le16 s.cdu.latches.toNat ++ le16 s.cdu.live.toNat ++ le16 s.cdu.riseEn.toNat ++ le16 s.cdu.fallEn.toNat ++
       [flag s.cdu.noticeEn, flag s.cdu.noticePending]) s s) ∧
    (probeReadings s.hpb =
      le16 (s.hpb.latestId.getD 0xFFFF) ++
      [classOf 255 s.hpb.latestClass, classOf 255 s.hpb.candidate, classOf 15 s.hpb.adopted,
       match s.hpb.lastHead with | some k => byte k.val | none => 255] ++
      le16 (s.hpb.latestTemp.getD 0xFFFF) ++ celsius s.hpb.temperature ++
      [match s.hpb.conv with | .idle => 0 | .convertingId => 1 | .convertingTemp => 2, flag s.hpb.forceHeld]) ∧
    (TakenNow (.stat [5]) s → Answers (.stat [5]) 0x02 .ok (probeReadings s.hpb) s s) ∧
    (∀ g : Byte, 5 < g.toNat → TakenNow (.stat [g]) s → Answers (.stat [g]) 0x02 .badParam [] s s) ∧
    (∀ bank : Byte, ∀ x ∈ ([
        (0x00, if s.pxr.align = .low then 1 else 0), (0x01, if s.pxr.depth = .ten then 10 else 12),
        (0x02, s.pxr.readoutTimeout), (0x03, s.pxr.patchLimit), (0x08, if s.phc.blackMode = .manual then 1 else 0),
        (0x09, s.phc.black), (0x0A, s.phc.darkEvery), (0x0C, s.mtu.clipLevel), (0x0D, s.rme.fill), (0x18, s.lpc.deadband),
        (0x19, s.lpc.ceiling), (0x1A, s.lpc.derateStart), (0x1B, s.lpc.cutoffAt), (0x20, s.csq.interval),
        (0x21, if s.csq.paced then 1 else 0), (0x22, if s.csq.autoswitch then 1 else 0),
        (0x28, if s.ofq.policy = .keepOld then 1 else 0), (0x29, if s.ofq.sendMode = .fixedRate then 1 else 0),
        (0x2A, s.ofq.sendPeriod), (0x2B, if s.ofq.streamFormat = .linear16 then 1 else 0), (0x30, s.cdu.riseEn.toNat),
        (0x31, s.cdu.fallEn.toNat), (0x32, if s.cdu.noticeEn then 1 else 0), (0x38, s.hpb.probePeriod),
        (0x40, s.pfs.ws.content.profileId), (0x41, match s.pfs.ws.content.head with | some k => k | none => 255),
        (0x42, if s.pfs.ws.content.beam.isSome then 1 else 0), (0x43, s.pfs.ws.content.width),
        (0x44, s.pfs.ws.content.height), (0x45, if s.pfs.ws.content.tone.isSome then 1 else 0)] : List (Byte × Int)),
      TakenNow (.pget [x.1, bank]) s → Answers (.pget [x.1, bank]) 0x03 .ok (le32s x.2) s s) ∧
    (∀ bank : Byte, TakenNow (.pget [0x46, bank]) s →
      Answers (.pget [0x46, bank]) 0x03 .ok s.pfs.ws.content.label s s) ∧
    (∀ (b : Bank) (bank : Byte), bank = (match b with | .flood => 0 | .beam => 1) → ∀ x ∈ ([
        (0x10, if (s.lpc.bank b).mode = .manual then 1 else 0), (0x11, (s.lpc.bank b).level), (0x12, (s.lpc.bank b).min),
        (0x13, (s.lpc.bank b).max), (0x14, (s.lpc.bank b).expo), (0x15, (s.lpc.bank b).target),
        (0x16, match (s.lpc.bank b).steer with | some z => (z.val : Int) | none => 255)] : List (Byte × Int)),
      TakenNow (.pget [x.1, bank]) s → Answers (.pget [x.1, bank]) 0x03 .ok (le32s x.2) s s) ∧
    (∀ code bank : Byte, TakenNow (.pget [code, bank]) s →
      (code.toNat ∈ [0x10, 0x11, 0x12, 0x13, 0x14, 0x15, 0x16] → 1 < bank.toNat →
        Answers (.pget [code, bank]) 0x03 .badParam [] s s) ∧
      (code.toNat ∉ [0x00, 0x01, 0x02, 0x03, 0x08, 0x09, 0x0A, 0x0C, 0x0D, 0x10, 0x11, 0x12, 0x13, 0x14, 0x15, 0x16, 0x18,
          0x19, 0x1A, 0x1B, 0x20, 0x21, 0x22, 0x28, 0x29, 0x2A, 0x2B, 0x30, 0x31, 0x32, 0x38, 0x40, 0x41, 0x42, 0x43,
          0x44, 0x45, 0x46] →
        Answers (.pget [code, bank]) 0x03 .badParam [] s s)) ∧
    (∀ i : Fin 8, Served (.zget [byte i.val]) s →
      Answers (.zget [byte i.val]) 0x15 .ok
        (let d := s.mtu.zones[i].defn
         [byte i.val, flag d.enabled, byte d.col0, byte d.col1, byte d.row0, byte d.row1,
          match d.bank with | .flood => 0 | .beam => 1] ++ le16 d.low ++ le16 d.high ++ le16 d.glareLimit ++
         results s.mtu.zones[i].result) s s) ∧
    (Served (.zget [255]) s →
      Answers (.zget [255]) 0x15 .ok
        (([0, 1, 2, 3, 4, 5, 6, 7] : List (Fin 8)).flatMap fun i => results s.mtu.zones[i].result) s s) ∧
    (∀ z : Byte, 7 < z.toNat → z ≠ 255 → Served (.zget [z]) s → Answers (.zget [z]) 0x15 .badParam [] s s) ∧
    (∀ code start count : Nat, code < 256 → start < 65536 → count < 65536 →
      Served (.trd (byte code :: le16 start ++ le16 count)) s →
      let fits : Prop := code ≤ 4 ∧ 0 < count ∧ count ≤ (if code = 0 then 59 else if code = 4 then 236 else 118) ∧
        start + count ≤ (if code = 0 then (s.pfs.ws.content.width / 16 + 1) * (s.pfs.ws.content.height / 16 + 1)
          else if code = 4 then 1025 else 357)
      let entry (k : Nat) : List Byte :=
        if code = 0 then
          match s.pfs.ws.content.mesh[k]? with | some p => le16s p.1 ++ le16s p.2 | none => []
        else if code = 1 then
          match s.pfs.ws.content.gainF[k]? with | some v => le16 v | none => []
        else if code = 4 then
          match s.pfs.ws.content.tone with
          | some e => (match e[k]? with | some v => [byte v] | none => [])
          | none => [byte ((k * 255 + 512) / 1024)]
        else match s.pfs.ws.content.beam with
          | some b => (match (if code = 2 then b.gainB else b.weight)[k]? with | some v => le16 v | none => [])
          | none => []
      (fits → (code = 2 ∨ code = 3 → s.pfs.ws.content.beam ≠ none) →
        Answers (.trd (byte code :: le16 start ++ le16 count)) 0x21 .ok
          ((List.range count).flatMap fun k => entry (start + k)) s s) ∧
      (fits → code = 2 ∨ code = 3 → s.pfs.ws.content.beam = none →
        Answers (.trd (byte code :: le16 start ++ le16 count)) 0x21 .noBank [] s s) ∧
      (¬fits → Answers (.trd (byte code :: le16 start ++ le16 count)) 0x21 .badParam [] s s)) ∧
    (∀ i : Fin 8, Served (.plst [byte i.val]) s →
      (∀ h k, s.pfs.directory[i].header = some h → s.pfs.directory[i].check = some k →
        Answers (.plst [byte i.val]) 0x27 .ok
          (record s.pfs.directory[i] ++ le16 h.profileId ++ [head h.head, flag h.fb] ++ le16 h.width ++ le16 h.height ++
            [flag h.hasTone] ++ h.label ++ le32 k.toNat) s s) ∧
      (s.pfs.directory[i].header = none →
        Answers (.plst [byte i.val]) 0x27 .ok (record s.pfs.directory[i]) s s)) ∧
    (DirectoryInv s → ∀ i : Fin 8,
      (s.pfs.directory[i].state = .valid →
        ∃ h k, s.pfs.directory[i].header = some h ∧ s.pfs.directory[i].check = some k) ∧
      (s.pfs.directory[i].state ≠ .valid → s.pfs.directory[i].header = none ∧ s.pfs.directory[i].check = none)) ∧
    (Served (.plst [255]) s →
      Answers (.plst [255]) 0x27 .ok
        (([0, 1, 2, 3, 4, 5, 6, 7] : List (Fin 8)).flatMap fun i => record s.pfs.directory[i] ++
          (match s.pfs.directory[i].header with
            | some h => le16 h.profileId ++ [head h.head, flag h.fb]
            | none => [0, 0, 0, 0])) s s) ∧
    (∀ z : Byte, 7 < z.toNat → z ≠ 255 → Served (.plst [z]) s → Answers (.plst [z]) 0x27 .badParam [] s s) ∧
    (∀ r : Vector (Byte × Byte) 8,
      let whole (c : Byte × Byte) : Bool := c.1 = ~~~c.2
      let below (c : Byte × Byte) (n : Nat) : Byte := flag (whole c && c.1.toNat ≤ n)
      let ceiling : Nat := r[1].1.toNat + 256 * r[2].1.toNat
      bootBytes r = [r[0].1, below r[0] 3, r[1].1, r[2].1,
        flag (whole r[1] && whole r[2] && 1 ≤ ceiling && ceiling ≤ 400),
        r[3].1, below r[3] 3, r[4].1, below r[4] 1, r[5].1, below r[5] 1, r[6].1, below r[6] 1, r[7].1, below r[7] 1]) ∧
    (Served (.brd []) s →
      (s.pfs.bootWriting = false → Answers (.brd []) 0x29 .ok (bootBytes s.pfs.boot) s s) ∧
      (s.pfs.bootWriting = true → Answers (.brd []) 0x29 .ok (bootBytes (s.pfs.bootView s.draws)) s s.draw))

/-- LTCH by R172 and the taking of RSET by R182; the reset itself is in SoftResetValues. -/
def Obligations.LatchesReadAndResetTaken : Prop :=
  ∀ s : State,
    (Served (.ltch []) s → Completes (.ltch []) s fun t =>
      Answered 0x05 .ok (le16 s.cdu.latches.toNat ++ le16 s.cdu.live.toNat) (s.setCdu { s.cdu with latches := 0 }) t ∧
        t.cdu.latches = 0 ∧ t.cdu.noticePending = false) ∧
    (Served (.rset []) s → Completes (.rset []) s fun t =>
      Answered 0x3F .ok [] s t ∧ ∀ q, ¬Takes q t)

/-- SGO by R104 and SHLT by R105, with what becomes of the frame being exposed. That a FUSE frame discarded with its F
exposure in flight is gone from the sequencer at once, its buffer marked, is the model's reading (DEDUCED, log entry
34). -/
def Obligations.StreamStartsAndStops : Prop :=
  ∀ s : State,
    (∀ r : Recipe, Served (.sgo [byte r.code]) s →
      (r = .flood ∨ s.pfs.ws.content.beam.isSome = true →
        (s.csq.streamRequested = true →
          Answers (.sgo [byte r.code]) 0x10 .ok [] s (s.setCsq { s.csq with requestedRecipe := some r })) ∧
        (s.csq.streamRequested = false →
          Answers (.sgo [byte r.code]) 0x10 .ok [] s (s.setCsq { s.csq with
            streamRequested := true, requestedRecipe := some r, intervalTimer := none,
            state := if s.csq.state = .idle then .run else s.csq.state }))) ∧
      (r ≠ .flood → s.pfs.ws.content.beam = none → Answers (.sgo [byte r.code]) 0x10 .noBank [] s s)) ∧
    (∀ c : Byte, c.toNat = 0 ∨ 3 < c.toNat → Served (.sgo [c]) s → Answers (.sgo [c]) 0x10 .badParam [] s s) ∧
    (Served (.shlt []) s → Completes (.shlt []) s fun t =>
      newestReply t = some (replyFrame 0x11 .ok []) ∧ t.csq.streamRequested = false ∧
      t.csq.state = (if s.csq.state = .run then .idle else s.csq.state) ∧
      t.csq.requestedRecipe = s.csq.requestedRecipe ∧ t.csq.exposure = s.csq.exposure ∧ t.csq.queue = s.csq.queue ∧
      t.csq.active = s.csq.active ∧ t.csq.awaiting = s.csq.awaiting ∧ t.pxr = s.pxr ∧ t.lpc = s.lpc ∧ t.ofq = s.ofq ∧
      (s.csq.frame = none → t.csq.frame = none ∧ t.phc = s.phc) ∧
      ∀ f, s.csq.frame = some f →
        (f.recipe ≠ .fuse ∨ (∃ r, s.csq.exposure = some r ∧ r.kind = .lit .beam) →
          t.csq.frame = some f ∧ t.phc = s.phc) ∧
        (f.recipe = .fuse → (∃ r, s.csq.exposure = some r ∧ r.kind = .lit .flood) →
          (s.phc.lin f.buffer).content = .writing →
          t.csq.frame = none ∧ (t.phc.lin f.buffer).releaseMarked = true) ∧
        (f.recipe = .fuse → s.csq.exposure = none → (s.phc.lin f.buffer).content = .half →
          t.csq.frame = none ∧ (t.phc.lin f.buffer).content = .empty))

/-- STIL by R107: for every valid request, for every body that its first check refuses, and for every other body,
whatever its present mask below 16 marks; and SCAN by R112. -/
def Obligations.StillsQueuedAndCancelled : Prop :=
  (∀ s : State,
    (∀ q : StillRequest, q.valid s.pfs.ws.content → Served (.stil (stilBody q)) s →
      (q.recipe ≠ .flood → s.pfs.ws.content.beam = none → Answers (.stil (stilBody q)) 0x12 .noBank [] s s) ∧
      (q.recipe = .flood ∨ s.pfs.ws.content.beam.isSome = true →
        (q.tag ∈ openTags s.csq → Answers (.stil (stilBody q)) 0x12 .duplicate [] s s) ∧
        (q.tag ∉ openTags s.csq → 4 ≤ s.csq.queue.length → Answers (.stil (stilBody q)) 0x12 .full [] s s) ∧
        (q.tag ∉ openTags s.csq → s.csq.queue.length < 4 →
          Answers (.stil (stilBody q)) 0x12 .ok [] s (s.setCsq { s.csq with queue := s.csq.queue ++ [q] })))) ∧
    ∀ tag, tag < 256 → Served (.scan [byte tag]) s →
      (tag ∉ openTags s.csq → Answers (.scan [byte tag]) 0x13 .notFound [] s s) ∧
      ((∀ a, s.csq.active = some a → a.req.tag ≠ tag) → tag ∈ s.csq.queue.map StillRequest.tag →
        Answers (.scan [byte tag]) 0x13 .ok []
          s (s.setCsq { s.csq with queue := s.csq.queue.filter fun q => q.tag ≠ tag })) ∧
      ((∀ a, s.csq.active = some a → a.req.tag ≠ tag) → tag ∉ s.csq.queue.map StillRequest.tag →
        tag ∈ s.csq.later.map (fun a => a.req.tag) → Answers (.scan [byte tag]) 0x13 .tooLate [] s s) ∧
      ∀ a, s.csq.active = some a → a.req.tag = tag → Completes (.scan [byte tag]) s fun t =>
        newestReply t = some (replyFrame 0x13 .ok []) ∧ t.csq.active = none ∧ t.csq.queue = s.csq.queue ∧
        t.csq.later = s.csq.later ∧ t.csq.state = (if s.csq.streamRequested then .run else .idle) ∧
        t.ofq.slots[a.slot].state = .free ∧ t.ofq.frameCounter = s.ofq.frameCounter ∧
        (s.phc.accF.state = .opened ∨ s.phc.accF.state = .folding → t.phc.accF.state = .free) ∧
        (s.phc.accB.state = .opened ∨ s.phc.accB.state = .folding → t.phc.accB.state = .free) ∧
        (∀ r, s.csq.exposure = some r → r.purpose = .still tag → s.pxr.exposureTimer.isSome →
          t.csq.exposure = none ∧ t.lpc.lit = none ∧ t.pxr.exposureTimer = none ∧
          t.csq.lastEnded = some { r with
            state := .abandoned, patchedLines := s.pxr.patched, reason := some .cancelled } ∧
          (s.pxr.state = .exposing → t.pxr.state = .idle) ∧ (s.pxr.state = .skip .exposing → t.pxr.state = .skip .none) ∧
          (s.cdu.riseEn.getLsbD 8 = true → t.cdu.latches.getLsbD 8 = true) ∧
          ∀ b, r.kind = .lit b → (s.phc.acc b).state = .receiving →
            (t.phc.acc b).state = .free ∧ (t.phc.acc b).folded = 0) ∧
        (s.pxr.exposureTimer = none → t.csq.exposure = s.csq.exposure ∧ t.pxr = s.pxr ∧
          (s.phc.accF.state = .receiving → t.phc.accF.state = .discarding) ∧
          (s.phc.accB.state = .receiving → t.phc.accB.state = .discarding))) ∧
  (∀ (s : State) (tag recipe depth mask geometry photometric format : Byte) (k : Crop), k.x0 < 65536 → k.y0 < 65536 →
    k.w < 65536 → k.h < 65536 →
    stilRefused s.pfs.ws.content tag recipe depth mask geometry photometric format k →
    let body := [tag, recipe, depth, mask, geometry, photometric, format] ++ le16 k.x0 ++ le16 k.y0 ++ le16 k.w ++ le16 k.h
    Served (.stil body) s → Answers (.stil body) 0x12 .badParam [] s s) ∧
  ∀ (s : State) (tag depth mask geometry photometric format : Byte) (recipe : Recipe) (k : Crop), k.x0 < 65536 →
    k.y0 < 65536 → k.w < 65536 → k.h < 65536 →
    ¬stilRefused s.pfs.ws.content tag (byte recipe.code) depth mask geometry photometric format k →
    let body := [tag, byte recipe.code, depth, mask, geometry, photometric, format] ++ le16 k.x0 ++ le16 k.y0 ++ le16 k.w ++
      le16 k.h
    let q : StillRequest :=
      { tag := tag.toNat, recipe, depth := depth.toNat,
        geometry := if mask.getLsbD 0 = true ∧ geometry = 1 then .sensor else .corrected,
        photometric := if mask.getLsbD 1 = true ∧ photometric = 1 then .bypass else .apply,
        format := if mask.getLsbD 2 = true ∧ format = 1 then .linear16 else .toned8,
        crop := if mask.getLsbD 3 = true then some k else none }
    Served (.stil body) s →
      (recipe ≠ .flood → s.pfs.ws.content.beam = none → Answers (.stil body) 0x12 .noBank [] s s) ∧
      (recipe = .flood ∨ s.pfs.ws.content.beam.isSome = true →
        (q.tag ∈ openTags s.csq → Answers (.stil body) 0x12 .duplicate [] s s) ∧
        (q.tag ∉ openTags s.csq → 4 ≤ s.csq.queue.length → Answers (.stil body) 0x12 .full [] s s) ∧
        (q.tag ∉ openTags s.csq → s.csq.queue.length < 4 →
          Answers (.stil body) 0x12 .ok [] s (s.setCsq { s.csq with queue := s.csq.queue ++ [q] })))

/-- ZSET by R63 and R64: every definition that needs no clamping, with the level sources by R71; every body R63
refuses; and every body it clamps. -/
def Obligations.ZoneDefined : Prop :=
  (∀ (s : State) (i : Fin 8) (d : ZoneDef), d.valid → Served (.zset (zoneDefBytes i d)) s →
    Completes (.zset (zoneDefBytes i d)) s fun t =>
      newestReply t = some (replyFrame 0x14 .ok (zoneDefBytes i d)) ∧
      t.mtu.zones[i].defn = d ∧ t.mtu.zones[i].result.level = .unmeasured ∧ t.mtu.zones[i].result.mean = 0 ∧
      t.mtu.zones[i].result.glare = false ∧ t.mtu.zones[i].result.measured = none ∧ t.mtu.zones[i].revised = true ∧
      (∀ k, k ≠ i → t.mtu.zones[k] = s.mtu.zones[k]) ∧ t.mtu.measurement = s.mtu.measurement ∧
      t.mtu.clipLevel = s.mtu.clipLevel ∧ t.lpc = s.lpc ∧ t.csq = s.csq ∧
      (t.cdu.live.getLsbD 5 = true ↔ ∃ k : Fin 8, t.mtu.zones[k].defn.enabled = true ∧
        (t.mtu.zones[k].result.level = .low ∨ t.mtu.zones[k].result.level = .high)) ∧
      (t.cdu.live.getLsbD 6 = true ↔ ∃ k : Fin 8, t.mtu.zones[k].defn.enabled = true ∧
        t.mtu.zones[k].result.glare = true)) ∧
  ∀ (s : State) (zone enabled col0 col1 row0 row1 bank : Byte) (low high glare : Nat), low < 65536 → high < 65536 →
    glare < 65536 →
    let body := [zone, enabled, col0, col1, row0, row1, bank] ++ le16 low ++ le16 high ++ le16 glare
    Served (.zset body) s →
    (7 < zone.toNat ∨ 1 < enabled.toNat ∨ 19 < col0.toNat ∨ 19 < col1.toNat ∨ 15 < row0.toNat ∨ 15 < row1.toNat ∨
        col1.toNat < col0.toNat ∨ row1.toNat < row0.toNat ∨ 1 < bank.toNat ∨ min high 4095 < min low 4095 →
      Answers (.zset body) 0x14 .badParam [] s s) ∧
    ∀ (i : Fin 8) (d : ZoneDef), d.valid → zone = byte i.val → enabled = flagByte d.enabled → col0 = byte d.col0 →
      col1 = byte d.col1 → row0 = byte d.row0 → row1 = byte d.row1 → bank = byte (bankCode d.bank) →
      d.low = min low 4095 → d.high = min high 4095 → d.glareLimit = min glare 1024 →
      Completes (.zset body) s fun t =>
        newestReply t = some (replyFrame 0x14
          (if 4095 < low ∨ 4095 < high ∨ 1024 < glare then .okClamped else .ok) (zoneDefBytes i d)) ∧
        t.mtu.zones[i] = { defn := d, result := ZoneResult.cleared, revised := true } ∧
        (∀ k, k ≠ i → t.mtu.zones[k] = s.mtu.zones[k])

/-- TWRT by R141 and R140; `writeChunk` writes the chunk, and its effect on each of the five tables is given entry by
entry. The refusals stand in R141's order: BAD_PARAM, NO_BANK, then BUSY or BAD_STATE. -/
def Obligations.TableChunkWritten : Prop :=
  ∀ (s : State) (code start : Nat) (entries : List (List Byte)), code < 256 → start < 65536 →
    (∀ e ∈ entries, e.length = if code = 0 then 4 else if code = 1 ∨ code = 2 ∨ code = 3 then 2 else 1) →
    Served (.twrt (twrtBody code start entries)) s →
    let fits : Prop := code ≤ 4 ∧ 0 < entries.length ∧
      entries.length ≤ (if code = 0 then 59 else if code = 4 then 236 else 118) ∧
      start + entries.length ≤ (if code = 0 then (s.pfs.ws.content.width / 16 + 1) * (s.pfs.ws.content.height / 16 + 1)
        else if code = 4 then 1025 else 357)
    (¬fits → Answers (.twrt (twrtBody code start entries)) 0x20 .badParam [] s s) ∧
    (fits → code = 2 ∨ code = 3 → s.pfs.ws.content.beam = none →
      Answers (.twrt (twrtBody code start entries)) 0x20 .noBank [] s s) ∧
    (fits → (code = 2 ∨ code = 3 → s.pfs.ws.content.beam ≠ none) →
      (openToWriting s = true →
        Answers (.twrt (twrtBody code start entries)) 0x20
          (if code = 3 ∧ ∃ e ∈ entries, 256 < fromLe e then .okClamped else .ok) []
          s (s.setPfs { s.pfs with
            ws := { s.pfs.ws with content := s.pfs.ws.content.writeChunk code start entries, modified := true } })) ∧
      (openToWriting s = false →
        Answers (.twrt (twrtBody code start entries)) 0x20 (if s.pfs.savingOrLoading then .busy else .badState) [] s s) ∧
      (code = 1 → s.pfs.ws.content.gainF.length = 357 →
        ∀ k, k < 357 → (s.pfs.ws.content.writeChunk code start entries).gainF[k]? =
          if start ≤ k ∧ k < start + entries.length then (entries[k - start]?).map fromLe
          else s.pfs.ws.content.gainF[k]?) ∧
      (code = 0 → s.pfs.ws.content.mesh.length = (s.pfs.ws.content.width / 16 + 1) * (s.pfs.ws.content.height / 16 + 1) →
        ∀ k, k < (s.pfs.ws.content.width / 16 + 1) * (s.pfs.ws.content.height / 16 + 1) →
          (s.pfs.ws.content.writeChunk code start entries).mesh[k]? =
            if start ≤ k ∧ k < start + entries.length then
              (entries[k - start]?).map fun e => (fromLe16s (e.take 2), fromLe16s (e.drop 2))
            else s.pfs.ws.content.mesh[k]?) ∧
      (∀ b, s.pfs.ws.content.beam = some b → b.gainB.length = 357 → b.weight.length = 357 →
        (code = 2 → ∃ gainB, (s.pfs.ws.content.writeChunk code start entries).beam = some { b with gainB } ∧
          ∀ k, k < 357 → gainB[k]? =
            if start ≤ k ∧ k < start + entries.length then (entries[k - start]?).map fromLe else b.gainB[k]?) ∧
        (code = 3 → ∃ weight, (s.pfs.ws.content.writeChunk code start entries).beam = some { b with weight } ∧
          ∀ k, k < 357 → weight[k]? =
            if start ≤ k ∧ k < start + entries.length then (entries[k - start]?).map fun e => min (fromLe e) 256
            else b.weight[k]?)) ∧
      (code = 4 → (∀ old, s.pfs.ws.content.tone = some old → old.length = 1025) →
        ∃ tone, (s.pfs.ws.content.writeChunk code start entries).tone = some tone ∧ tone.length = 1025 ∧
          ∀ k, k < 1025 →
            (start ≤ k → k < start + entries.length → tone[k]? = (entries[k - start]?).map fromLe) ∧
            (k < start ∨ start + entries.length ≤ k →
              (s.pfs.ws.content.tone = none → tone[k]? = some ((k * 255 + 512) / 1024)) ∧
              (∀ old, s.pfs.ws.content.tone = some old → tone[k]? = old[k]?))))

/-- The store's requests: PACT (R148), PSAV (R149), PERS (R151), SERS (R152), PPRT (R153) and BWRT (R157). That PERS
of a protected slot and PPRT of a slot that is not VALID are BUSY while an operation runs is the model's choice: R151
and R153 give those refusals no order (DESIGN CHOICE, log entry 37). BAD_PARAM first in PERS, PPRT and BWRT is that
entry's too. -/
def Obligations.StoreRequests : Prop :=
  ∀ s : State,
    (∀ i : Fin 8, Served (.pact [byte i.val]) s →
      (s.pfs.directory[i].state = .valid →
        (s.csq.state = .switchLoad → Answers (.pact [byte i.val]) 0x22 .accepted []
          s (s.setCsq { s.csq with nextTarget := some (.slot i) })) ∧
        (s.csq.state ≠ .switchLoad → Answers (.pact [byte i.val]) 0x22 .accepted []
          s (s.setCsq { s.csq with switchTarget := some (.slot i) }))) ∧
      (s.pfs.directory[i].state = .empty → Answers (.pact [byte i.val]) 0x22 .notFound [] s s) ∧
      (s.pfs.directory[i].state = .corrupt → Answers (.pact [byte i.val]) 0x22 .corrupt [] s s)) ∧
    (Served (.pact [255]) s →
      let bound (k : Fin 12) (i : Fin 8) : Prop :=
        s.pfs.directory[i].state = .valid ∧ ∃ h, s.pfs.directory[i].header = some h ∧ h.head = some k.val
      (∀ k i, s.hpb.adopted = some (.head k) → bound k i → (∀ j, j < i → ¬bound k j) →
        (s.csq.state ≠ .switchLoad →
          Answers (.pact [255]) 0x22 .accepted [] s (s.setCsq { s.csq with switchTarget := some (.slot i) })) ∧
        (s.csq.state = .switchLoad →
          Answers (.pact [255]) 0x22 .accepted [] s (s.setCsq { s.csq with nextTarget := some (.slot i) }))) ∧
      ((∀ k i, s.hpb.adopted = some (.head k) → ¬bound k i) →
        Answers (.pact [255]) 0x22 .notFound [] s s)) ∧
    (∀ z : Byte, 7 < z.toNat →
      (z ≠ 255 → Served (.pact [z]) s → Answers (.pact [z]) 0x22 .badParam [] s s) ∧
      (Served (.psav [z]) s → Answers (.psav [z]) 0x23 .badParam [] s s) ∧
      (Served (.pers [z]) s → Answers (.pers [z]) 0x24 .badParam [] s s) ∧
      (Served (.pprt [z]) s → Answers (.pprt [z]) 0x26 .badParam [] s s)) ∧
    (∀ i : Fin 8, Served (.psav [byte i.val]) s →
      (s.csq.state = .switchDrain ∨ s.csq.state = .switchLoad →
        Answers (.psav [byte i.val]) 0x23 .busy [] s s) ∧
      (s.pfs.op = none → s.csq.state ≠ .switchDrain → s.csq.state ≠ .switchLoad →
        (s.pfs.ws.content.profileId = 0 → Answers (.psav [byte i.val]) 0x23 .badState [] s s) ∧
        ∀ (k : Fin 8) (h : StoredHeader), s.pfs.ws.content.profileId ≠ 0 → s.pfs.directory[i].guarded = false →
          k ≠ i → s.pfs.directory[k].state = .valid → s.pfs.directory[k].header = some h →
          h.profileId = s.pfs.ws.content.profileId → Answers (.psav [byte i.val]) 0x23 .duplicate [] s s) ∧
      (s.pfs.op.isSome → Answers (.psav [byte i.val]) 0x23 .busy [] s s) ∧
      (s.pfs.op = none → s.csq.state ≠ .switchDrain → s.csq.state ≠ .switchLoad →
        s.pfs.ws.content.profileId ≠ 0 →
        (s.pfs.directory[i].guarded = true → Answers (.psav [byte i.val]) 0x23 .guarded [] s s) ∧
        (s.pfs.directory[i].guarded = false →
          (∀ (k : Fin 8) (h : StoredHeader), k ≠ i → s.pfs.directory[k].state = .valid →
            s.pfs.directory[k].header = some h → h.profileId ≠ s.pfs.ws.content.profileId) →
          Completes (.psav [byte i.val]) s fun t =>
            newestReply t = some (replyFrame 0x23 .accepted []) ∧ t.pfs.op = some (.save i .erase) ∧
            t.pfs.directory[i].state = .corrupt ∧ t.pfs.slots[i].workMark = true ∧
            t.pfs.ws.content = s.pfs.ws.content ∧ (s.pfs.ws.source = some i → t.pfs.ws.source = none) ∧
            ∀ k, k ≠ i → t.pfs.directory[k] = s.pfs.directory[k] ∧ t.pfs.slots[k] = s.pfs.slots[k]))) ∧
    (∀ i : Fin 8, Served (.pers [byte i.val]) s →
      (s.pfs.op.isSome → Answers (.pers [byte i.val]) 0x24 .busy [] s s) ∧
      (s.pfs.op = none → s.pfs.directory[i].guarded = true →
        Answers (.pers [byte i.val]) 0x24 .guarded [] s s) ∧
      (s.pfs.op = none → s.pfs.directory[i].guarded = false → Completes (.pers [byte i.val]) s fun t =>
        newestReply t = some (replyFrame 0x24 .accepted []) ∧ t.pfs.op = some (.erase i) ∧
        t.pfs.directory[i].state = .corrupt ∧ t.pfs.slots[i].workMark = true ∧
        (s.pfs.ws.source = some i → t.pfs.ws.source = none) ∧
        ∀ k, k ≠ i → t.pfs.directory[k] = s.pfs.directory[k] ∧ t.pfs.slots[k] = s.pfs.slots[k])) ∧
    (Served (.sers []) s →
      (s.pfs.op.isSome → Answers (.sers []) 0x25 .busy [] s s) ∧
      (s.pfs.op = none → Completes (.sers []) s fun t =>
        newestReply t = some (replyFrame 0x25 .accepted []) ∧ t.pfs.op = some (.eraseAll 0 false) ∧
        t.pfs.ws.source = none ∧ t.pfs.ws.content = s.pfs.ws.content ∧ t.pfs.boot = s.pfs.boot ∧
        t.pfs.directory[(0 : Fin 8)].state = .corrupt ∧ t.pfs.slots[(0 : Fin 8)].workMark = true ∧
        ∀ k : Fin 8, t.pfs.directory[k].guarded = false ∧ t.pfs.slots[k].protectMark = false)) ∧
    (∀ i : Fin 8, Served (.pprt [byte i.val]) s →
      (s.pfs.op.isSome → Answers (.pprt [byte i.val]) 0x26 .busy [] s s) ∧
      (s.pfs.op = none → s.pfs.directory[i].state ≠ .valid → Answers (.pprt [byte i.val]) 0x26 .badState [] s s) ∧
      (s.pfs.op = none → s.pfs.directory[i].state = .valid →
        Answers (.pprt [byte i.val]) 0x26 .ok [] s (s.setPfs { s.pfs with
          slots := s.pfs.slots.set i { s.pfs.slots[i] with protectMark := true },
          directory := s.pfs.directory.set i { s.pfs.directory[i] with guarded := true } }))) ∧
    ∀ rate code auto mode policy notice switch : Nat, rate < 256 → code < 65536 → auto < 256 → mode < 256 →
      policy < 256 → notice < 256 → switch < 256 →
      let body := byte rate :: le16 code ++ [byte auto, byte mode, byte policy, byte notice, byte switch]
      let inRange : Prop :=
        rate ≤ 3 ∧ 1 ≤ code ∧ code ≤ 400 ∧ auto ≤ 3 ∧ mode ≤ 1 ∧ policy ≤ 1 ∧ notice ≤ 1 ∧ switch ≤ 1
      Served (.bwrt body) s →
        (¬inRange → Answers (.bwrt body) 0x28 .badParam [] s s) ∧
        (inRange → s.pfs.op.isSome → Answers (.bwrt body) 0x28 .busy [] s s) ∧
        (inRange → s.pfs.op = none →
          Answers (.bwrt body) 0x28 .accepted [] s (s.setPfs { s.pfs with op := some (.bootWrite body .erase) }))

/-- HPRB by R165 and the end of a conversion by R160; a completion of a conversion that does not run does nothing (log
entry 1). -/
def Obligations.ProbeForceAndCompletion : Prop :=
  (∀ s : State,
    (Served (.hprb [0]) s → Answers (.hprb [0]) 0x30 .ok (probeReadings s.hpb) s s) ∧
    (Served (.hprb [1]) s →
      (s.hpb.conv = .idle → Answers (.hprb [1]) 0x30 .ok (probeReadings s.hpb)
        s (s.setHpb { s.hpb with conv := .convertingId, nextKind := .temp })) ∧
      (s.hpb.conv ≠ .idle → Answers (.hprb [1]) 0x30 .ok (probeReadings s.hpb)
        s (s.setHpb { s.hpb with forceHeld := true }))) ∧
    ∀ b : Byte, 1 < b.toNat → Served (.hprb [b]) s → Answers (.hprb [b]) 0x30 .badParam [] s s) ∧
  ∀ (r : Nat) (s : State),
    (s.hpb.conv ≠ .convertingId → exec (.idConversionDone r) s = .next s) ∧
    (s.hpb.conv ≠ .convertingTemp → exec (.tempConversionDone r) s = .next s) ∧
    ∀ i, (i = .idConversionDone r ∧ s.hpb.conv = .convertingId) ∨
        (i = .tempConversionDone r ∧ s.hpb.conv = .convertingTemp) →
      ∃ t, exec i s = .next t ∧ t.hpb.forceHeld = false ∧ t.hpb.periodTimer = s.hpb.periodTimer ∧
        (s.hpb.forceHeld = false → t.hpb.conv = .idle ∧ t.hpb.nextKind = s.hpb.nextKind) ∧
        (s.hpb.forceHeld = true → t.hpb.conv = .convertingId ∧ t.hpb.nextKind = .temp)

/-- The PSETs of a bank's settings and of CEILING by R78 to R80, in style WRITE; `reportUnderlit` reports R91's source
and nothing else, and the last two clauses say what it reports: R82's derate limit, R83's standing effective maximum
and R91's condition. -/
def Obligations.PsetLampSettings : Prop :=
  (∀ (s : State) (b : Bank) (v : Word32),
    let k := byte (bankCode b)
    let x := s.lpc.bank b
    let keep (y : BankLamp) : State := reportUnderlit (s.setLpc (s.lpc.setBank b y))
    (Served (.psetLevel k 0 v) s →
      let n := min (max (clampNat 0 1023 v.toInt) x.min) x.max
      AnswersStored (.psetLevel k 0 v) v.toInt n s (keep { x with level := n })) ∧
    (Served (.psetMin k 0 v) s →
      let n := min (clampNat 0 1023 v.toInt) x.max
      AnswersStored (.psetMin k 0 v) v.toInt n s
        (keep { x with min := n, level := min (max x.level n) x.max })) ∧
    (Served (.psetMax k 0 v) s →
      let n := max (clampNat 0 1023 v.toInt) x.min
      AnswersStored (.psetMax k 0 v) v.toInt n s
        (keep { x with max := n, level := min (max x.level x.min) n })) ∧
    (Served (.psetExpo k 0 v) s →
      let n := clampNat 50 8000 v.toInt
      AnswersStored (.psetExpo k 0 v) v.toInt n s (keep { x with expo := n })) ∧
    (Served (.psetMode k 0 v) s →
      (v = 0 → Answers (.psetMode k 0 v) 0x04 .ok [0, 0, 0, 0] s (keep { x with mode := .auto })) ∧
      (v = 1 → Answers (.psetMode k 0 v) 0x04 .ok [1, 0, 0, 0] s (keep { x with mode := .manual })) ∧
      (v ≠ 0 → v ≠ 1 → Answers (.psetMode k 0 v) 0x04 .badParam [] s s)) ∧
    (Served (.psetSteer k 0 v) s →
      (∀ z : Fin 8, v.toNat = z.val →
        Answers (.psetSteer k 0 v) 0x04 .ok [byte z.val, 0, 0, 0] s (keep { x with steer := some z })) ∧
      (v = 255 → Answers (.psetSteer k 0 v) 0x04 .ok [255, 0, 0, 0] s (keep { x with steer := none })) ∧
      (8 ≤ v.toNat → v ≠ 255 → Answers (.psetSteer k 0 v) 0x04 .badParam [] s s)) ∧
    (∀ bank, 10000 ≤ s.lpc.startupCeiling → Served (.psetCeiling bank 0 v) s →
      let n := clampNat 10000 s.lpc.startupCeiling v.toInt
      AnswersStored (.psetCeiling bank 0 v) v.toInt n s (reportUnderlit (s.setLpc { s.lpc with ceiling := n })))) ∧
  (∀ (l : Lamps) (b : Bank),
    (l.cutoff = true → l.derateLimit b = 0) ∧
    (l.cutoff = false → l.temperature = none → l.derateLimit b = (l.bank b).max / 4) ∧
    ∀ T, l.cutoff = false → l.temperature = some T →
      (T ≤ l.derateStart → l.derateLimit b = (l.bank b).max) ∧
      (l.derateStart < T → T < l.cutoffAt →
        (l.derateLimit b : Int) = (((l.bank b).max : Int) * (l.cutoffAt - T)) / (l.cutoffAt - l.derateStart))) ∧
  ∀ s : State, ((reportUnderlit s).cdu.live.getLsbD 7 = true ↔ UnderlitHolds s.lpc) ∧
    (∀ k, k < 16 → k ≠ 7 → (reportUnderlit s).cdu.live.getLsbD k = s.cdu.live.getLsbD k) ∧
    reportUnderlit s = s.setCdu (reportUnderlit s).cdu

/-- PSET_DERATE_START and PSET_CUTOFF by R81, with R85's examination after each, the halt it may bring with all that
it abandons (R117: HaltArises), and UNDERLIT recomputed (R91). -/
def Obligations.PsetThermalLimits : Prop :=
  ∀ (s : State) (bank : Byte) (v : Word32),
    (Served (.psetDerateStart bank 0 v) s →
      let n := clampInt (-80) 248 v.toInt
      (s.lpc.cutoffAt ≤ n → Answers (.psetDerateStart bank 0 v) 0x04 .badParam [] s s) ∧
      (n < s.lpc.cutoffAt → Completes (.psetDerateStart bank 0 v) s fun t =>
        newestReply t = some (replyFrame 0x04 (if n = v.toInt then .ok else .okClamped) (le32s n)) ∧
        t.lpc.derateStart = n ∧ t.lpc.cutoffAt = s.lpc.cutoffAt ∧ t.lpc.temperature = s.lpc.temperature ∧
        t.lpc.ceiling = s.lpc.ceiling ∧ t.lpc.flood = s.lpc.flood ∧ t.lpc.beam = s.lpc.beam ∧
        (t.cdu.live.getLsbD 2 = true ↔ ∃ T, s.lpc.temperature = some T ∧ n < T) ∧
        (∀ T, s.lpc.temperature = some T → s.lpc.cutoffAt - 10 < T → T < s.lpc.cutoffAt →
          t.lpc.cutoff = s.lpc.cutoff ∧ t.lpc.lit = s.lpc.lit ∧ t.csq = s.csq) ∧
        (∀ T, s.lpc.temperature = some T → s.lpc.cutoffAt ≤ T → t.lpc.cutoff = true ∧
          (s.lpc.cutoff = false → t.lpc.lit = none ∧ HaltArises .lampCutoff s t) ∧
          (s.lpc.cutoff = true → t.lpc.lit = s.lpc.lit ∧ t.csq = s.csq)) ∧
        (∀ T, s.lpc.temperature = some T → T ≤ s.lpc.cutoffAt - 10 → t.lpc.cutoff = false ∧
          (s.lpc.cutoff = false → t.lpc.lit = s.lpc.lit ∧ t.csq = s.csq)) ∧
        (s.lpc.temperature = none → t.lpc.cutoff = s.lpc.cutoff ∧ t.lpc.lit = s.lpc.lit ∧ t.csq = s.csq) ∧
        t.cdu.live.getLsbD 3 = t.lpc.cutoff ∧
        (t.cdu.live.getLsbD 7 = true ↔ UnderlitHolds t.lpc))) ∧
    (Served (.psetCutoff bank 0 v) s →
      let n := clampInt (-70) 249 v.toInt
      (n ≤ s.lpc.derateStart → Answers (.psetCutoff bank 0 v) 0x04 .badParam [] s s) ∧
      (s.lpc.derateStart < n → Completes (.psetCutoff bank 0 v) s fun t =>
        newestReply t = some (replyFrame 0x04 (if n = v.toInt then .ok else .okClamped) (le32s n)) ∧
        t.lpc.cutoffAt = n ∧ t.lpc.derateStart = s.lpc.derateStart ∧ t.lpc.temperature = s.lpc.temperature ∧
        (∀ T, s.lpc.temperature = some T → n ≤ T → t.lpc.cutoff = true ∧
          (s.lpc.cutoff = false → t.lpc.lit = none ∧ HaltArises .lampCutoff s t)) ∧
        (∀ T, s.lpc.temperature = some T → T ≤ n - 10 → t.lpc.cutoff = false) ∧
        (∀ T, s.lpc.temperature = some T → n - 10 < T → T < n →
          t.lpc.cutoff = s.lpc.cutoff ∧ t.lpc.lit = s.lpc.lit ∧ t.csq = s.csq) ∧
        (s.lpc.temperature = none → t.lpc.cutoff = s.lpc.cutoff) ∧ t.cdu.live.getLsbD 3 = t.lpc.cutoff ∧
        (t.cdu.live.getLsbD 7 = true ↔ UnderlitHolds t.lpc) ∧
        (∀ T, s.lpc.temperature = some T → T ≤ n - 10 → s.lpc.cutoff = true → s.csq.state = .halt →
          (∃ k, s.hpb.adopted = some (.head k)) → t.csq.state =
            if s.csq.switchTarget ≠ none then .switchDrain else if s.csq.streamRequested then .run else .idle)))

/-- PSET_SEND_MODE by R131, PSET_RISE_EN and PSET_FALL_EN by R170 in all three styles, and PSET_NOTICE_EN by R171. A
notice made with the transmitter idle goes before the reply (log entry 12). -/
def Obligations.PsetSendModeAndMasks : Prop :=
  ∀ (s : State) (bank : Byte) (v : Word32),
    (Served (.psetSendMode bank 0 v) s →
      (v = 1 → s.ofq.sendMode = .onDemand → Answers (.psetSendMode bank 0 v) 0x04 .ok [1, 0, 0, 0]
        s (s.setOfq { s.ofq with sendMode := .fixedRate, periodTimer := some s.ofq.sendPeriod })) ∧
      ((v = 1 ∧ s.ofq.sendMode = .fixedRate) ∨ (v = 0 ∧ s.ofq.sendMode = .onDemand) →
        Answers (.psetSendMode bank 0 v) 0x04 .ok (word32Bytes v) s s) ∧
      (v = 0 → s.ofq.sendMode = .fixedRate → Completes (.psetSendMode bank 0 v) s fun t =>
        newestReply t = some (replyFrame 0x04 .ok [0, 0, 0, 0]) ∧ t.ofq.sendMode = .onDemand ∧
        t.ofq.periodTimer = none ∧ (∀ h, s.ofq.heldSlot = some h → t.ofq.slots[h].state ≠ .held ∧
          (h ∉ s.ofq.readyOrder → t.ofq.slots[h].state = .free)) ∧
        (s.ofq.send.isSome → t.ofq.send = s.ofq.send) ∧
        (∀ i rest, s.ofq.send = none → s.ofq.readyOrder = i :: rest →
          t.ofq.send = some { slot := i, isRepeat := false, taken := 0 } ∧ t.ofq.slots[i].state = .sending) ∧
        (s.ofq.send = none → s.ofq.readyOrder = [] → t.ofq.send = none)) ∧
      (v ≠ 0 → v ≠ 1 → Answers (.psetSendMode bank 0 v) 0x04 .badParam [] s s)) ∧
    (∀ (style : Byte) (mask : Word16 → Word16 → Word16),
      (style = 0 ∧ mask = fun _ new => new) ∨ (style = 1 ∧ mask = fun old new => old ||| new) ∨
        (style = 2 ∧ mask = fun old new => old &&& ~~~new) →
      (Served (.psetRiseEn bank style v) s →
        (v.toNat ≤ 0xFFFF → Answers (.psetRiseEn bank style v) 0x04 .ok
          (le32 (mask s.cdu.riseEn (v.setWidth 16)).toNat)
          s (s.setCdu { s.cdu with riseEn := mask s.cdu.riseEn (v.setWidth 16) })) ∧
        (0xFFFF < v.toNat → Answers (.psetRiseEn bank style v) 0x04 .badParam [] s s)) ∧
      (Served (.psetFallEn bank style v) s →
        (v.toNat ≤ 0xFFFF → Answers (.psetFallEn bank style v) 0x04 .ok
          (le32 (mask s.cdu.fallEn (v.setWidth 16)).toNat)
          s (s.setCdu { s.cdu with fallEn := mask s.cdu.fallEn (v.setWidth 16) })) ∧
        (0xFFFF < v.toNat → Answers (.psetFallEn bank style v) 0x04 .badParam [] s s))) ∧
    (Served (.psetNoticeEn bank 0 v) s →
      (v = 0 → s.cdu.noticeEn = true → Completes (.psetNoticeEn bank 0 v) s fun t =>
        Answered 0x04 .ok [0, 0, 0, 0] (s.setCdu { s.cdu with noticeEn := false }) t ∧ t.cdu.noticePending = false ∧
          (∀ x, s.cml.tx = some x → t.cml.tx = some x) ∧ (s.cml.tx = none → ∀ f, t.cml.tx ≠ some (.notice f))) ∧
      (v = 1 → s.cdu.noticeEn = false → Completes (.psetNoticeEn bank 0 v) s fun t =>
        Answered 0x04 .ok [1, 0, 0, 0] (s.setCdu { s.cdu with noticeEn := true }) t ∧
          (∀ x, s.cml.tx = some x → t.cml.tx = some x) ∧
          (s.cdu.latches ≠ 0 → (s.cml.tx ≠ none → t.cdu.noticePending = true) ∧
            (s.cml.tx = none → t.cdu.noticePending = false ∧ t.cml.tx = some (.notice ⟨0x60,
              le16 s.cdu.latches.toNat ++ le16 s.cdu.live.toNat ++ [byte (seqCode s.csq.state)]⟩))) ∧
          (s.cdu.latches = 0 → s.cdu.noticePending = false → t.cdu.noticePending = false ∧
            (s.cml.tx = none → ∀ f, t.cml.tx ≠ some (.notice f)))) ∧
      ((v = 0 ∧ s.cdu.noticeEn = false) ∨ (v = 1 ∧ s.cdu.noticeEn = true) →
        Answers (.psetNoticeEn bank 0 v) 0x04 .ok (word32Bytes v) s s) ∧
      (v ≠ 0 → v ≠ 1 → Answers (.psetNoticeEn bank 0 v) 0x04 .badParam [] s s))

/-- The seven header PSETs by R143 and R144, in style WRITE, and R140 when the working set is not open to writing. -/
def Obligations.PsetHeaderFields : Prop :=
  ∀ (s : State) (bank : Byte) (v : Word32),
    let c := s.pfs.ws.content
    let put (c' : Content) : State := s.setPfs { s.pfs with ws := { s.pfs.ws with content := c', modified := true } }
    let storeBusy : Prop := (∃ i p, s.pfs.op = some (.save i p)) ∨ ∃ i p, s.pfs.op = some (.load i p)
    let shut : Status := if s.pfs.savingOrLoading then .busy else .badState
    let field (i : Instr) (c' : Content) : Prop :=
      Served i s → (openToWriting s = true → Answers i 0x04 .ok (word32Bytes v) s (put c')) ∧
        (openToWriting s = false → Answers i 0x04 shut [] s s)
    let outside (i : Instr) : Prop := Served i s → Answers i 0x04 .badParam [] s s
    (openToWriting s = true ↔
      s.csq.state ≠ .starting ∧ (s.pxr.state = .idle ∨ s.pxr.state = .skip .none) ∧ s.csq.exposure = none ∧
        s.rme.job = none ∧ s.phc.finalise = none ∧ s.csq.queue = [] ∧ s.csq.active = none ∧
        s.phc.lin0.content = .empty ∧ s.phc.lin1.content = .empty ∧ s.phc.accF.state = .free ∧ s.phc.accB.state = .free ∧
        s.csq.state ≠ .switchDrain ∧ s.csq.state ≠ .switchLoad ∧ ¬storeBusy) ∧
    (s.pfs.savingOrLoading = true ↔ storeBusy) ∧
    (∀ w h i j : Nat, i ≤ w / 16 → j ≤ h / 16 →
      (plainMap w h).length = (w / 16 + 1) * (h / 16 + 1) ∧
        (plainMap w h)[(w / 16 + 1) * j + i]?
          = some ((((i * 327680 + w / 2) / w : Nat) : Int), (((j * 262144 + h / 2) / h : Nat) : Int))) ∧
    (1 ≤ v.toNat → v.toNat ≤ 65535 → field (.psetProfileId bank 0 v) { c with profileId := v.toNat }) ∧
    (v.toNat = 0 ∨ 65535 < v.toNat → outside (.psetProfileId bank 0 v)) ∧
    (v.toNat ≤ 11 → field (.psetHeadBind bank 0 v) { c with head := some v.toNat }) ∧
    (v.toNat = 255 → field (.psetHeadBind bank 0 v) { c with head := none }) ∧
    (11 < v.toNat → v.toNat ≠ 255 → outside (.psetHeadBind bank 0 v)) ∧
    (v = 0 → field (.psetBankSet bank 0 v) { c with beam := none }) ∧
    (v = 1 → c.beam.isSome = true → field (.psetBankSet bank 0 v) c) ∧
    (v = 1 → c.beam = none → field (.psetBankSet bank 0 v)
      { c with beam := some { gainB := List.replicate 357 4096, weight := List.replicate 357 128 } }) ∧
    (1 < v.toNat → outside (.psetBankSet bank 0 v)) ∧
    (v = 0 → field (.psetHasTone bank 0 v) { c with tone := none }) ∧
    (v = 1 → c.tone.isSome = true → field (.psetHasTone bank 0 v) c) ∧
    (v = 1 → c.tone = none → field (.psetHasTone bank 0 v)
      { c with tone := some ((List.range 1025).map fun k => (k * 255 + 512) / 1024) }) ∧
    (1 < v.toNat → outside (.psetHasTone bank 0 v)) ∧
    (256 ≤ v.toNat → v.toNat ≤ 1024 → v.toNat % 16 = 0 →
      field (.psetOutWidth bank 0 v) { c with width := v.toNat, mesh := plainMap v.toNat c.height } ∧
      field (.psetOutHeight bank 0 v) { c with height := v.toNat, mesh := plainMap c.width v.toNat }) ∧
    (v.toNat < 256 ∨ 1024 < v.toNat ∨ v.toNat % 16 ≠ 0 →
      outside (.psetOutWidth bank 0 v) ∧ outside (.psetOutHeight bank 0 v)) ∧
    ∀ label : List Byte, label.length = 16 → Served (.psetLabel bank 0 label) s →
      (openToWriting s = true → Answers (.psetLabel bank 0 label) 0x04 .ok label s (put { c with label := label })) ∧
      (openToWriting s = false → Answers (.psetLabel bank 0 label) 0x04 shut [] s s)

/-- The PSET row: each parameter without a row of its own, in style WRITE; and the two checks of R181 that come before
the owner's, for every PSET command. -/
def Obligations.PsetPlainParameters : Prop :=
  (∀ (s : State) (bank : Byte) (v : Word32),
    let ask (code : Byte) : Instr := .pset (code :: bank :: 0 :: word32Bytes v)
    let clamped (code : Byte) (lo hi : Nat) (put : Nat → State) : Prop :=
      Served (ask code) s →
        AnswersStored (ask code) v.toInt (clampNat lo hi v.toInt) s (put (clampNat lo hi v.toInt))
    let choice (code : Byte) (zero one : State) : Prop :=
      Served (ask code) s → (v = 0 → Answers (ask code) 0x04 .ok [0, 0, 0, 0] s zero) ∧
        (v = 1 → Answers (ask code) 0x04 .ok [1, 0, 0, 0] s one) ∧
        (v ≠ 0 → v ≠ 1 → Answers (ask code) 0x04 .badParam [] s s)
    clamped 0x02 5000 200000 (fun n => s.setPxr { s.pxr with readoutTimeout := n }) ∧
    clamped 0x03 0 64 (fun n => s.setPxr { s.pxr with patchLimit := n }) ∧
    clamped 0x0A 0 255 (fun n => s.setPhc { s.phc with darkEvery := n }) ∧
    clamped 0x0C 0 4095 (fun n => s.setMtu { s.mtu with clipLevel := n }) ∧
    clamped 0x0D 0 255 (fun n => s.setRme { s.rme with fill := n }) ∧
    clamped 0x18 0 1024 (fun n => s.setLpc { s.lpc with deadband := n }) ∧
    clamped 0x20 20000 1000000 (fun n => s.setCsq { s.csq with interval := n }) ∧
    clamped 0x2A 20000 1000000 (fun n => s.setOfq { s.ofq with sendPeriod := n }) ∧
    clamped 0x38 10 1000 (fun n => s.setHpb { s.hpb with probePeriod := n }) ∧
    (s.phc.blackMode = .manual → clamped 0x09 0 1023 (fun n => s.setPhc { s.phc with black := n })) ∧
    (s.phc.blackMode = .auto → Served (ask 0x09) s → Answers (ask 0x09) 0x04 .badState [] s s) ∧
    (∀ b, bank = byte (bankCode b) → clamped 0x15 0 4095 (fun n =>
      s.setLpc (s.lpc.setBank b { s.lpc.bank b with target := n }))) ∧
    choice 0x08 (s.setPhc { s.phc with blackMode := .auto }) (s.setPhc { s.phc with blackMode := .manual }) ∧
    choice 0x21 (s.setCsq { s.csq with paced := false }) (s.setCsq { s.csq with paced := true }) ∧
    choice 0x22 (s.setCsq { s.csq with autoswitch := false }) (s.setCsq { s.csq with autoswitch := true }) ∧
    choice 0x28 (s.setOfq { s.ofq with policy := .keepNew }) (s.setOfq { s.ofq with policy := .keepOld }) ∧
    choice 0x2B (s.setOfq { s.ofq with streamFormat := .toned8 }) (s.setOfq { s.ofq with streamFormat := .linear16 }) ∧
    (quiescent s = true →
      choice 0x00 (s.setPxr { s.pxr with align := .high }) (s.setPxr { s.pxr with align := .low })) ∧
    (quiescent s = true → Served (ask 0x01) s →
      (v = 12 → Answers (ask 0x01) 0x04 .ok [12, 0, 0, 0] s (s.setPxr { s.pxr with depth := .twelve })) ∧
      (v = 10 → Answers (ask 0x01) 0x04 .ok [10, 0, 0, 0] s (s.setPxr { s.pxr with depth := .ten })) ∧
      (v ≠ 12 → v ≠ 10 → Answers (ask 0x01) 0x04 .badParam [] s s)) ∧
    (quiescent s = false →
      ((v = 0 ∨ v = 1) → Served (ask 0x00) s → Answers (ask 0x00) 0x04 .badState [] s s) ∧
      ((v = 10 ∨ v = 12) → Served (ask 0x01) s → Answers (ask 0x01) 0x04 .badState [] s s) ∧
      (v ≠ 0 → v ≠ 1 → Served (ask 0x00) s → Answers (ask 0x00) 0x04 .badParam [] s s) ∧
      (v ≠ 12 → v ≠ 10 → Served (ask 0x01) s → Answers (ask 0x01) 0x04 .badParam [] s s))) ∧
  ∀ (i : Instr) (s : State) (code bank style : Byte) (value : List Byte), i.wellFormed = true →
    requestOf i = some ⟨0x04, code :: bank :: style :: value⟩ → lengthOk ⟨0x04, code :: bank :: style :: value⟩ = true →
    Served i s →
    (Param.ofCode code = none ∨ 2 < style.toNat ∨
      ∃ p, Param.ofCode code = some p ∧
        ((p.perBank = true ∧ 1 < bank.toNat) ∨ (p ≠ .riseEn ∧ p ≠ .fallEn ∧ 0 < style.toNat))) →
    Answers i 0x04 .badParam [] s s

/-- The arithmetic of the pixel path: fields (R8), black subtraction (R23), interpolation (R24, R25), gain (R26),
blend (R27), stacking and what finalise writes (R38), with the ranges the rules give. -/
def Obligations.PixelArithmetic : Prop :=
  (∀ w : Word16,
    extractPixel .high .twelve w = w.toNat / 16 ∧ extractPixel .low .twelve w = w.toNat % 4096 ∧
    extractPixel .high .ten w = w.toNat / 64 * 4 ∧ extractPixel .low .ten w = w.toNat % 1024 * 4 ∧
    ∀ a d, extractPixel a d w ≤ 4095) ∧
  (∀ p b : Nat, p ≤ 4095 → subtractBlackClamped p b = p - b) ∧
  (∀ (table : List Nat) (m x y : Nat), (∀ v ∈ table, v ≤ m) → nodeValue table x y ≤ m) ∧
  (∀ (table : List Nat) (i j : Nat), nodeValue table (64 * i) (64 * j) = table.getD (21 * j + i) 0) ∧
  (∀ s g : Nat, correctedValue s g ≤ 16383 ∧ (s * g + 2048 < 4096 * 16384 → correctedValue s g = (s * g + 2048) / 4096)) ∧
  (∀ s : Nat, s ≤ 16383 → correctedValue s 4096 = s) ∧
  (∀ w cF cB : Nat, w ≤ 256 → cF ≤ 16383 → cB ≤ 16383 → fuseBlend w cF cB ≤ 16383) ∧
  (∀ cF cB : Nat, fuseBlend 256 cF cB = cF ∧ fuseBlend 0 cF cB = cB) ∧
  (∀ (sum : Int) (n : Nat), stackedValue sum n ≤ 4095) ∧
  (∀ sum : Int, 0 ≤ sum → sum ≤ 4095 → (stackedValue sum 1 : Int) = sum) ∧
  (∀ sum : Int, sum ≤ 0 → stackedValue sum 1 = 0) ∧
  (∀ (table : List Nat) (i j fx fy : Nat), fx < 64 → fy < 64 →
    let node (a b : Nat) : Nat := table.getD (21 * b + a) 0
    nodeValue table (64 * i + fx) (64 * j + fy) =
      ((64 - fx) * (64 - fy) * node i j + fx * (64 - fy) * node (i + 1) j + (64 - fx) * fy * node i (j + 1) +
        fx * fy * node (i + 1) (j + 1) + 2048) >>> 12) ∧
  (∀ w cF cB : Nat, w ≤ 256 → fuseBlend w cF cB = (w * cF + (256 - w) * cB + 128) >>> 8) ∧
  (∀ (sum : Int) (k : Nat), k ≤ 4 →
    let q : Int := (sum + (2 ^ k / 2 : Nat)) >>> k
    (q < 0 → stackedValue sum (2 ^ k) = 0) ∧ (0 ≤ q → q ≤ 4095 → (stackedValue sum (2 ^ k) : Int) = q) ∧
      (4095 < q → stackedValue sum (2 ^ k) = 4095)) ∧
  ∀ (c : Content) (j : FinaliseJob) (accF accB : Accumulator) (bt : BeamTables) (x y : Nat),
    let rF := stackedValue ((accF.sum.getD y []).getD x 0) j.depth
    let rB := stackedValue ((accB.sum.getD y []).getD x 0) j.depth
    let cF := if j.photometric = .bypass then rF else correctedValue rF (nodeValue c.gainF x y)
    let cB := if j.photometric = .bypass then rB else correctedValue rB (nodeValue bt.gainB x y)
    (j.recipe = .flood → finalisePixel c j accF accB x y = cF) ∧
    (c.beam = some bt → j.recipe = .beam → finalisePixel c j accF accB x y = cB) ∧
    (c.beam = some bt → j.recipe = .fuse →
      finalisePixel c j accF accB x y = fuseBlend (nodeValue bt.weight x y) cF cB)

/-- The completed end mark at the Metering Unit (R68 to R71) and the loop of R89 and R90 that follows. -/
def Obligations.ZoneResultsDriveLoop : Prop :=
  ∀ (s : State) (r : ExposureRecord) (m : Measurement),
    s.pxr.state = .inFrame .between → s.pxr.lineNumber = 1024 → 0 < s.pxr.received →
    s.pxr.patched ≤ s.pxr.patchLimit → s.csq.exposure = some r → s.mtu.measurement = some m →
    ∃ t, exec .frameClose s = .next t ∧ t.mtu.measurement = none ∧ t.lpc.steering = t.mtu.zones ∧
      (t.cdu.live.getLsbD 7 = true ↔ UnderlitHolds t.lpc) ∧
      (t.cdu.live.getLsbD 5 = true ↔ ∃ k : Fin 8, t.mtu.zones[k].defn.enabled = true ∧
        (t.mtu.zones[k].result.level = .low ∨ t.mtu.zones[k].result.level = .high)) ∧
      (t.cdu.live.getLsbD 6 = true ↔ ∃ k : Fin 8, t.mtu.zones[k].defn.enabled = true ∧
        t.mtu.zones[k].result.glare = true) ∧
      (∀ i : Fin 8, (∀ z ∈ m.zones, z.index ≠ i) → t.mtu.zones[i] = s.mtu.zones[i]) ∧
      (∀ z, (m.zones.find? fun x => x.index = z.index) = some z → s.mtu.zones[z.index].revised = true →
        t.mtu.zones[z.index] = s.mtu.zones[z.index]) ∧
      (∀ z, (m.zones.find? fun x => x.index = z.index) = some z → s.mtu.zones[z.index].revised = false →
        let n := (z.defn.col1 - z.defn.col0 + 1) * (z.defn.row1 - z.defn.row0 + 1) * 4096
        let mean := (z.sum + n / 2) / n
        let clip := (z.clipped * 1024 + n / 2) / n
        t.mtu.zones[z.index].defn = s.mtu.zones[z.index].defn ∧ t.mtu.zones[z.index].result.mean = mean ∧
        t.mtu.zones[z.index].result.clip = clip ∧ t.mtu.zones[z.index].result.measured = some m.number ∧
        (mean < z.defn.low → t.mtu.zones[z.index].result.level = .low) ∧
        (z.defn.low ≤ mean → z.defn.high < mean → t.mtu.zones[z.index].result.level = .high) ∧
        (z.defn.low ≤ mean → mean ≤ z.defn.high → t.mtu.zones[z.index].result.level = .inside) ∧
        t.mtu.zones[z.index].result.glare = decide (z.defn.glareLimit < clip)) ∧
      (∀ b, b ≠ m.bank → t.lpc.bank b = s.lpc.bank b) ∧
      let x := s.lpc.bank m.bank
      let y := t.lpc.bank m.bank
      y.min = x.min ∧ y.max = x.max ∧ y.mode = x.mode ∧ y.steer = x.steer ∧ y.lastLit = x.lastLit ∧
      (x.mode = .manual ∨ x.steer = none ∨ x.lastLit = none ∨
          (∃ l, x.lastLit = some l ∧ (l.number ≠ m.number ∨ l.used = 0)) ∨
          (∃ k, x.steer = some k ∧ (t.mtu.zones[k].defn.enabled = false ∨ t.mtu.zones[k].defn.bank ≠ m.bank ∨
            t.mtu.zones[k].result.measured ≠ some m.number)) →
        y.level = x.level) ∧
      ∀ k l, x.mode = .auto → x.steer = some k → x.lastLit = some l → l.number = m.number → 0 < l.used →
        t.mtu.zones[k].defn.enabled = true → t.mtu.zones[k].defn.bank = m.bank →
        t.mtu.zones[k].result.measured = some m.number →
        let u := l.used
        let mean := t.mtu.zones[k].result.mean
        (t.mtu.zones[k].result.glare = true → y.level = min (max (u / 2) x.min) x.max) ∧
        (t.mtu.zones[k].result.glare = false →
          (mean ≤ x.target + s.lpc.deadband → x.target ≤ mean + s.lpc.deadband → y.level = x.level) ∧
          (x.target + s.lpc.deadband < mean ∨ mean + s.lpc.deadband < x.target →
            (mean = 0 → y.level = min (max (2 * u) x.min) x.max) ∧
            (mean ≠ 0 → y.level =
              min (max (min (max ((u * x.target + mean / 2) / mean) (u / 2)) (2 * u)) x.min) x.max)))

/-- `ExposureInv` is kept by every step: R1's table of states, exposures and timers; OFF during start-up (R2); and the
lamps' safety (R80, R86, R87), with every flash within the startup ceiling. -/
def Obligations.ExposureInvariantKept : Prop :=
  ∀ s t : State, ExposureInv s → step s = .next t → ExposureInv t

/-- `LampSettingsInv` is kept by every step, the auto-level loop's and the full reset's included. -/
def Obligations.LampSettingsInvariantKept : Prop :=
  ∀ s t : State, LampSettingsInv s → step s = .next t → LampSettingsInv t

/-- `StillsInv` is kept by every step (R106, R107). -/
def Obligations.StillsInvariantKept : Prop :=
  ∀ s t : State, StillsInv s → step s = .next t → StillsInv t

/-- `ConditionsInv` is kept by every step (R168, R171, R176). Over every command but a reset (FullResetValues,
SoftResetValues) and a served LTCH (LatchesReadAndResetTaken), an edge latches as R169 gives and a latch newly set
makes a notice as R171 gives (EdgesLatch, NoticesMade of Safety.lean). That a notice starts at the end of the step
that makes it is log entry 12's. -/
def Obligations.ConditionsInvariantKept : Prop :=
  (∀ s t : State, ConditionsInv s → step s = .next t → ConditionsInv t) ∧
  ∀ (i : Instr) (s t : State), exec i s = .next t → i ≠ .fullReset → (∀ body, i = .ltch body → ¬Served i s) →
    (i = .frameSent → ∀ f, s.cml.tx ≠ some (.reply f true)) → EdgesLatch s t ∧ NoticesMade i s t

/-- The five invariants hold right after reset, and after FULL_RESET of any state. -/
def Obligations.ResetMeetsInvariants : Prop :=
  (ExposureInv State.reset ∧ LampSettingsInv State.reset ∧ StillsInv State.reset ∧ ConditionsInv State.reset ∧
    DirectoryInv State.reset) ∧
  ∀ s t : State, exec .fullReset s = .next t → ExposureInv t ∧ LampSettingsInv t ∧ StillsInv t ∧ ConditionsInv t ∧ DirectoryInv t
end

