-- ==== Sys2Proof/Laws/State.lean ====
section
/-! SUPPORT. One lemma for each field and each update of the state, true by rfl, for the simplifier. -/

namespace Sys2Proof.Machine

@[simp] theorem State.setPxr_pxr (s : State) (b : Receiver) : (s.setPxr b).pxr = b := rfl
@[simp] theorem State.setPxr_phc (s : State) (b : Receiver) : (s.setPxr b).phc = s.phc := rfl
@[simp] theorem State.setPxr_rme (s : State) (b : Receiver) : (s.setPxr b).rme = s.rme := rfl
@[simp] theorem State.setPxr_mtu (s : State) (b : Receiver) : (s.setPxr b).mtu = s.mtu := rfl
@[simp] theorem State.setPxr_lpc (s : State) (b : Receiver) : (s.setPxr b).lpc = s.lpc := rfl
@[simp] theorem State.setPxr_csq (s : State) (b : Receiver) : (s.setPxr b).csq = s.csq := rfl
@[simp] theorem State.setPxr_ofq (s : State) (b : Receiver) : (s.setPxr b).ofq = s.ofq := rfl
@[simp] theorem State.setPxr_pfs (s : State) (b : Receiver) : (s.setPxr b).pfs = s.pfs := rfl
@[simp] theorem State.setPxr_hpb (s : State) (b : Receiver) : (s.setPxr b).hpb = s.hpb := rfl
@[simp] theorem State.setPxr_cdu (s : State) (b : Receiver) : (s.setPxr b).cdu = s.cdu := rfl
@[simp] theorem State.setPxr_cml (s : State) (b : Receiver) : (s.setPxr b).cml = s.cml := rfl
@[simp] theorem State.setPxr_draws (s : State) (b : Receiver) : (s.setPxr b).draws = s.draws := rfl
@[simp] theorem State.setPxr_pending (s : State) (b : Receiver) : (s.setPxr b).pending = s.pending := rfl
@[simp] theorem State.setPxr_setPxr (s : State) (a b : Receiver) : (s.setPxr a).setPxr b = s.setPxr b := rfl
@[simp] theorem State.setPxr_self (s : State) : s.setPxr s.pxr = s := rfl

@[simp] theorem State.setPhc_pxr (s : State) (b : Photometric) : (s.setPhc b).pxr = s.pxr := rfl
@[simp] theorem State.setPhc_phc (s : State) (b : Photometric) : (s.setPhc b).phc = b := rfl
@[simp] theorem State.setPhc_rme (s : State) (b : Photometric) : (s.setPhc b).rme = s.rme := rfl
@[simp] theorem State.setPhc_mtu (s : State) (b : Photometric) : (s.setPhc b).mtu = s.mtu := rfl
@[simp] theorem State.setPhc_lpc (s : State) (b : Photometric) : (s.setPhc b).lpc = s.lpc := rfl
@[simp] theorem State.setPhc_csq (s : State) (b : Photometric) : (s.setPhc b).csq = s.csq := rfl
@[simp] theorem State.setPhc_ofq (s : State) (b : Photometric) : (s.setPhc b).ofq = s.ofq := rfl
@[simp] theorem State.setPhc_pfs (s : State) (b : Photometric) : (s.setPhc b).pfs = s.pfs := rfl
@[simp] theorem State.setPhc_hpb (s : State) (b : Photometric) : (s.setPhc b).hpb = s.hpb := rfl
@[simp] theorem State.setPhc_cdu (s : State) (b : Photometric) : (s.setPhc b).cdu = s.cdu := rfl
@[simp] theorem State.setPhc_cml (s : State) (b : Photometric) : (s.setPhc b).cml = s.cml := rfl
@[simp] theorem State.setPhc_draws (s : State) (b : Photometric) : (s.setPhc b).draws = s.draws := rfl
@[simp] theorem State.setPhc_pending (s : State) (b : Photometric) : (s.setPhc b).pending = s.pending := rfl
@[simp] theorem State.setPhc_setPhc (s : State) (a b : Photometric) : (s.setPhc a).setPhc b = s.setPhc b := rfl
@[simp] theorem State.setPhc_self (s : State) : s.setPhc s.phc = s := rfl

@[simp] theorem State.setRme_pxr (s : State) (b : Remap) : (s.setRme b).pxr = s.pxr := rfl
@[simp] theorem State.setRme_phc (s : State) (b : Remap) : (s.setRme b).phc = s.phc := rfl
@[simp] theorem State.setRme_rme (s : State) (b : Remap) : (s.setRme b).rme = b := rfl
@[simp] theorem State.setRme_mtu (s : State) (b : Remap) : (s.setRme b).mtu = s.mtu := rfl
@[simp] theorem State.setRme_lpc (s : State) (b : Remap) : (s.setRme b).lpc = s.lpc := rfl
@[simp] theorem State.setRme_csq (s : State) (b : Remap) : (s.setRme b).csq = s.csq := rfl
@[simp] theorem State.setRme_ofq (s : State) (b : Remap) : (s.setRme b).ofq = s.ofq := rfl
@[simp] theorem State.setRme_pfs (s : State) (b : Remap) : (s.setRme b).pfs = s.pfs := rfl
@[simp] theorem State.setRme_hpb (s : State) (b : Remap) : (s.setRme b).hpb = s.hpb := rfl
@[simp] theorem State.setRme_cdu (s : State) (b : Remap) : (s.setRme b).cdu = s.cdu := rfl
@[simp] theorem State.setRme_cml (s : State) (b : Remap) : (s.setRme b).cml = s.cml := rfl
@[simp] theorem State.setRme_draws (s : State) (b : Remap) : (s.setRme b).draws = s.draws := rfl
@[simp] theorem State.setRme_pending (s : State) (b : Remap) : (s.setRme b).pending = s.pending := rfl
@[simp] theorem State.setRme_setRme (s : State) (a b : Remap) : (s.setRme a).setRme b = s.setRme b := rfl
@[simp] theorem State.setRme_self (s : State) : s.setRme s.rme = s := rfl

@[simp] theorem State.setMtu_pxr (s : State) (b : Metering) : (s.setMtu b).pxr = s.pxr := rfl
@[simp] theorem State.setMtu_phc (s : State) (b : Metering) : (s.setMtu b).phc = s.phc := rfl
@[simp] theorem State.setMtu_rme (s : State) (b : Metering) : (s.setMtu b).rme = s.rme := rfl
@[simp] theorem State.setMtu_mtu (s : State) (b : Metering) : (s.setMtu b).mtu = b := rfl
@[simp] theorem State.setMtu_lpc (s : State) (b : Metering) : (s.setMtu b).lpc = s.lpc := rfl
@[simp] theorem State.setMtu_csq (s : State) (b : Metering) : (s.setMtu b).csq = s.csq := rfl
@[simp] theorem State.setMtu_ofq (s : State) (b : Metering) : (s.setMtu b).ofq = s.ofq := rfl
@[simp] theorem State.setMtu_pfs (s : State) (b : Metering) : (s.setMtu b).pfs = s.pfs := rfl
@[simp] theorem State.setMtu_hpb (s : State) (b : Metering) : (s.setMtu b).hpb = s.hpb := rfl
@[simp] theorem State.setMtu_cdu (s : State) (b : Metering) : (s.setMtu b).cdu = s.cdu := rfl
@[simp] theorem State.setMtu_cml (s : State) (b : Metering) : (s.setMtu b).cml = s.cml := rfl
@[simp] theorem State.setMtu_draws (s : State) (b : Metering) : (s.setMtu b).draws = s.draws := rfl
@[simp] theorem State.setMtu_pending (s : State) (b : Metering) : (s.setMtu b).pending = s.pending := rfl
@[simp] theorem State.setMtu_setMtu (s : State) (a b : Metering) : (s.setMtu a).setMtu b = s.setMtu b := rfl
@[simp] theorem State.setMtu_self (s : State) : s.setMtu s.mtu = s := rfl

@[simp] theorem State.setLpc_pxr (s : State) (b : Lamps) : (s.setLpc b).pxr = s.pxr := rfl
@[simp] theorem State.setLpc_phc (s : State) (b : Lamps) : (s.setLpc b).phc = s.phc := rfl
@[simp] theorem State.setLpc_rme (s : State) (b : Lamps) : (s.setLpc b).rme = s.rme := rfl
@[simp] theorem State.setLpc_mtu (s : State) (b : Lamps) : (s.setLpc b).mtu = s.mtu := rfl
@[simp] theorem State.setLpc_lpc (s : State) (b : Lamps) : (s.setLpc b).lpc = b := rfl
@[simp] theorem State.setLpc_csq (s : State) (b : Lamps) : (s.setLpc b).csq = s.csq := rfl
@[simp] theorem State.setLpc_ofq (s : State) (b : Lamps) : (s.setLpc b).ofq = s.ofq := rfl
@[simp] theorem State.setLpc_pfs (s : State) (b : Lamps) : (s.setLpc b).pfs = s.pfs := rfl
@[simp] theorem State.setLpc_hpb (s : State) (b : Lamps) : (s.setLpc b).hpb = s.hpb := rfl
@[simp] theorem State.setLpc_cdu (s : State) (b : Lamps) : (s.setLpc b).cdu = s.cdu := rfl
@[simp] theorem State.setLpc_cml (s : State) (b : Lamps) : (s.setLpc b).cml = s.cml := rfl
@[simp] theorem State.setLpc_draws (s : State) (b : Lamps) : (s.setLpc b).draws = s.draws := rfl
@[simp] theorem State.setLpc_pending (s : State) (b : Lamps) : (s.setLpc b).pending = s.pending := rfl
@[simp] theorem State.setLpc_setLpc (s : State) (a b : Lamps) : (s.setLpc a).setLpc b = s.setLpc b := rfl
@[simp] theorem State.setLpc_self (s : State) : s.setLpc s.lpc = s := rfl

@[simp] theorem State.setCsq_pxr (s : State) (b : Sequencer) : (s.setCsq b).pxr = s.pxr := rfl
@[simp] theorem State.setCsq_phc (s : State) (b : Sequencer) : (s.setCsq b).phc = s.phc := rfl
@[simp] theorem State.setCsq_rme (s : State) (b : Sequencer) : (s.setCsq b).rme = s.rme := rfl
@[simp] theorem State.setCsq_mtu (s : State) (b : Sequencer) : (s.setCsq b).mtu = s.mtu := rfl
@[simp] theorem State.setCsq_lpc (s : State) (b : Sequencer) : (s.setCsq b).lpc = s.lpc := rfl
@[simp] theorem State.setCsq_csq (s : State) (b : Sequencer) : (s.setCsq b).csq = b := rfl
@[simp] theorem State.setCsq_ofq (s : State) (b : Sequencer) : (s.setCsq b).ofq = s.ofq := rfl
@[simp] theorem State.setCsq_pfs (s : State) (b : Sequencer) : (s.setCsq b).pfs = s.pfs := rfl
@[simp] theorem State.setCsq_hpb (s : State) (b : Sequencer) : (s.setCsq b).hpb = s.hpb := rfl
@[simp] theorem State.setCsq_cdu (s : State) (b : Sequencer) : (s.setCsq b).cdu = s.cdu := rfl
@[simp] theorem State.setCsq_cml (s : State) (b : Sequencer) : (s.setCsq b).cml = s.cml := rfl
@[simp] theorem State.setCsq_draws (s : State) (b : Sequencer) : (s.setCsq b).draws = s.draws := rfl
@[simp] theorem State.setCsq_pending (s : State) (b : Sequencer) : (s.setCsq b).pending = s.pending := rfl
@[simp] theorem State.setCsq_setCsq (s : State) (a b : Sequencer) : (s.setCsq a).setCsq b = s.setCsq b := rfl
@[simp] theorem State.setCsq_self (s : State) : s.setCsq s.csq = s := rfl

@[simp] theorem State.setOfq_pxr (s : State) (b : Output) : (s.setOfq b).pxr = s.pxr := rfl
@[simp] theorem State.setOfq_phc (s : State) (b : Output) : (s.setOfq b).phc = s.phc := rfl
@[simp] theorem State.setOfq_rme (s : State) (b : Output) : (s.setOfq b).rme = s.rme := rfl
@[simp] theorem State.setOfq_mtu (s : State) (b : Output) : (s.setOfq b).mtu = s.mtu := rfl
@[simp] theorem State.setOfq_lpc (s : State) (b : Output) : (s.setOfq b).lpc = s.lpc := rfl
@[simp] theorem State.setOfq_csq (s : State) (b : Output) : (s.setOfq b).csq = s.csq := rfl
@[simp] theorem State.setOfq_ofq (s : State) (b : Output) : (s.setOfq b).ofq = b := rfl
@[simp] theorem State.setOfq_pfs (s : State) (b : Output) : (s.setOfq b).pfs = s.pfs := rfl
@[simp] theorem State.setOfq_hpb (s : State) (b : Output) : (s.setOfq b).hpb = s.hpb := rfl
@[simp] theorem State.setOfq_cdu (s : State) (b : Output) : (s.setOfq b).cdu = s.cdu := rfl
@[simp] theorem State.setOfq_cml (s : State) (b : Output) : (s.setOfq b).cml = s.cml := rfl
@[simp] theorem State.setOfq_draws (s : State) (b : Output) : (s.setOfq b).draws = s.draws := rfl
@[simp] theorem State.setOfq_pending (s : State) (b : Output) : (s.setOfq b).pending = s.pending := rfl
@[simp] theorem State.setOfq_setOfq (s : State) (a b : Output) : (s.setOfq a).setOfq b = s.setOfq b := rfl
@[simp] theorem State.setOfq_self (s : State) : s.setOfq s.ofq = s := rfl

@[simp] theorem State.setPfs_pxr (s : State) (b : Store) : (s.setPfs b).pxr = s.pxr := rfl
@[simp] theorem State.setPfs_phc (s : State) (b : Store) : (s.setPfs b).phc = s.phc := rfl
@[simp] theorem State.setPfs_rme (s : State) (b : Store) : (s.setPfs b).rme = s.rme := rfl
@[simp] theorem State.setPfs_mtu (s : State) (b : Store) : (s.setPfs b).mtu = s.mtu := rfl
@[simp] theorem State.setPfs_lpc (s : State) (b : Store) : (s.setPfs b).lpc = s.lpc := rfl
@[simp] theorem State.setPfs_csq (s : State) (b : Store) : (s.setPfs b).csq = s.csq := rfl
@[simp] theorem State.setPfs_ofq (s : State) (b : Store) : (s.setPfs b).ofq = s.ofq := rfl
@[simp] theorem State.setPfs_pfs (s : State) (b : Store) : (s.setPfs b).pfs = b := rfl
@[simp] theorem State.setPfs_hpb (s : State) (b : Store) : (s.setPfs b).hpb = s.hpb := rfl
@[simp] theorem State.setPfs_cdu (s : State) (b : Store) : (s.setPfs b).cdu = s.cdu := rfl
@[simp] theorem State.setPfs_cml (s : State) (b : Store) : (s.setPfs b).cml = s.cml := rfl
@[simp] theorem State.setPfs_draws (s : State) (b : Store) : (s.setPfs b).draws = s.draws := rfl
@[simp] theorem State.setPfs_pending (s : State) (b : Store) : (s.setPfs b).pending = s.pending := rfl
@[simp] theorem State.setPfs_setPfs (s : State) (a b : Store) : (s.setPfs a).setPfs b = s.setPfs b := rfl
@[simp] theorem State.setPfs_self (s : State) : s.setPfs s.pfs = s := rfl

@[simp] theorem State.setHpb_pxr (s : State) (b : Probe) : (s.setHpb b).pxr = s.pxr := rfl
@[simp] theorem State.setHpb_phc (s : State) (b : Probe) : (s.setHpb b).phc = s.phc := rfl
@[simp] theorem State.setHpb_rme (s : State) (b : Probe) : (s.setHpb b).rme = s.rme := rfl
@[simp] theorem State.setHpb_mtu (s : State) (b : Probe) : (s.setHpb b).mtu = s.mtu := rfl
@[simp] theorem State.setHpb_lpc (s : State) (b : Probe) : (s.setHpb b).lpc = s.lpc := rfl
@[simp] theorem State.setHpb_csq (s : State) (b : Probe) : (s.setHpb b).csq = s.csq := rfl
@[simp] theorem State.setHpb_ofq (s : State) (b : Probe) : (s.setHpb b).ofq = s.ofq := rfl
@[simp] theorem State.setHpb_pfs (s : State) (b : Probe) : (s.setHpb b).pfs = s.pfs := rfl
@[simp] theorem State.setHpb_hpb (s : State) (b : Probe) : (s.setHpb b).hpb = b := rfl
@[simp] theorem State.setHpb_cdu (s : State) (b : Probe) : (s.setHpb b).cdu = s.cdu := rfl
@[simp] theorem State.setHpb_cml (s : State) (b : Probe) : (s.setHpb b).cml = s.cml := rfl
@[simp] theorem State.setHpb_draws (s : State) (b : Probe) : (s.setHpb b).draws = s.draws := rfl
@[simp] theorem State.setHpb_pending (s : State) (b : Probe) : (s.setHpb b).pending = s.pending := rfl
@[simp] theorem State.setHpb_setHpb (s : State) (a b : Probe) : (s.setHpb a).setHpb b = s.setHpb b := rfl
@[simp] theorem State.setHpb_self (s : State) : s.setHpb s.hpb = s := rfl

@[simp] theorem State.setCdu_pxr (s : State) (b : Conditions) : (s.setCdu b).pxr = s.pxr := rfl
@[simp] theorem State.setCdu_phc (s : State) (b : Conditions) : (s.setCdu b).phc = s.phc := rfl
@[simp] theorem State.setCdu_rme (s : State) (b : Conditions) : (s.setCdu b).rme = s.rme := rfl
@[simp] theorem State.setCdu_mtu (s : State) (b : Conditions) : (s.setCdu b).mtu = s.mtu := rfl
@[simp] theorem State.setCdu_lpc (s : State) (b : Conditions) : (s.setCdu b).lpc = s.lpc := rfl
@[simp] theorem State.setCdu_csq (s : State) (b : Conditions) : (s.setCdu b).csq = s.csq := rfl
@[simp] theorem State.setCdu_ofq (s : State) (b : Conditions) : (s.setCdu b).ofq = s.ofq := rfl
@[simp] theorem State.setCdu_pfs (s : State) (b : Conditions) : (s.setCdu b).pfs = s.pfs := rfl
@[simp] theorem State.setCdu_hpb (s : State) (b : Conditions) : (s.setCdu b).hpb = s.hpb := rfl
@[simp] theorem State.setCdu_cdu (s : State) (b : Conditions) : (s.setCdu b).cdu = b := rfl
@[simp] theorem State.setCdu_cml (s : State) (b : Conditions) : (s.setCdu b).cml = s.cml := rfl
@[simp] theorem State.setCdu_draws (s : State) (b : Conditions) : (s.setCdu b).draws = s.draws := rfl
@[simp] theorem State.setCdu_pending (s : State) (b : Conditions) : (s.setCdu b).pending = s.pending := rfl
@[simp] theorem State.setCdu_setCdu (s : State) (a b : Conditions) : (s.setCdu a).setCdu b = s.setCdu b := rfl
@[simp] theorem State.setCdu_self (s : State) : s.setCdu s.cdu = s := rfl

@[simp] theorem State.setCml_pxr (s : State) (b : Link) : (s.setCml b).pxr = s.pxr := rfl
@[simp] theorem State.setCml_phc (s : State) (b : Link) : (s.setCml b).phc = s.phc := rfl
@[simp] theorem State.setCml_rme (s : State) (b : Link) : (s.setCml b).rme = s.rme := rfl
@[simp] theorem State.setCml_mtu (s : State) (b : Link) : (s.setCml b).mtu = s.mtu := rfl
@[simp] theorem State.setCml_lpc (s : State) (b : Link) : (s.setCml b).lpc = s.lpc := rfl
@[simp] theorem State.setCml_csq (s : State) (b : Link) : (s.setCml b).csq = s.csq := rfl
@[simp] theorem State.setCml_ofq (s : State) (b : Link) : (s.setCml b).ofq = s.ofq := rfl
@[simp] theorem State.setCml_pfs (s : State) (b : Link) : (s.setCml b).pfs = s.pfs := rfl
@[simp] theorem State.setCml_hpb (s : State) (b : Link) : (s.setCml b).hpb = s.hpb := rfl
@[simp] theorem State.setCml_cdu (s : State) (b : Link) : (s.setCml b).cdu = s.cdu := rfl
@[simp] theorem State.setCml_cml (s : State) (b : Link) : (s.setCml b).cml = b := rfl
@[simp] theorem State.setCml_draws (s : State) (b : Link) : (s.setCml b).draws = s.draws := rfl
@[simp] theorem State.setCml_pending (s : State) (b : Link) : (s.setCml b).pending = s.pending := rfl
@[simp] theorem State.setCml_setCml (s : State) (a b : Link) : (s.setCml a).setCml b = s.setCml b := rfl
@[simp] theorem State.setCml_self (s : State) : s.setCml s.cml = s := rfl

@[simp] theorem State.draw_pxr (s : State) : s.draw.pxr = s.pxr := rfl
@[simp] theorem State.draw_phc (s : State) : s.draw.phc = s.phc := rfl
@[simp] theorem State.draw_rme (s : State) : s.draw.rme = s.rme := rfl
@[simp] theorem State.draw_mtu (s : State) : s.draw.mtu = s.mtu := rfl
@[simp] theorem State.draw_lpc (s : State) : s.draw.lpc = s.lpc := rfl
@[simp] theorem State.draw_csq (s : State) : s.draw.csq = s.csq := rfl
@[simp] theorem State.draw_ofq (s : State) : s.draw.ofq = s.ofq := rfl
@[simp] theorem State.draw_pfs (s : State) : s.draw.pfs = s.pfs := rfl
@[simp] theorem State.draw_hpb (s : State) : s.draw.hpb = s.hpb := rfl
@[simp] theorem State.draw_cdu (s : State) : s.draw.cdu = s.cdu := rfl
@[simp] theorem State.draw_cml (s : State) : s.draw.cml = s.cml := rfl
@[simp] theorem State.draw_draws (s : State) : s.draw.draws = s.draws + 1 := rfl
@[simp] theorem State.draw_pending (s : State) : s.draw.pending = s.pending := rfl

@[simp] theorem State.setPending_pxr (s : State) (q : List Instr) : (s.setPending q).pxr = s.pxr := rfl
@[simp] theorem State.setPending_phc (s : State) (q : List Instr) : (s.setPending q).phc = s.phc := rfl
@[simp] theorem State.setPending_rme (s : State) (q : List Instr) : (s.setPending q).rme = s.rme := rfl
@[simp] theorem State.setPending_mtu (s : State) (q : List Instr) : (s.setPending q).mtu = s.mtu := rfl
@[simp] theorem State.setPending_lpc (s : State) (q : List Instr) : (s.setPending q).lpc = s.lpc := rfl
@[simp] theorem State.setPending_csq (s : State) (q : List Instr) : (s.setPending q).csq = s.csq := rfl
@[simp] theorem State.setPending_ofq (s : State) (q : List Instr) : (s.setPending q).ofq = s.ofq := rfl
@[simp] theorem State.setPending_pfs (s : State) (q : List Instr) : (s.setPending q).pfs = s.pfs := rfl
@[simp] theorem State.setPending_hpb (s : State) (q : List Instr) : (s.setPending q).hpb = s.hpb := rfl
@[simp] theorem State.setPending_cdu (s : State) (q : List Instr) : (s.setPending q).cdu = s.cdu := rfl
@[simp] theorem State.setPending_cml (s : State) (q : List Instr) : (s.setPending q).cml = s.cml := rfl
@[simp] theorem State.setPending_draws (s : State) (q : List Instr) : (s.setPending q).draws = s.draws := rfl
@[simp] theorem State.setPending_pending (s : State) (q : List Instr) : (s.setPending q).pending = q := rfl

/-- Two states are equal when every block, the draws and the waiting commands are. -/
theorem State.ext_blocks (s t : State) (h0 : s.pxr = t.pxr) (h1 : s.phc = t.phc) (h2 : s.rme = t.rme) (h3 : s.mtu = t.mtu) (h4 : s.lpc = t.lpc) (h5 : s.csq = t.csq) (h6 : s.ofq = t.ofq) (h7 : s.pfs = t.pfs) (h8 : s.hpb = t.hpb) (h9 : s.cdu = t.cdu) (h10 : s.cml = t.cml) (h11 : s.draws = t.draws) (h12 : s.pending = t.pending) : s = t := by
  cases s
  cases t
  simp_all

end Sys2Proof.Machine
end

