-- ==== Sys2Proof/Laws/Frames.lean ====
section
/-! SUPPORT. For each shared operation, the blocks it leaves alone: one lemma each, for the simplifier. -/

namespace Sys2Proof.Machine

@[simp] theorem raise_frame (src : Source) (s : State) :
    (raise src s).pxr = s.pxr ∧ (raise src s).phc = s.phc ∧ (raise src s).rme = s.rme ∧ (raise src s).mtu = s.mtu ∧
    (raise src s).lpc = s.lpc ∧ (raise src s).csq = s.csq ∧ (raise src s).ofq = s.ofq ∧ (raise src s).pfs = s.pfs ∧
    (raise src s).hpb = s.hpb ∧ (raise src s).cml = s.cml ∧ (raise src s).draws = s.draws ∧ (raise src s).pending = s.pending := by
  simp [raise]

@[simp] theorem report_frame (src : Source) (v : Bool) (s : State) :
    (report src v s).pxr = s.pxr ∧ (report src v s).phc = s.phc ∧ (report src v s).rme = s.rme ∧ (report src v s).mtu = s.mtu ∧
    (report src v s).lpc = s.lpc ∧ (report src v s).csq = s.csq ∧ (report src v s).ofq = s.ofq ∧ (report src v s).pfs = s.pfs ∧
    (report src v s).hpb = s.hpb ∧ (report src v s).cml = s.cml ∧ (report src v s).draws = s.draws ∧ (report src v s).pending = s.pending := by
  simp [report]

@[simp] theorem releaseBuffer_frame (id : LinId) (s : State) :
    (releaseBuffer id s).pxr = s.pxr ∧ (releaseBuffer id s).rme = s.rme ∧ (releaseBuffer id s).mtu = s.mtu ∧ (releaseBuffer id s).lpc = s.lpc ∧
    (releaseBuffer id s).csq = s.csq ∧ (releaseBuffer id s).ofq = s.ofq ∧ (releaseBuffer id s).pfs = s.pfs ∧ (releaseBuffer id s).hpb = s.hpb ∧
    (releaseBuffer id s).cdu = s.cdu ∧ (releaseBuffer id s).cml = s.cml ∧ (releaseBuffer id s).draws = s.draws ∧ (releaseBuffer id s).pending = s.pending := by
  simp [releaseBuffer]

@[simp] theorem releaseAccumulators_frame (s : State) :
    (releaseAccumulators s).pxr = s.pxr ∧ (releaseAccumulators s).rme = s.rme ∧ (releaseAccumulators s).mtu = s.mtu ∧ (releaseAccumulators s).lpc = s.lpc ∧
    (releaseAccumulators s).csq = s.csq ∧ (releaseAccumulators s).ofq = s.ofq ∧ (releaseAccumulators s).pfs = s.pfs ∧ (releaseAccumulators s).hpb = s.hpb ∧
    (releaseAccumulators s).cdu = s.cdu ∧ (releaseAccumulators s).cml = s.cml ∧ (releaseAccumulators s).draws = s.draws ∧ (releaseAccumulators s).pending = s.pending := by
  simp [releaseAccumulators]

@[simp] theorem reserveSlot_frame (claim : Fin 4 × Bool) (kind : PictureKind) (s : State) :
    (reserveSlot claim kind s).pxr = s.pxr ∧ (reserveSlot claim kind s).phc = s.phc ∧ (reserveSlot claim kind s).rme = s.rme ∧ (reserveSlot claim kind s).mtu = s.mtu ∧
    (reserveSlot claim kind s).lpc = s.lpc ∧ (reserveSlot claim kind s).csq = s.csq ∧ (reserveSlot claim kind s).pfs = s.pfs ∧ (reserveSlot claim kind s).hpb = s.hpb ∧
    (reserveSlot claim kind s).cml = s.cml ∧ (reserveSlot claim kind s).draws = s.draws ∧ (reserveSlot claim kind s).pending = s.pending := by
  unfold reserveSlot; split <;> simp

@[simp] theorem freeSlot_frame (i : Fin 4) (s : State) :
    (freeSlot i s).pxr = s.pxr ∧ (freeSlot i s).phc = s.phc ∧ (freeSlot i s).rme = s.rme ∧ (freeSlot i s).mtu = s.mtu ∧
    (freeSlot i s).lpc = s.lpc ∧ (freeSlot i s).csq = s.csq ∧ (freeSlot i s).pfs = s.pfs ∧ (freeSlot i s).hpb = s.hpb ∧
    (freeSlot i s).cdu = s.cdu ∧ (freeSlot i s).cml = s.cml ∧ (freeSlot i s).draws = s.draws ∧ (freeSlot i s).pending = s.pending := by
  simp [freeSlot]

@[simp] theorem photometricLine_frame (r : ExposureRecord) (y : Nat) (row : List Nat) (s : State) :
    (photometricLine r y row s).pxr = s.pxr ∧ (photometricLine r y row s).rme = s.rme ∧ (photometricLine r y row s).mtu = s.mtu ∧ (photometricLine r y row s).lpc = s.lpc ∧
    (photometricLine r y row s).csq = s.csq ∧ (photometricLine r y row s).ofq = s.ofq ∧ (photometricLine r y row s).pfs = s.pfs ∧ (photometricLine r y row s).hpb = s.hpb ∧
    (photometricLine r y row s).cdu = s.cdu ∧ (photometricLine r y row s).cml = s.cml ∧ (photometricLine r y row s).draws = s.draws ∧ (photometricLine r y row s).pending = s.pending := by
  simp only [photometricLine]; (repeat' split) <;> simp

@[simp] theorem photometricEnd_frame (r : ExposureRecord) (c : Bool) (s : State) :
    (photometricEnd r c s).pxr = s.pxr ∧ (photometricEnd r c s).rme = s.rme ∧ (photometricEnd r c s).mtu = s.mtu ∧ (photometricEnd r c s).lpc = s.lpc ∧
    (photometricEnd r c s).csq = s.csq ∧ (photometricEnd r c s).ofq = s.ofq ∧ (photometricEnd r c s).pfs = s.pfs ∧ (photometricEnd r c s).hpb = s.hpb ∧
    (photometricEnd r c s).cdu = s.cdu ∧ (photometricEnd r c s).cml = s.cml ∧ (photometricEnd r c s).draws = s.draws ∧ (photometricEnd r c s).pending = s.pending := by
  unfold photometricEnd; split <;> simp

@[simp] theorem meteringLine_frame (r : ExposureRecord) (y : Nat) (row : List Nat) (s : State) :
    (meteringLine r y row s).pxr = s.pxr ∧ (meteringLine r y row s).phc = s.phc ∧ (meteringLine r y row s).rme = s.rme ∧ (meteringLine r y row s).lpc = s.lpc ∧
    (meteringLine r y row s).csq = s.csq ∧ (meteringLine r y row s).ofq = s.ofq ∧ (meteringLine r y row s).pfs = s.pfs ∧ (meteringLine r y row s).hpb = s.hpb ∧
    (meteringLine r y row s).cdu = s.cdu ∧ (meteringLine r y row s).cml = s.cml ∧ (meteringLine r y row s).draws = s.draws ∧ (meteringLine r y row s).pending = s.pending := by
  unfold meteringLine; split <;> simp

@[simp] theorem reportUnderlit_frame (s : State) :
    (reportUnderlit s).pxr = s.pxr ∧ (reportUnderlit s).phc = s.phc ∧ (reportUnderlit s).rme = s.rme ∧ (reportUnderlit s).mtu = s.mtu ∧
    (reportUnderlit s).lpc = s.lpc ∧ (reportUnderlit s).csq = s.csq ∧ (reportUnderlit s).ofq = s.ofq ∧ (reportUnderlit s).pfs = s.pfs ∧
    (reportUnderlit s).hpb = s.hpb ∧ (reportUnderlit s).cml = s.cml ∧ (reportUnderlit s).draws = s.draws ∧ (reportUnderlit s).pending = s.pending := by
  simp [reportUnderlit]

@[simp] theorem reportLamps_frame (s : State) :
    (reportLamps s).pxr = s.pxr ∧ (reportLamps s).phc = s.phc ∧ (reportLamps s).rme = s.rme ∧ (reportLamps s).mtu = s.mtu ∧
    (reportLamps s).lpc = s.lpc ∧ (reportLamps s).csq = s.csq ∧ (reportLamps s).ofq = s.ofq ∧ (reportLamps s).pfs = s.pfs ∧
    (reportLamps s).hpb = s.hpb ∧ (reportLamps s).cml = s.cml ∧ (reportLamps s).draws = s.draws ∧ (reportLamps s).pending = s.pending := by
  simp [reportLamps]

@[simp] theorem reportZones_frame (s : State) :
    (reportZones s).pxr = s.pxr ∧ (reportZones s).phc = s.phc ∧ (reportZones s).rme = s.rme ∧ (reportZones s).mtu = s.mtu ∧
    (reportZones s).lpc = s.lpc ∧ (reportZones s).csq = s.csq ∧ (reportZones s).ofq = s.ofq ∧ (reportZones s).pfs = s.pfs ∧
    (reportZones s).hpb = s.hpb ∧ (reportZones s).cml = s.cml ∧ (reportZones s).draws = s.draws ∧ (reportZones s).pending = s.pending := by
  simp [reportZones]

@[simp] theorem takeZones_frame (b : Bank) (n : Word32) (s : State) :
    (takeZones b n s).pxr = s.pxr ∧ (takeZones b n s).phc = s.phc ∧ (takeZones b n s).rme = s.rme ∧ (takeZones b n s).mtu = s.mtu ∧
    (takeZones b n s).csq = s.csq ∧ (takeZones b n s).ofq = s.ofq ∧ (takeZones b n s).pfs = s.pfs ∧ (takeZones b n s).hpb = s.hpb ∧
    (takeZones b n s).cml = s.cml ∧ (takeZones b n s).draws = s.draws ∧ (takeZones b n s).pending = s.pending := by
  simp [takeZones]

@[simp] theorem meteringCompleted_frame (s : State) :
    (meteringCompleted s).pxr = s.pxr ∧ (meteringCompleted s).phc = s.phc ∧ (meteringCompleted s).rme = s.rme ∧ (meteringCompleted s).csq = s.csq ∧
    (meteringCompleted s).ofq = s.ofq ∧ (meteringCompleted s).pfs = s.pfs ∧ (meteringCompleted s).hpb = s.hpb ∧ (meteringCompleted s).cml = s.cml ∧
    (meteringCompleted s).draws = s.draws ∧ (meteringCompleted s).pending = s.pending := by
  unfold meteringCompleted; split <;> simp

@[simp] theorem meteringAbandoned_frame (s : State) :
    (meteringAbandoned s).pxr = s.pxr ∧ (meteringAbandoned s).phc = s.phc ∧ (meteringAbandoned s).rme = s.rme ∧ (meteringAbandoned s).lpc = s.lpc ∧
    (meteringAbandoned s).csq = s.csq ∧ (meteringAbandoned s).ofq = s.ofq ∧ (meteringAbandoned s).pfs = s.pfs ∧ (meteringAbandoned s).hpb = s.hpb ∧
    (meteringAbandoned s).cdu = s.cdu ∧ (meteringAbandoned s).cml = s.cml ∧ (meteringAbandoned s).draws = s.draws ∧ (meteringAbandoned s).pending = s.pending := by
  simp [meteringAbandoned]

@[simp] theorem lampOff_frame (s : State) :
    (lampOff s).pxr = s.pxr ∧ (lampOff s).phc = s.phc ∧ (lampOff s).rme = s.rme ∧ (lampOff s).mtu = s.mtu ∧
    (lampOff s).csq = s.csq ∧ (lampOff s).ofq = s.ofq ∧ (lampOff s).pfs = s.pfs ∧ (lampOff s).hpb = s.hpb ∧
    (lampOff s).cdu = s.cdu ∧ (lampOff s).cml = s.cml ∧ (lampOff s).draws = s.draws ∧ (lampOff s).pending = s.pending := by
  simp [lampOff]

@[simp] theorem storeDone_frame (s : State) :
    (storeDone s).pxr = s.pxr ∧ (storeDone s).phc = s.phc ∧ (storeDone s).rme = s.rme ∧ (storeDone s).mtu = s.mtu ∧
    (storeDone s).lpc = s.lpc ∧ (storeDone s).csq = s.csq ∧ (storeDone s).ofq = s.ofq ∧ (storeDone s).hpb = s.hpb ∧
    (storeDone s).cml = s.cml ∧ (storeDone s).draws = s.draws ∧ (storeDone s).pending = s.pending := by
  simp [storeDone]

@[simp] theorem storeFailed_frame (r : LastResult) (s : State) :
    (storeFailed r s).pxr = s.pxr ∧ (storeFailed r s).phc = s.phc ∧ (storeFailed r s).rme = s.rme ∧ (storeFailed r s).mtu = s.mtu ∧
    (storeFailed r s).lpc = s.lpc ∧ (storeFailed r s).csq = s.csq ∧ (storeFailed r s).ofq = s.ofq ∧ (storeFailed r s).hpb = s.hpb ∧
    (storeFailed r s).cml = s.cml ∧ (storeFailed r s).draws = s.draws ∧ (storeFailed r s).pending = s.pending := by
  simp [storeFailed]

@[simp] theorem writeContent_frame (c : Content) (s : State) :
    (writeContent c s).pxr = s.pxr ∧ (writeContent c s).phc = s.phc ∧ (writeContent c s).rme = s.rme ∧ (writeContent c s).mtu = s.mtu ∧
    (writeContent c s).lpc = s.lpc ∧ (writeContent c s).csq = s.csq ∧ (writeContent c s).ofq = s.ofq ∧ (writeContent c s).hpb = s.hpb ∧
    (writeContent c s).cdu = s.cdu ∧ (writeContent c s).cml = s.cml ∧ (writeContent c s).draws = s.draws ∧ (writeContent c s).pending = s.pending := by
  simp [writeContent]

@[simp] theorem enter_frame (st : SeqState) (s : State) :
    (enter st s).pxr = s.pxr ∧ (enter st s).phc = s.phc ∧ (enter st s).rme = s.rme ∧ (enter st s).mtu = s.mtu ∧
    (enter st s).lpc = s.lpc ∧ (enter st s).ofq = s.ofq ∧ (enter st s).pfs = s.pfs ∧ (enter st s).hpb = s.hpb ∧
    (enter st s).cdu = s.cdu ∧ (enter st s).cml = s.cml ∧ (enter st s).draws = s.draws ∧ (enter st s).pending = s.pending := by
  simp [enter]

@[simp] theorem leaveStill_frame (s : State) :
    (leaveStill s).pxr = s.pxr ∧ (leaveStill s).phc = s.phc ∧ (leaveStill s).rme = s.rme ∧ (leaveStill s).mtu = s.mtu ∧
    (leaveStill s).lpc = s.lpc ∧ (leaveStill s).ofq = s.ofq ∧ (leaveStill s).pfs = s.pfs ∧ (leaveStill s).hpb = s.hpb ∧
    (leaveStill s).cdu = s.cdu ∧ (leaveStill s).cml = s.cml ∧ (leaveStill s).draws = s.draws ∧ (leaveStill s).pending = s.pending := by
  simp [leaveStill]

@[simp] theorem dropActive_frame (a : StillTrack) (s : State) :
    (dropActive a s).pxr = s.pxr ∧ (dropActive a s).rme = s.rme ∧ (dropActive a s).mtu = s.mtu ∧ (dropActive a s).lpc = s.lpc ∧
    (dropActive a s).pfs = s.pfs ∧ (dropActive a s).hpb = s.hpb ∧ (dropActive a s).cdu = s.cdu ∧ (dropActive a s).cml = s.cml ∧
    (dropActive a s).draws = s.draws ∧ (dropActive a s).pending = s.pending := by
  simp [dropActive]

@[simp] theorem failActive_frame (a : StillTrack) (s : State) :
    (failActive a s).pxr = s.pxr ∧ (failActive a s).rme = s.rme ∧ (failActive a s).mtu = s.mtu ∧ (failActive a s).lpc = s.lpc ∧
    (failActive a s).pfs = s.pfs ∧ (failActive a s).hpb = s.hpb ∧ (failActive a s).cml = s.cml ∧ (failActive a s).draws = s.draws ∧
    (failActive a s).pending = s.pending := by
  simp [failActive]

@[simp] theorem streamCompleted_frame (r : ExposureRecord) (s : State) :
    (streamCompleted r s).pxr = s.pxr ∧ (streamCompleted r s).phc = s.phc ∧ (streamCompleted r s).rme = s.rme ∧ (streamCompleted r s).mtu = s.mtu ∧
    (streamCompleted r s).lpc = s.lpc ∧ (streamCompleted r s).ofq = s.ofq ∧ (streamCompleted r s).pfs = s.pfs ∧ (streamCompleted r s).hpb = s.hpb ∧
    (streamCompleted r s).cdu = s.cdu ∧ (streamCompleted r s).cml = s.cml ∧ (streamCompleted r s).draws = s.draws ∧ (streamCompleted r s).pending = s.pending := by
  unfold streamCompleted; split <;> simp

@[simp] theorem stillCompleted_frame (r : ExposureRecord) (tag : Nat) (s : State) :
    (stillCompleted r tag s).pxr = s.pxr ∧ (stillCompleted r tag s).phc = s.phc ∧ (stillCompleted r tag s).rme = s.rme ∧ (stillCompleted r tag s).mtu = s.mtu ∧
    (stillCompleted r tag s).lpc = s.lpc ∧ (stillCompleted r tag s).ofq = s.ofq ∧ (stillCompleted r tag s).pfs = s.pfs ∧ (stillCompleted r tag s).hpb = s.hpb ∧
    (stillCompleted r tag s).cdu = s.cdu ∧ (stillCompleted r tag s).cml = s.cml ∧ (stillCompleted r tag s).draws = s.draws ∧ (stillCompleted r tag s).pending = s.pending := by
  simp only [stillCompleted]; (repeat' split) <;> simp

@[simp] theorem sequencerCompleted_frame (r : ExposureRecord) (s : State) :
    (sequencerCompleted r s).pxr = s.pxr ∧ (sequencerCompleted r s).phc = s.phc ∧ (sequencerCompleted r s).rme = s.rme ∧ (sequencerCompleted r s).mtu = s.mtu ∧
    (sequencerCompleted r s).lpc = s.lpc ∧ (sequencerCompleted r s).ofq = s.ofq ∧ (sequencerCompleted r s).pfs = s.pfs ∧ (sequencerCompleted r s).hpb = s.hpb ∧
    (sequencerCompleted r s).cdu = s.cdu ∧ (sequencerCompleted r s).cml = s.cml ∧ (sequencerCompleted r s).draws = s.draws ∧ (sequencerCompleted r s).pending = s.pending := by
  unfold sequencerCompleted; split <;> simp

@[simp] theorem stillAbandoned_frame (why : AbandonReason) (tag : Nat) (s : State) :
    (stillAbandoned why tag s).pxr = s.pxr ∧ (stillAbandoned why tag s).rme = s.rme ∧ (stillAbandoned why tag s).mtu = s.mtu ∧ (stillAbandoned why tag s).lpc = s.lpc ∧
    (stillAbandoned why tag s).pfs = s.pfs ∧ (stillAbandoned why tag s).hpb = s.hpb ∧ (stillAbandoned why tag s).cml = s.cml ∧ (stillAbandoned why tag s).draws = s.draws ∧
    (stillAbandoned why tag s).pending = s.pending := by
  simp only [stillAbandoned]; (repeat' split) <;> simp

@[simp] theorem sequencerAbandoned_frame (r : ExposureRecord) (why : AbandonReason) (s : State) :
    (sequencerAbandoned r why s).pxr = s.pxr ∧ (sequencerAbandoned r why s).rme = s.rme ∧ (sequencerAbandoned r why s).mtu = s.mtu ∧ (sequencerAbandoned r why s).lpc = s.lpc ∧
    (sequencerAbandoned r why s).pfs = s.pfs ∧ (sequencerAbandoned r why s).hpb = s.hpb ∧ (sequencerAbandoned r why s).cml = s.cml ∧ (sequencerAbandoned r why s).draws = s.draws ∧
    (sequencerAbandoned r why s).pending = s.pending := by
  unfold sequencerAbandoned; split <;> simp

@[simp] theorem completeExposure_frame (s : State) :
    (completeExposure s).rme = s.rme ∧ (completeExposure s).ofq = s.ofq ∧ (completeExposure s).pfs = s.pfs ∧ (completeExposure s).hpb = s.hpb ∧
    (completeExposure s).cml = s.cml ∧ (completeExposure s).draws = s.draws ∧ (completeExposure s).pending = s.pending := by
  simp only [completeExposure]; (repeat' split) <;> simp

@[simp] theorem abandonExposure_frame (why : AbandonReason) (next : ReceiverState) (s : State) :
    (abandonExposure why next s).rme = s.rme ∧ (abandonExposure why next s).lpc = s.lpc ∧ (abandonExposure why next s).pfs = s.pfs ∧ (abandonExposure why next s).hpb = s.hpb ∧
    (abandonExposure why next s).cml = s.cml ∧ (abandonExposure why next s).draws = s.draws ∧ (abandonExposure why next s).pending = s.pending := by
  unfold abandonExposure; split <;> simp

@[simp] theorem sequencerAbandon_frame (why : AbandonReason) (s : State) :
    (sequencerAbandon why s).rme = s.rme ∧ (sequencerAbandon why s).pfs = s.pfs ∧ (sequencerAbandon why s).hpb = s.hpb ∧ (sequencerAbandon why s).cml = s.cml ∧
    (sequencerAbandon why s).draws = s.draws ∧ (sequencerAbandon why s).pending = s.pending := by
  unfold sequencerAbandon; split <;> simp

@[simp] theorem dropFrame_frame (s : State) :
    (dropFrame s).pxr = s.pxr ∧ (dropFrame s).rme = s.rme ∧ (dropFrame s).mtu = s.mtu ∧ (dropFrame s).lpc = s.lpc ∧
    (dropFrame s).ofq = s.ofq ∧ (dropFrame s).pfs = s.pfs ∧ (dropFrame s).hpb = s.hpb ∧ (dropFrame s).cdu = s.cdu ∧
    (dropFrame s).cml = s.cml ∧ (dropFrame s).draws = s.draws ∧ (dropFrame s).pending = s.pending := by
  unfold dropFrame; split <;> simp

@[simp] theorem haltAbandon_frame (why : AbandonReason) (s : State) :
    (haltAbandon why s).rme = s.rme ∧ (haltAbandon why s).pfs = s.pfs ∧ (haltAbandon why s).hpb = s.hpb ∧ (haltAbandon why s).cml = s.cml ∧
    (haltAbandon why s).draws = s.draws ∧ (haltAbandon why s).pending = s.pending := by
  simp only [haltAbandon]; (repeat' split) <;> simp

@[simp] theorem haltStill_frame (s : State) :
    (haltStill s).pxr = s.pxr ∧ (haltStill s).rme = s.rme ∧ (haltStill s).mtu = s.mtu ∧ (haltStill s).lpc = s.lpc ∧
    (haltStill s).pfs = s.pfs ∧ (haltStill s).hpb = s.hpb ∧ (haltStill s).cml = s.cml ∧ (haltStill s).draws = s.draws ∧
    (haltStill s).pending = s.pending := by
  unfold haltStill; split <;> simp

@[simp] theorem haltFor_frame (why : AbandonReason) (s : State) :
    (haltFor why s).rme = s.rme ∧ (haltFor why s).pfs = s.pfs ∧ (haltFor why s).hpb = s.hpb ∧ (haltFor why s).cml = s.cml ∧
    (haltFor why s).draws = s.draws ∧ (haltFor why s).pending = s.pending := by
  unfold haltFor; split <;> simp

@[simp] theorem haltExit_frame (s : State) :
    (haltExit s).pxr = s.pxr ∧ (haltExit s).phc = s.phc ∧ (haltExit s).rme = s.rme ∧ (haltExit s).mtu = s.mtu ∧
    (haltExit s).lpc = s.lpc ∧ (haltExit s).ofq = s.ofq ∧ (haltExit s).pfs = s.pfs ∧ (haltExit s).hpb = s.hpb ∧
    (haltExit s).cdu = s.cdu ∧ (haltExit s).cml = s.cml ∧ (haltExit s).draws = s.draws ∧ (haltExit s).pending = s.pending := by
  unfold haltExit; split <;> simp

@[simp] theorem examineCutoff_frame (s : State) :
    (examineCutoff s).rme = s.rme ∧ (examineCutoff s).pfs = s.pfs ∧ (examineCutoff s).hpb = s.hpb ∧ (examineCutoff s).cml = s.cml ∧
    (examineCutoff s).draws = s.draws ∧ (examineCutoff s).pending = s.pending := by
  simp only [examineCutoff]; (repeat' split) <;> simp

@[simp] theorem afterTemperature_frame (s : State) :
    (afterTemperature s).rme = s.rme ∧ (afterTemperature s).pfs = s.pfs ∧ (afterTemperature s).hpb = s.hpb ∧ (afterTemperature s).cml = s.cml ∧
    (afterTemperature s).draws = s.draws ∧ (afterTemperature s).pending = s.pending := by
  simp [afterTemperature]

@[simp] theorem endStartUp_frame (s : State) :
    (endStartUp s).phc = s.phc ∧ (endStartUp s).rme = s.rme ∧ (endStartUp s).mtu = s.mtu ∧ (endStartUp s).lpc = s.lpc ∧
    (endStartUp s).ofq = s.ofq ∧ (endStartUp s).pfs = s.pfs ∧ (endStartUp s).hpb = s.hpb ∧ (endStartUp s).cdu = s.cdu ∧
    (endStartUp s).cml = s.cml ∧ (endStartUp s).draws = s.draws ∧ (endStartUp s).pending = s.pending := by
  simp only [endStartUp]; split <;> simp

@[simp] theorem switchExit_frame (s : State) :
    (switchExit s).pxr = s.pxr ∧ (switchExit s).phc = s.phc ∧ (switchExit s).rme = s.rme ∧ (switchExit s).mtu = s.mtu ∧
    (switchExit s).lpc = s.lpc ∧ (switchExit s).ofq = s.ofq ∧ (switchExit s).pfs = s.pfs ∧ (switchExit s).hpb = s.hpb ∧
    (switchExit s).cdu = s.cdu ∧ (switchExit s).cml = s.cml ∧ (switchExit s).draws = s.draws ∧ (switchExit s).pending = s.pending := by
  simp [switchExit]

@[simp] theorem loadCompleted_frame (s : State) :
    (loadCompleted s).phc = s.phc ∧ (loadCompleted s).rme = s.rme ∧ (loadCompleted s).mtu = s.mtu ∧ (loadCompleted s).lpc = s.lpc ∧
    (loadCompleted s).ofq = s.ofq ∧ (loadCompleted s).pfs = s.pfs ∧ (loadCompleted s).hpb = s.hpb ∧ (loadCompleted s).cdu = s.cdu ∧
    (loadCompleted s).cml = s.cml ∧ (loadCompleted s).draws = s.draws ∧ (loadCompleted s).pending = s.pending := by
  unfold loadCompleted; split <;> simp

@[simp] theorem beginLoad_frame (i : Fin 8) (s : State) :
    (beginLoad i s).phc = s.phc ∧ (beginLoad i s).rme = s.rme ∧ (beginLoad i s).mtu = s.mtu ∧ (beginLoad i s).lpc = s.lpc ∧
    (beginLoad i s).ofq = s.ofq ∧ (beginLoad i s).hpb = s.hpb ∧ (beginLoad i s).cml = s.cml ∧ (beginLoad i s).draws = s.draws ∧
    (beginLoad i s).pending = s.pending := by
  unfold beginLoad; split <;> simp

@[simp] theorem startUpProgress_frame (s : State) :
    (startUpProgress s).phc = s.phc ∧ (startUpProgress s).rme = s.rme ∧ (startUpProgress s).mtu = s.mtu ∧ (startUpProgress s).lpc = s.lpc ∧
    (startUpProgress s).ofq = s.ofq ∧ (startUpProgress s).hpb = s.hpb ∧ (startUpProgress s).cml = s.cml ∧ (startUpProgress s).draws = s.draws ∧
    (startUpProgress s).pending = s.pending := by
  simp only [startUpProgress]; (repeat' split) <;> simp

@[simp] theorem takeTarget_frame (t : Target) (s : State) :
    (takeTarget t s).pxr = s.pxr ∧ (takeTarget t s).phc = s.phc ∧ (takeTarget t s).rme = s.rme ∧ (takeTarget t s).mtu = s.mtu ∧
    (takeTarget t s).lpc = s.lpc ∧ (takeTarget t s).ofq = s.ofq ∧ (takeTarget t s).pfs = s.pfs ∧ (takeTarget t s).hpb = s.hpb ∧
    (takeTarget t s).cdu = s.cdu ∧ (takeTarget t s).cml = s.cml ∧ (takeTarget t s).draws = s.draws ∧ (takeTarget t s).pending = s.pending := by
  unfold takeTarget; split <;> simp

@[simp] theorem headChangeReported_frame (k : Fin 12) (s : State) :
    (headChangeReported k s).pxr = s.pxr ∧ (headChangeReported k s).phc = s.phc ∧ (headChangeReported k s).rme = s.rme ∧ (headChangeReported k s).mtu = s.mtu ∧
    (headChangeReported k s).lpc = s.lpc ∧ (headChangeReported k s).ofq = s.ofq ∧ (headChangeReported k s).pfs = s.pfs ∧ (headChangeReported k s).hpb = s.hpb ∧
    (headChangeReported k s).cdu = s.cdu ∧ (headChangeReported k s).cml = s.cml ∧ (headChangeReported k s).draws = s.draws ∧ (headChangeReported k s).pending = s.pending := by
  simp only [headChangeReported]; (repeat' split) <;> simp

@[simp] theorem arrive_frame (q : Request) (s : State) :
    (arrive q s).pxr = s.pxr ∧ (arrive q s).phc = s.phc ∧ (arrive q s).rme = s.rme ∧ (arrive q s).mtu = s.mtu ∧
    (arrive q s).lpc = s.lpc ∧ (arrive q s).csq = s.csq ∧ (arrive q s).ofq = s.ofq ∧ (arrive q s).pfs = s.pfs ∧
    (arrive q s).hpb = s.hpb ∧ (arrive q s).draws = s.draws ∧ (arrive q s).pending = s.pending := by
  unfold arrive; split <;> simp

@[simp] theorem setRx_frame (rx : LinkRx) (s : State) :
    (setRx rx s).pxr = s.pxr ∧ (setRx rx s).phc = s.phc ∧ (setRx rx s).rme = s.rme ∧ (setRx rx s).mtu = s.mtu ∧
    (setRx rx s).lpc = s.lpc ∧ (setRx rx s).csq = s.csq ∧ (setRx rx s).ofq = s.ofq ∧ (setRx rx s).pfs = s.pfs ∧
    (setRx rx s).hpb = s.hpb ∧ (setRx rx s).cdu = s.cdu ∧ (setRx rx s).draws = s.draws ∧ (setRx rx s).pending = s.pending := by
  simp [setRx]

@[simp] theorem composeReply_frame (q : Request) (r : Response) (s : State) :
    (composeReply q r s).pxr = s.pxr ∧ (composeReply q r s).phc = s.phc ∧ (composeReply q r s).rme = s.rme ∧ (composeReply q r s).mtu = s.mtu ∧
    (composeReply q r s).lpc = s.lpc ∧ (composeReply q r s).csq = s.csq ∧ (composeReply q r s).ofq = s.ofq ∧ (composeReply q r s).pfs = s.pfs ∧
    (composeReply q r s).hpb = s.hpb ∧ (composeReply q r s).cdu = s.cdu ∧ (composeReply q r s).draws = s.draws ∧ (composeReply q r s).pending = s.pending := by
  simp [composeReply]

@[simp] theorem pump_frame (s : State) :
    (pump s).pxr = s.pxr ∧ (pump s).phc = s.phc ∧ (pump s).rme = s.rme ∧ (pump s).mtu = s.mtu ∧
    (pump s).lpc = s.lpc ∧ (pump s).csq = s.csq ∧ (pump s).ofq = s.ofq ∧ (pump s).pfs = s.pfs ∧
    (pump s).hpb = s.hpb ∧ (pump s).draws = s.draws ∧ (pump s).pending = s.pending := by
  simp only [pump]; (repeat' split) <;> simp

@[simp] theorem bring_frame (q : Request) (s : State) :
    (bring q s).pxr = s.pxr ∧ (bring q s).phc = s.phc ∧ (bring q s).rme = s.rme ∧ (bring q s).mtu = s.mtu ∧
    (bring q s).lpc = s.lpc ∧ (bring q s).csq = s.csq ∧ (bring q s).ofq = s.ofq ∧ (bring q s).pfs = s.pfs ∧
    (bring q s).hpb = s.hpb ∧ (bring q s).draws = s.draws ∧ (bring q s).pending = s.pending := by
  simp only [bring]; (repeat' split) <;> simp

end Sys2Proof.Machine
end

