-- ==== Sys2Proof/Laws/Link.lean ====
section
/-! SUPPORT. What the link's shared operations do: raising and reporting, pumping, bringing, taking and serving a request. -/

namespace Sys2Proof.Machine

/-! ## Raising and reporting -/

theorem Conditions.edge_eq (c : Conditions) (en : Word16) (src : Source) :
    c.edge en src = c ∨
      c.edge en src =
        { c with latches := withSourceBit c.latches src.number true, noticePending := c.noticePending || c.noticeEn } := by
  unfold Conditions.edge
  split
  · split <;> simp
  · simp

theorem raise_eq_setCdu (src : Source) (s : State) : ∃ c, raise src s = s.setCdu c := ⟨_, rfl⟩

theorem report_eq_setCdu (src : Source) (v : Bool) (s : State) : ∃ c, report src v s = s.setCdu c := ⟨_, rfl⟩

@[simp] theorem Conditions.edge_live (c : Conditions) (en : Word16) (src : Source) : (c.edge en src).live = c.live := by
  rcases c.edge_eq en src with h | h <;> simp [h]

@[simp] theorem Conditions.edge_riseEn (c : Conditions) (en : Word16) (src : Source) :
    (c.edge en src).riseEn = c.riseEn := by
  rcases c.edge_eq en src with h | h <;> simp [h]

@[simp] theorem Conditions.edge_fallEn (c : Conditions) (en : Word16) (src : Source) :
    (c.edge en src).fallEn = c.fallEn := by
  rcases c.edge_eq en src with h | h <;> simp [h]

@[simp] theorem Conditions.edge_noticeEn (c : Conditions) (en : Word16) (src : Source) :
    (c.edge en src).noticeEn = c.noticeEn := by
  rcases c.edge_eq en src with h | h <;> simp [h]

@[simp] theorem Conditions.raise_live (c : Conditions) (src : Source) : (c.raise src).live = c.live := by
  simp [Conditions.raise]

@[simp] theorem Conditions.report_riseEn (c : Conditions) (src : Source) (v : Bool) : (c.report src v).riseEn = c.riseEn := by
  simp only [Conditions.report]; split <;> simp

@[simp] theorem Conditions.report_fallEn (c : Conditions) (src : Source) (v : Bool) : (c.report src v).fallEn = c.fallEn := by
  simp only [Conditions.report]; split <;> simp

@[simp] theorem Conditions.report_noticeEn (c : Conditions) (src : Source) (v : Bool) :
    (c.report src v).noticeEn = c.noticeEn := by
  simp only [Conditions.report]; split <;> simp

/-- A report records the value: what the live set holds afterwards. -/
theorem Conditions.report_live (c : Conditions) (src : Source) (v : Bool) :
    (c.report src v).live = if c.live.getLsbD src.number = v then c.live else withSourceBit c.live src.number v := by
  simp only [Conditions.report]; split <;> simp

/-! ## The transmitter -/

/-- What a pump does: nothing, or the notice or the oldest reply starts to be sent. -/
theorem pump_cases (s : State) :
    pump s = s ∨
      (s.cml.tx = none ∧ s.cdu.noticePending = true ∧
        pump s = (s.setCml { s.cml with tx := some (.notice (noticeFrame s)) }).setCdu
          { s.cdu with noticePending := false }) ∨
      (s.cml.tx = none ∧ s.cdu.noticePending = false ∧ ∃ f b rest, s.cml.replies = (f, b) :: rest ∧
        pump s = s.setCml { s.cml with tx := some (.reply f b), replies := rest }) := by
  unfold pump
  cases htx : s.cml.tx with
  | some _ => simp
  | none =>
    cases hn : s.cdu.noticePending with
    | true => simp
    | false =>
      cases hr : s.cml.replies with
      | nil => simp
      | cons x rest => exact .inr (.inr ⟨rfl, rfl, x.1, x.2, rest, rfl, rfl⟩)

@[simp] theorem outsideLink_setCml (s : State) (l : Link) : outsideLink (s.setCml l) = outsideLink s := rfl

theorem outsideLink_setCdu (s : State) (c : Conditions)
    (h : { c with noticePending := false } = { s.cdu with noticePending := false }) :
    outsideLink (s.setCdu c) = outsideLink s := by
  simp only [outsideLink, State.setCdu_cdu]
  rw [h]; rfl

@[simp] theorem outsideLink_pump (s : State) : outsideLink (pump s) = outsideLink s := by
  rcases pump_cases s with h | ⟨-, -, h⟩ | ⟨-, -, f, b, rest, -, h⟩
  · rw [h]
  · rw [h]; exact outsideLink_setCdu _ _ rfl
  · rw [h]; rfl

@[simp] theorem outsideLink_composeReply (q : Request) (r : Response) (s : State) :
    outsideLink (composeReply q r s) = outsideLink s := rfl

/-- Whatever the transmitter does next, the newest reply is the one just composed. -/
theorem newestReply_composed (q : Request) (r : Response) (s : State) :
    newestReply (pump (composeReply q r s)) = some ⟨replyKind q.kind, r.status.code :: r.data⟩ := by
  rcases pump_cases (composeReply q r s) with h | ⟨-, -, h⟩ | ⟨-, -, f, b, rest, hr, h⟩
  · rw [h]; simp [newestReply, composeReply]
  · rw [h]; simp [newestReply, composeReply]
  · rw [h]
    have hr' : s.cml.replies ++ [(⟨replyKind q.kind, r.status.code :: r.data⟩, q.kind = 0x3F && r.status = .ok)] =
        (f, b) :: rest := by simpa [composeReply] using hr
    cases hs : s.cml.replies with
    | nil =>
      rw [hs] at hr'
      obtain ⟨h1, h2⟩ : _ ∧ [] = rest := by simpa using hr'
      subst h2
      simp [newestReply, ← h1.1]
    | cons x xs =>
      rw [hs, List.cons_append] at hr'
      obtain ⟨-, h2⟩ := List.cons.inj hr'
      subst h2
      simp [newestReply]

/-! ## The bytes and bits of the line (R174) -/

/-- The ten bits of a byte carry that byte. -/
theorem byteOnLine_lineBits (b : Byte) : byteOnLine (lineBits b) = some b := by
  revert b; decide +kernel

/-- The check bytes of a frame are its CRC-16, high byte first. -/
theorem checkBytes_eq (bytes : List Byte) : ∃ hi lo, hi ++ lo = crc16 bytes ∧ checkBytes bytes = [hi, lo] := by
  refine ⟨_, _, ?_, rfl⟩
  apply BitVec.eq_of_getLsbD_eq
  intro k hk
  rw [BitVec.getLsbD_append]
  split
  · simp [*]
  · have h : 8 + (k - 8) = k := by omega
    have h' : k - 8 < 8 := by omega
    simp [h, h']

/-- What the transmit line carries while a frame is being sent. -/
theorem transmitBytes_sending {s : State} {x : Sending} (h : s.cml.tx = some x) :
    transmitBytes s = frameOnLine x.frame.kind x.frame.body := by simp [transmitBytes, h]

/-- An idle transmitter's line carries nothing. -/
theorem transmitBytes_idle {s : State} (h : s.cml.tx = none) : transmitBytes s = [] := by simp [transmitBytes, h]

/-! ## Serving a request -/

/-- A request that will be taken is the next one once brought; bringing it changes the holding area alone. -/
theorem bring_takes {q : Request} {s : State} (h : Takes q s) :
    (bring q s).cml.nextRequest = some q ∧ ∃ hold, bring q s = s.setCml { s.cml with holding := hold } := by
  unfold bring
  split
  · rename_i hq; exact ⟨hq, s.cml.holding, rfl⟩
  · rename_i hq
    rcases h with h | ⟨hrx, hlen, hall, hreset⟩
    · exact absurd h hq
    · simp only [hrx, if_true, arrive, hlen]
      refine ⟨?_, _, rfl⟩
      have hf : s.cml.holding.find? (fun h => !h.taken) = none := by
        rw [List.find?_eq_none]; intro x hx; simp [hall x hx]
      simp [Link.nextRequest, hreset, List.find?_append, hf]

/-- A request that passes the link's examination goes to its owner (R176). -/
theorem examine_eq_owner {q : Request} {owner : State → Answer} {s : State} (hk : knownKind q.kind = true)
    (hl : lengthOk q = true) (hs : startUpEnded s = true ∨ startUpKind q.kind = true) :
    examine q owner s = owner s := by
  unfold examine
  rcases hs with hs | hs <;> simp [hk, hl, hs]

/-- Serving a request that is taken and passes the link's examination: the holding area gains it, its owner answers, the reply
is composed, and the transmitter goes on. -/
theorem serve_eq {q : Request} {owner : State → Answer} {s : State} (h : Takes q s) (hk : knownKind q.kind = true)
    (hl : lengthOk q = true) (hs : startUpEnded s = true ∨ startUpKind q.kind = true) :
    ∃ hold, serve q owner s =
      pump (composeReply q (owner (s.setCml { s.cml with holding := hold })).1
        (owner (s.setCml { s.cml with holding := hold })).2) := by
  obtain ⟨hq, hold, hb⟩ := bring_takes h
  refine ⟨hold, ?_⟩
  have hs' : startUpEnded (s.setCml { s.cml with holding := hold }) = true ∨ startUpKind q.kind = true := hs
  unfold serve
  rw [hb] at hq
  rw [hb]
  simp only [hq, if_true, take, examine_eq_owner hk hl hs']

/-- What serving a request gives, when its owner's answer and effect do not depend on the holding area. -/
theorem serve_answered {q : Request} {owner : State → Answer} {s s' : State} {r : Response} (h : Takes q s)
    (hk : knownKind q.kind = true) (hl : lengthOk q = true) (hs : startUpEnded s = true ∨ startUpKind q.kind = true)
    (ho : ∀ hold, (owner (s.setCml { s.cml with holding := hold })).1 = r ∧
      outsideLink (owner (s.setCml { s.cml with holding := hold })).2 = outsideLink s') :
    Answered q.kind r.status r.data s' (serve q owner s) := by
  obtain ⟨hold, he⟩ := serve_eq (owner := owner) h hk hl hs
  rw [he]
  constructor
  · rw [newestReply_composed, (ho hold).1]; rfl
  · simp [(ho hold).2]

/-- A property that the link and the Condition Unit do not bear on is kept by serving a request, when its owner keeps it. -/
theorem serve_keeps {P : State → Prop} (hl : ∀ s l, P s → P (s.setCml l)) (hc : ∀ s c, P s → P (s.setCdu c))
    {owner : State → Answer} (ho : ∀ s, P s → P (owner s).2) (q : Request) (s : State) (hp : P s) :
    P (serve q owner s) := by
  have hpump : ∀ s, P s → P (pump s) := by
    intro s hp
    rcases pump_cases s with h | ⟨-, -, h⟩ | ⟨-, -, f, b, rest, -, h⟩ <;> rw [h]
    · exact hp
    · exact hc _ _ (hl _ _ hp)
    · exact hl _ _ hp
  have hbring : P (bring q s) := by
    unfold bring arrive raise
    split
    · exact hp
    · split
      · split
        · exact hl _ _ hp
        · exact hc _ _ hp
      · exact hp
  have hex : ∀ s, P s → P (examine q owner s).2 := by
    intro s hp
    unfold examine refuse
    split
    · exact hp
    · split
      · exact hp
      · split
        · exact hp
        · exact ho s hp
  unfold serve
  apply hpump
  split
  · exact hl _ _ (hex _ hbring)
  · exact hbring

/-- A property that the link and the Condition Unit do not bear on is kept by a pump. -/
theorem pump_keeps {P : State → Prop} (hl : ∀ s l, P s → P (s.setCml l)) (hc : ∀ s c, P s → P (s.setCdu c)) (s : State)
    (hp : P s) : P (pump s) := by
  rcases pump_cases s with h | ⟨-, -, h⟩ | ⟨-, -, f, b, rest, -, h⟩ <;> rw [h]
  · exact hp
  · exact hc _ _ (hl _ _ hp)
  · exact hl _ _ hp

end Sys2Proof.Machine
end

