-- ==== Sys2Proof/Laws/Ends.lean ====
section
/-! SUPPORT. What the end of an exposure does, and what raising and reporting do to the latches: the lemmas statements about
events cite. -/

namespace Sys2Proof.Machine

/-! ## Latches -/

theorem Source.number_lt (src : Source) : src.number < 16 := by cases src <;> decide

theorem sourceBit_getLsbD (src : Source) (k : Nat) : (sourceBit src.number).getLsbD k = decide (k = src.number) := by
  by_cases hk : k < 16
  · have h : ∀ k : Fin 16, (sourceBit src.number).getLsbD k = decide (k.val = src.number) := by
      cases src <;> decide
    exact h ⟨k, hk⟩
  · rw [BitVec.getLsbD_of_ge _ _ (by omega)]
    have := src.number_lt
    symm; rw [decide_eq_false_iff_not]; omega

theorem withSourceBit_getLsbD (m : Word16) (src : Source) (v : Bool) (n : Nat) (hn : n < 16) :
    (withSourceBit m src.number v).getLsbD n = if n = src.number then v else m.getLsbD n := by
  have hb := sourceBit_getLsbD src n
  cases v <;> simp only [withSourceBit, if_true, if_false, Bool.false_eq_true, BitVec.getLsbD_or, BitVec.getLsbD_and,
    BitVec.getLsbD_not, hb] <;> by_cases e : n = src.number <;> simp [e, hn, -BitVec.getLsbD_eq_getElem]

theorem Conditions.edge_latched (c : Conditions) (en : Word16) (src : Source) (h : en.getLsbD src.number = true) :
    (c.edge en src).latches.getLsbD src.number = true := by
  unfold Conditions.edge
  simp only [h, if_true]
  split
  · assumption
  · simp [withSourceBit_getLsbD _ _ _ _ src.number_lt]

theorem Conditions.edge_keeps (c : Conditions) (en : Word16) (src : Source) (n : Nat) (h : c.latches.getLsbD n = true) :
    (c.edge en src).latches.getLsbD n = true := by
  rcases c.edge_eq en src with e | e <;> rw [e]
  · exact h
  · rw [withSourceBit_getLsbD _ _ _ _ (BitVec.lt_of_getLsbD h)]; split <;> simp_all

/-- Raising an event whose rising edge is enabled latches it (R169). -/
theorem raise_latched {src : Source} {s : State} (h : s.cdu.riseEn.getLsbD src.number = true) :
    (raise src s).cdu.latches.getLsbD src.number = true := by
  simpa [raise, Conditions.raise] using s.cdu.edge_latched _ _ h

theorem raise_keeps_latch (src : Source) (s : State) {n : Nat} (h : s.cdu.latches.getLsbD n = true) :
    (raise src s).cdu.latches.getLsbD n = true := by
  simpa [raise, Conditions.raise] using s.cdu.edge_keeps _ _ _ h

theorem report_keeps_latch (src : Source) (v : Bool) (s : State) {n : Nat} (h : s.cdu.latches.getLsbD n = true) :
    (report src v s).cdu.latches.getLsbD n = true := by
  simp only [report, Conditions.report, State.setCdu_cdu]
  split
  · exact h
  · exact Conditions.edge_keeps _ _ _ _ h

@[simp] theorem raise_riseEn (src : Source) (s : State) : (raise src s).cdu.riseEn = s.cdu.riseEn := by
  simp [raise, Conditions.raise]

@[simp] theorem report_riseEn (src : Source) (v : Bool) (s : State) : (report src v s).cdu.riseEn = s.cdu.riseEn := by
  simp only [report, Conditions.report, State.setCdu_cdu]; split <;> simp

@[simp] theorem raise_live (src : Source) (s : State) : (raise src s).cdu.live = s.cdu.live := by
  simp [raise]

/-- What a report leaves as the live value of a source (R168). -/
theorem report_live_bit (src : Source) (v : Bool) (s : State) (n : Nat) (hn : n < 16) :
    (report src v s).cdu.live.getLsbD n = if n = src.number then v else s.cdu.live.getLsbD n := by
  simp only [report, State.setCdu_cdu, Conditions.report_live]
  split
  · split <;> simp_all
  · exact withSourceBit_getLsbD _ _ _ _ hn

@[simp] theorem pump_latches (s : State) : (pump s).cdu.latches = s.cdu.latches := by
  rcases pump_cases s with h | ⟨-, -, h⟩ | ⟨-, -, f, b, rest, -, h⟩ <;> simp [h]

@[simp] theorem pump_live (s : State) : (pump s).cdu.live = s.cdu.live := by
  rcases pump_cases s with h | ⟨-, -, h⟩ | ⟨-, -, f, b, rest, -, h⟩ <;> simp [h]

/-! ## Rows and line closes -/

@[simp] theorem handRow_frame (y : Nat) (row : List Nat) (s : State) :
    (handRow y row s).pxr = s.pxr ∧ (handRow y row s).csq = s.csq ∧ (handRow y row s).cdu = s.cdu ∧
      (handRow y row s).lpc = s.lpc := by
  unfold handRow; split <;> simp

@[simp] theorem handRows_frame (y : Nat) (rows : List (List Nat)) (s : State) :
    (handRows y rows s).pxr = s.pxr ∧ (handRows y rows s).csq = s.csq ∧ (handRows y rows s).cdu = s.cdu ∧
      (handRows y rows s).lpc = s.lpc := by
  induction rows generalizing y s with
  | nil => simp [handRows]
  | cons a l ih => simp [handRows, ih]

/-- A closed line leaves the receiver between lines (R10). -/
theorem closeLine_state (s : State) : (closeLine s).pxr.state = .inFrame .between := by
  unfold closeLine
  dsimp only
  split
  · simp [receiveLine]
  · split
    · simp [receiveLine, markRecord]
    · split <;> simp

theorem closeLine_exposure (s : State) : (closeLine s).csq.exposure.isSome = s.csq.exposure.isSome := by
  unfold closeLine
  dsimp only
  split
  · simp [receiveLine]
  · split
    · simp [receiveLine, markRecord]
    · split <;> simp

/-! ## Ends of exposures -/

theorem sequencerAbandoned_exposure (r : ExposureRecord) (why : AbandonReason) (s : State) :
    (sequencerAbandoned r why s).csq.exposure = s.csq.exposure ∧
      (sequencerAbandoned r why s).csq.lastEnded = s.csq.lastEnded := by
  unfold sequencerAbandoned
  split <;> simp only [stillAbandoned]
  · simp
  · (repeat' split) <;> simp [leaveStill, enter, failActive, dropActive]
  · simp

theorem sequencerAbandoned_riseEn (r : ExposureRecord) (why : AbandonReason) (s : State) :
    (sequencerAbandoned r why s).cdu.riseEn = s.cdu.riseEn := by
  unfold sequencerAbandoned
  split <;> simp only [stillAbandoned]
  · simp
  · (repeat' split) <;> simp [leaveStill, enter, failActive, dropActive]

/-- What an abandonment does to the receiver, the record, the measurement and SENSOR_FAULT (R12, R14, R16, R17). -/
theorem abandonExposure_spec {why : AbandonReason} {next : ReceiverState} {s : State} {r : ExposureRecord}
    (h : s.csq.exposure = some r) :
    (abandonExposure why next s).pxr = s.pxr.finish next ∧
    (abandonExposure why next s).csq.exposure = none ∧
    (abandonExposure why next s).csq.lastEnded =
      some { r with state := .abandoned, patchedLines := s.pxr.patched, reason := some why } ∧
    (abandonExposure why next s).mtu.measurement = none ∧
    (s.cdu.riseEn.getLsbD 8 = true → (abandonExposure why next s).cdu.latches.getLsbD 8 = true) := by
  unfold abandonExposure
  simp only [h]
  refine ⟨by simp, by simp [sequencerAbandoned_exposure], by simp [sequencerAbandoned_exposure],
    by simp [meteringAbandoned], fun hr => ?_⟩
  exact raise_latched (src := .sensorFault) (by rw [sequencerAbandoned_riseEn]; simpa [Source.number] using hr)

theorem sequencerCompleted_exposure (r : ExposureRecord) (s : State) :
    (sequencerCompleted r s).csq.exposure = s.csq.exposure ∧
      (sequencerCompleted r s).csq.lastEnded = s.csq.lastEnded := by
  unfold sequencerCompleted
  split
  · unfold streamCompleted; split <;> simp
  · simp only [stillCompleted]; (repeat' split) <;> simp
  · simp

theorem meteringCompleted_measurement (s : State) : (meteringCompleted s).mtu.measurement = none := by
  unfold meteringCompleted; split <;> simp [*]

@[simp] theorem meteringCompleted_riseEn (s : State) : (meteringCompleted s).cdu.riseEn = s.cdu.riseEn := by
  unfold meteringCompleted; split <;> simp [takeZones, reportUnderlit, reportZones]

/-- What a completion does to the receiver, the record, the measurement and SENSOR_FAULT (R12, R17). -/
theorem completeExposure_spec {s : State} {r : ExposureRecord} (h : s.csq.exposure = some r) :
    (completeExposure s).pxr = s.pxr.finish .idle ∧
    (completeExposure s).csq.exposure = none ∧
    (completeExposure s).csq.lastEnded = some { r with state := .complete, patchedLines := s.pxr.patched } ∧
    (completeExposure s).mtu.measurement = none ∧
    (s.cdu.riseEn.getLsbD 8 = true → 0 < s.pxr.patched → (completeExposure s).cdu.latches.getLsbD 8 = true) := by
  unfold completeExposure
  simp only [h]
  refine ⟨by split <;> simp, by split <;> simp [sequencerCompleted_exposure],
    by split <;> simp [sequencerCompleted_exposure], by split <;> simp [meteringCompleted_measurement], fun hr hp => ?_⟩
  simp only [hp, if_true]
  exact raise_latched (src := .sensorFault) (by simpa [Source.number] using hr)

/-! ## Halts -/

/-- What an abandonment leaves of the corrector's buffers and accumulators (R31, R35). -/
theorem photometricEnd_abandoned (r : ExposureRecord) (s : State) :
    (photometricEnd r false s).phc.finalise = s.phc.finalise ∧
    (∀ b role id, r.kind = .lit b → r.purpose = .stream → r.assigned = some (role, id) →
      ((photometricEnd r false s).phc.lin id).content = .empty) ∧
    (∀ id, (photometricEnd r false s).phc.lin id = s.phc.lin id ∨
      ((∃ role, r.assigned = some (role, id)) ∧ (photometricEnd r false s).phc.lin id = LinearBuffer.blank)) ∧
    ∀ b, ((photometricEnd r false s).phc.acc b = s.phc.acc b ∧ ∀ tag, ¬(r.kind = .lit b ∧ r.purpose = .still tag)) ∨
      (photometricEnd r false s).phc.acc b = (s.phc.acc b).endMark false := by
  unfold photometricEnd
  split
  · refine ⟨by simp [Photometric.darkEnd], by simp_all, fun id => .inl (by cases id <;> rfl),
      fun b => .inl ⟨by cases b <;> rfl, by simp_all⟩⟩
  · rename_i bank tag hk hp
    refine ⟨by cases bank <;> rfl, by simp_all, fun id => .inl (by cases id <;> cases bank <;> rfl), fun b => ?_⟩
    cases b <;> cases bank <;> simp [Photometric.setAcc, Photometric.acc, hk, hp]
  · rename_i bank role id hn ha hx
    refine ⟨by cases id <;> rfl, ?_, fun j => ?_,
      fun b => .inl ⟨by cases id <;> cases b <;> rfl, fun tag ht => hx tag ht.2⟩⟩
    · intro _ _ j _ _ hj
      have e := ha.symm.trans hj
      simp only [Option.some.injEq, Prod.mk.injEq] at e
      obtain ⟨rfl, rfl⟩ := e
      cases id <;> simp [Photometric.setLin, Photometric.lin, LinearBuffer.endMark, LinearBuffer.blank]
    · cases j <;> cases id <;> simp [Photometric.setLin, Photometric.lin, LinearBuffer.endMark, ha]
  · simp_all

/-- The exposure a halt abandons (R16, R117). -/
theorem haltAbandon_eq {reason : AbandonReason} {s : State} {r : ExposureRecord} (h : s.csq.exposure = some r)
    (hr : reason = .headLost ∨ reason = .lampCutoff) (hk : reason = .headLost ∨ r.kind ≠ .dark) :
    let r' := { r with state := .abandoned, patchedLines := s.pxr.patched, reason := some reason }
    let t := haltAbandon reason s
    t.pxr = s.pxr.finish (abandonedState s.pxr.state) ∧
    t.csq = { s.csq with
      exposure := none, lastEnded := some r', frame := if r.purpose = .stream then none else s.csq.frame } ∧
    t.phc = (photometricEnd r' false s).phc ∧ t.ofq = s.ofq ∧ t.rme = s.rme ∧ t.mtu.measurement = none ∧
    t.lpc = { s.lpc with lit := none } ∧ t.cdu = s.cdu.raise .sensorFault := by
  intro r' t
  have hs : ∀ (u : State), sequencerAbandoned r' reason u =
      if r.purpose = .stream then u.setCsq { u.csq with frame := none } else u := by
    intro u
    unfold sequencerAbandoned stillAbandoned
    cases hp : r.purpose <;> simp only [reduceCtorEq, if_true, if_false]
    split
    · rw [if_neg]; rcases hr with rfl | rfl <;> simp
    · rfl
  have ht : t = abandonExposure reason (abandonedState s.pxr.state) (lampOff s) := by
    simp only [t, haltAbandon, h, if_pos hk, sequencerAbandon]; simp
  have hphc : ∀ u : State, u.phc = s.phc → (photometricEnd r' false u).phc = (photometricEnd r' false s).phc := by
    intro u hu; unfold photometricEnd; split <;> simp [hu]
  have hl : (lampOff s).csq.exposure = some r := by simp [h]
  have he : t = raise .sensorFault (sequencerAbandoned r' reason (meteringAbandoned (photometricEnd r' false
      (((lampOff s).setPxr ((lampOff s).pxr.finish (abandonedState s.pxr.state))).setCsq
        { (lampOff s).csq with exposure := none, lastEnded := some r' })))) := by
    rw [ht, abandonExposure, hl]; simp [r', lampOff]
  rw [he]
  rw [hs]
  by_cases hp : r.purpose = .stream <;>
    simp only [hp, if_true, if_false, raise, meteringAbandoned, photometricEnd_frame, State.setCdu_pxr, State.setCdu_csq,
      State.setCdu_phc, State.setCdu_ofq, State.setCdu_rme, State.setCdu_mtu, State.setCdu_lpc, State.setCdu_cdu,
      State.setCsq_pxr, State.setCsq_csq, State.setCsq_phc, State.setCsq_ofq, State.setCsq_rme, State.setCsq_mtu,
      State.setCsq_lpc, State.setCsq_cdu, State.setMtu_pxr, State.setMtu_csq, State.setMtu_phc, State.setMtu_ofq,
      State.setMtu_rme, State.setMtu_mtu, State.setMtu_lpc, State.setMtu_cdu] <;>
    refine ⟨by simp, by simp [r', lampOff], hphc _ (by simp [lampOff]), by simp [lampOff], by simp [lampOff], trivial,
      by simp [lampOff], by simp [lampOff]⟩

/-- What a discarded stream frame leaves (R117). -/
theorem dropFrame_spec (s : State) :
    (dropFrame s).csq = { s.csq with frame := none } ∧ (dropFrame s).phc.finalise = s.phc.finalise ∧
    (∀ b, (dropFrame s).phc.acc b = s.phc.acc b) ∧
    (∀ id, (∀ f, s.csq.frame = some f → f.buffer ≠ id) → (dropFrame s).phc.lin id = s.phc.lin id) ∧
    ∀ id, (s.phc.lin id).content = .half ∨ (s.phc.lin id).content = .empty →
      (∃ f, s.csq.frame = some f ∧ f.buffer = id) → ((dropFrame s).phc.lin id).content = .empty := by
  unfold dropFrame releaseBuffer
  split
  · rename_i f hf
    refine ⟨by simp, by cases f.buffer <;> rfl, fun b => by cases f.buffer <;> cases b <;> rfl, fun id hid => ?_, ?_⟩
    · have hne := hid f hf
      cases e : f.buffer <;> cases id <;> first | exact absurd e hne | rfl
    · rintro id hc ⟨g, hg, rfl⟩
      obtain rfl : f = g := by simpa [hf] using hg
      cases e : f.buffer <;> rw [e] at hc <;> rcases hc with hc | hc <;>
        simp_all [Photometric.lin, Photometric.setLin, LinearBuffer.release, LinearBuffer.blank]
  · rename_i hf
    refine ⟨?_, rfl, fun _ => rfl, fun _ _ => rfl, fun id _ ⟨g, hg, _⟩ => by simp [hf] at hg⟩
    cases s with | mk => rename_i c _ _ _ _ _ _ _; cases c; simp_all

/-- What a failed active still leaves (R36, R117). -/
theorem haltStill_spec (s : State) :
    (haltStill s).csq = { s.csq with active := none } ∧ (haltStill s).phc.finalise = s.phc.finalise ∧
    (∀ id, (haltStill s).phc.lin id = s.phc.lin id) ∧
    (∀ a, s.csq.active = some a → (haltStill s).ofq = s.ofq.free a.slot ∧
      (haltStill s).cdu = s.cdu.raise .stillFailed ∧ ∀ b, (haltStill s).phc.acc b = (s.phc.acc b).release) ∧
    (s.csq.active = none → haltStill s = s) := by
  unfold haltStill
  split
  · rename_i a ha
    refine ⟨by simp [failActive, dropActive], by simp [failActive, dropActive, releaseAccumulators, freeSlot, raise],
      fun id => by cases id <;> rfl, fun c hc => ?_, by simp [ha]⟩
    obtain rfl : a = c := by simpa [ha] using hc
    exact ⟨by simp [failActive, dropActive, raise, freeSlot, releaseAccumulators], by simp [failActive, dropActive, raise],
      fun b => by cases b <;> rfl⟩
  · rename_i ha
    refine ⟨?_, rfl, fun _ => rfl, by simp [ha], fun _ => rfl⟩
    cases s with | mk => rename_i c _ _ _ _ _ _ _; cases c; simp_all

/-- A halt cause outside STARTING does what R117 gives. -/
theorem haltFor_arises {reason : AbandonReason} {s : State} (h : s.csq.state ≠ .starting)
    (hr : reason = .headLost ∨ reason = .lampCutoff) : HaltArises reason s (haltFor reason s) := by
  refine ⟨fun hs => by simp [haltFor, hs], fun hs => ?_⟩
  have e : haltFor reason s = enter .halt (haltStill (dropFrame (haltAbandon reason s))) := by
    unfold haltFor; split <;> simp_all
  rw [e]
  generalize hu : haltAbandon reason s = u
  obtain ⟨d1, d2, d3, d4, d5⟩ := dropFrame_spec u
  obtain ⟨c1, c2, c3, c4, c5⟩ := haltStill_spec (dropFrame u)
  have hcsq : (haltStill (dropFrame u)).csq = { u.csq with frame := none, active := none } := by rw [c1, d1]
  have hact : (dropFrame u).csq.active = u.csq.active := by rw [d1]
  have freed : ∀ {o p : Output} {i : Fin 4}, o = p.free i → o.slots[i].state = .free := by
    rintro _ p i rfl; simp [Output.free, Slot.blank]
  by_cases hab : ∃ r, s.csq.exposure = some r ∧ (reason = .headLost ∨ r.kind ≠ .dark)
  · obtain ⟨r, hx, hk⟩ := hab
    obtain ⟨a1, a2, a3, a4, a5, a6, a7, a8⟩ := haltAbandon_eq hx hr hk
    rw [hu] at a1 a2 a3 a4 a5 a6 a7 a8
    obtain ⟨p1, p2, p3, p4⟩ := photometricEnd_abandoned
      { r with state := .abandoned, patchedLines := s.pxr.patched, reason := some reason } s
    rw [← a3] at p1 p2 p3 p4
    have ua : u.csq.active = s.csq.active := by rw [a2]
    have uf : u.csq.frame = if r.purpose = .stream then none else s.csq.frame := by rw [a2]
    simp only [enter, State.setCsq_csq, State.setCsq_phc, State.setCsq_pxr, State.setCsq_ofq, State.setCsq_rme,
      State.setCsq_mtu, State.setCsq_lpc, State.setCsq_cdu, hcsq, c2, d2, p1, haltStill_frame, dropFrame_frame, a1, a2, a5,
      a6, a7, c3, hx, Option.some.injEq, reduceCtorEq, false_imp_iff, true_and, forall_eq', hk, forall_const]
    refine ⟨fun h1 h2 => absurd hk (by simp [h1, h2]), ⟨?_, fun hl => ?_, fun b role id hb hp ha => ?_⟩,
      fun f hf hp hc => ?_, fun id h1 h2 => ?_, fun ha => ?_, fun a ha => ?_⟩
    · cases hs' : s.pxr.state <;> simp [Receiver.finish, abandonedState]
    · cases hA : u.csq.active with
      | none => rw [c5 (hact.trans hA)]; simp only [dropFrame_frame, a8]; exact Conditions.edge_latched _ _ _ hl
      | some a =>
        rw [(c4 a (hact.trans hA)).2.1]; simp only [dropFrame_frame, a8]
        exact Conditions.edge_keeps _ _ _ _ (Conditions.edge_latched _ _ _ hl)
    · rw [d4 id (by simp [uf, hp])]; exact p2 b role id hb hp ha
    · rw [if_neg hp] at uf
      refine d5 f.buffer ?_ ⟨f, uf.trans hf, rfl⟩
      rcases p3 f.buffer with q | ⟨-, q⟩ <;> rw [q]
      · exact .inl hc
      · exact .inr rfl
    · rw [d4 id (by rw [uf]; split <;> simp_all)]
      rcases p3 id with q | ⟨⟨role, hq⟩, -⟩
      · exact q
      · exact absurd hq (h2 r role rfl)
    · rw [c5 (hact.trans (ua.trans ha))]; simp [a4]
    · obtain ⟨q1, q2, q3⟩ := c4 a (hact.trans (ua.trans ha))
      refine ⟨freed (p := s.ofq) (q1.trans (by simp [a4])), fun hl => ?_, fun b hb => ?_⟩
      · rw [q2]; simp only [dropFrame_frame, a8]
        exact Conditions.edge_latched _ _ _ (by simpa only [Conditions.raise, Conditions.edge_riseEn, Source.number] using hl)
      · rw [q3, d3]
        have hb' : (s.phc.acc b).state = .receiving → ∃ tag, r.kind = .lit b ∧ r.purpose = .still tag := by
          rcases hb with hb | hb | ⟨-, _, tag, rfl, k1, k2⟩
          · simp [hb]
          · simp [hb]
          · exact fun _ => ⟨tag, k1, k2⟩
        rcases p4 b with ⟨q, k⟩ | q <;> rw [q]
        · rcases hb with hb | hb | ⟨hb, -⟩
          · simp [Accumulator.release, hb, Accumulator.blank]
          · simp [Accumulator.release, hb, Accumulator.blank]
          · obtain ⟨tag, hk'⟩ := hb' hb; exact absurd hk' (k tag)
        · rcases hb with hb | hb | ⟨hb, -⟩ <;> simp [Accumulator.release, Accumulator.endMark, hb, Accumulator.blank]
  · have us : u = s := by
      rw [← hu]; unfold haltAbandon
      split
      · rename_i r hx; rw [if_neg fun hk => hab ⟨r, hx, hk⟩]
      · rfl
    subst us
    simp only [enter, State.setCsq_csq, State.setCsq_phc, State.setCsq_pxr, State.setCsq_ofq, State.setCsq_rme,
      State.setCsq_mtu, State.setCsq_lpc, State.setCsq_cdu, hcsq, c2, d2, haltStill_frame, dropFrame_frame, c3, true_and]
    refine ⟨fun hx => ⟨hx, trivial⟩, fun r hx _ _ => ⟨hx, trivial⟩, fun r hx hk => absurd ⟨r, hx, hk⟩ hab,
      fun f hf hp hc => d5 _ (.inl hc) ⟨f, hf, rfl⟩, fun id h1 h2 => d4 id h1, fun ha => ?_, fun a ha => ?_⟩
    · rw [c5 (hact.trans ha)]; simp
    · obtain ⟨q1, q2, q3⟩ := c4 a (hact.trans ha)
      refine ⟨freed q1, fun hl => ?_, fun b hb => ?_⟩
      · rw [q2]; simp only [dropFrame_frame]; exact Conditions.edge_latched _ _ _ hl
      · rw [q3, d3]
        rcases hb with hb | hb | ⟨-, r, tag, hx, hk, -⟩
        · simp [Accumulator.release, hb, Accumulator.blank]
        · simp [Accumulator.release, hb, Accumulator.blank]
        · exact absurd ⟨r, hx, .inr (by simp [hk])⟩ hab

/-- A halt is told of states that agree on what it speaks of. -/
theorem HaltArises.congr {reason : AbandonReason} {s t s' t' : State} (h : HaltArises reason s t)
    (hs : s'.csq = s.csq ∧ s'.pxr = s.pxr ∧ s'.phc = s.phc ∧ s'.ofq = s.ofq ∧ s'.rme = s.rme ∧ s'.cdu.riseEn = s.cdu.riseEn)
    (ht : t'.csq = t.csq ∧ t'.pxr = t.pxr ∧ t'.phc = t.phc ∧ t'.ofq = t.ofq ∧ t'.rme = t.rme ∧
      t'.mtu.measurement = t.mtu.measurement ∧ t'.lpc.lit = t.lpc.lit ∧
      ∀ n, t.cdu.latches.getLsbD n = true → t'.cdu.latches.getLsbD n = true) : HaltArises reason s' t' := by
  obtain ⟨s1, s2, s3, s4, s5, s6⟩ := hs
  obtain ⟨t1, t2, t3, t4, t5, t6, t7, t8⟩ := ht
  simp only [HaltArises, s1, s2, s3, s4, s5, s6, t1, t2, t3, t4, t5, t6, t7] at h ⊢
  refine ⟨h.1, fun hs => ?_⟩
  obtain ⟨a1, a2, a3, a4, a5, a6, a7, a8, a9, a10, a11, a12, a13, a14, a15, a16, a17, a18⟩ := h.2 hs
  exact ⟨a1, a2, a3, a4, a5, a6, a7, a8, a9, a10, a11, a12, a13,
    fun r hx hk => (a14 r hx hk).imp id fun q => ⟨q.1, q.2.1, q.2.2.1, q.2.2.2.1, fun hl => t8 8 (q.2.2.2.2.1 hl), q.2.2.2.2.2⟩,
    a15, a16, a17, fun a ha => ⟨(a18 a ha).1, fun hl => t8 11 ((a18 a ha).2.1 hl), (a18 a ha).2.2⟩⟩

/-! ## Stored profiles -/

/-- The first bytes of a slot written with `bytes` and more are `bytes`. -/
theorem slotBytes_append (bytes more : List Byte) : slotBytes (bytes ++ more) bytes.length = bytes := by
  apply List.ext_getElem
  · simp [slotBytes]
  · intro k h _
    have hk : k < bytes.length := by simpa [slotBytes] using h
    simp [slotBytes, List.getElem?_append_left hk, List.getElem?_eq_getElem hk]

/-- The four bytes of a 32-bit value give it back. -/
theorem fromLe_word32Bytes (w : Word32) : fromLe (word32Bytes w) = w.toNat := by
  have h := w.isLt
  simp only [word32Bytes, le32, byte, fromLe, BitVec.toNat_ofNat]
  omega

/-- The check value stored after some bytes is the value written there. -/
theorem storedCheck_append (bytes : List Byte) (w : Word32) :
    storedCheck (bytes ++ word32Bytes w) bytes.length = w := by
  have h : (List.range 4).map (fun i => (bytes ++ word32Bytes w).getD (bytes.length + i) Config.erasedByte)
      = word32Bytes w := by
    simp [List.range_succ, word32Bytes, le32]
  rw [storedCheck, h, fromLe_word32Bytes, BitVec.ofNat_toNat, BitVec.setWidth_eq]

/-! ## Loads and start-up -/

/-- The model's halt cause is R117's. -/
theorem haltCause_iff (s : State) : haltCause s = true ↔ HaltCauseHolds s := by
  unfold haltCause headPresent HaltCauseHolds
  cases h : s.hpb.adopted with
  | none => simp
  | some c => cases c <;> simp

/-- Halt causes hold alike where the adopted state and cutoff agree. -/
theorem HaltCauseHolds.congr {s t : State} (ha : t.hpb.adopted = s.hpb.adopted) (hc : t.lpc.cutoff = s.lpc.cutoff) :
    HaltCauseHolds t ↔ HaltCauseHolds s := by
  simp only [HaltCauseHolds, ha, hc]

/-- All that leaving SWITCH-LOAD does (R115). -/
theorem switchExit_left (s : State) : SwitchLeft s.csq.switchTarget s (switchExit s) := by
  have hc := haltCause_iff s
  have hx : HaltCauseHolds (switchExit s) ↔ HaltCauseHolds s := HaltCauseHolds.congr rfl rfl
  refine ⟨rfl, rfl, ?_, fun hl hh => ?_, fun hl => ?_, rfl, rfl⟩
  · cases h : s.csq.nextTarget <;> simp [switchExit, h]
  · simp [switchExit, hl, hc.2 (hx.1 hh)]
  · have hn : (s.csq.loadHalt && haltCause s) = false := by
      rcases hl with hl | hl
      · simp [hl]
      · rw [hx, ← hc] at hl; simp [hl]
    simp only [switchExit, hn, runOrIdle, State.setCsq_csq]
    cases s.csq.nextTarget <;> cases s.csq.switchTarget <;> simp

/-- All that the end of start-up does (R95). -/
theorem endStartUp_ends (s : State) : StartUpEnds s (endStartUp s) := by
  have hc := haltCause_iff s
  have hx : HaltCauseHolds (endStartUp s) ↔ HaltCauseHolds s := HaltCauseHolds.congr (by simp) (by simp)
  have hs : (endStartUp s).csq.state =
      if haltCause s = true then .halt else if (endStartUp s).csq.streamRequested = true then .run else .idle := by
    unfold endStartUp; cases ha : s.csq.autostart <;> simp [ha, enter, runOrIdle, haltCause, headPresent]
  refine ⟨?_, ?_, fun r hr => by unfold endStartUp; simp [enter, hr], fun hr => by unfold endStartUp; simp [enter, hr],
    fun h => by rw [hs, if_pos (hc.2 (hx.1 h))], fun h => by rw [hs, if_neg fun c => h (hx.2 (hc.1 c))], by simp⟩ <;>
    (unfold endStartUp; cases ha : s.csq.autostart <;> simp [ha, enter])

/-- A verify pass that finds contents that do not give their check value fails the load: the slot is CORRUPT, its protection as it
was, and the sequencer is told (R147). -/
theorem endVerify_fails {i : Fin 8} {lost : LostCells} {s : State} {h : StoredHeader}
    (hh : s.pfs.directory[i].header = some h)
    (hc : crc32 (slotBytes (loseCells s.pfs.slots[i].bytes lost) h.length) ≠
      storedCheck (loseCells s.pfs.slots[i].bytes lost) h.length) :
    endVerify i lost s = loadCompleted (storeFailed .corrupt (s.setPfs
      (({ s.pfs with slots := s.pfs.slots.set i { s.pfs.slots[i] with bytes := loseCells s.pfs.slots[i].bytes lost } } :
        Store).setRecord i (corruptRecord s.pfs.directory[i].guarded)))) := by
  simp only [endVerify, State.setPfs_pfs, verifiedHeader, hh, if_neg hc]; rfl

end Sys2Proof.Machine
end

