-- ==== Sys2Proof/Laws/PerInstr.lean ====
section
/-! SUPPORT. Statements about every command, one lemma for each constructor of Instr: WellFormedBody, that the request a
well-formed command stands for fits in a frame of the link. -/

namespace Sys2Proof.Laws

open Machine

/-- The request that a well-formed command stands for has a body a frame can carry: at most 240 bytes (R174). -/
def WellFormedBody.Statement (i : Instr) : Prop :=
  i.wellFormed = true → ∀ q, requestOf i = some q → q.body.length ≤ 240

/-- A command that stands for no request. -/
theorem wellFormedBody_none {i : Instr} (h : requestOf i = none) : WellFormedBody.Statement i := by
  intro _ q hq; simp [h] at hq

/-- A command that stands for a request whose body is a well-formed one. -/
theorem wellFormedBody_some {i : Instr} {q : Request} (h : requestOf i = some q)
    (hb : i.wellFormed = true → q.body.length ≤ 240) : WellFormedBody.Statement i := by
  intro hw q' hq
  rw [h] at hq
  cases hq
  exact hb hw

theorem bodyOk_le {body : List Byte} (h : bodyOk body = true) : body.length ≤ 240 := of_decide_eq_true h

theorem psetRequest_le (p : Param) (bank style : Byte) (v : Word32) :
    (psetRequest p bank style (word32Bytes v)).body.length ≤ 240 := by
  simp [psetRequest, word32Bytes, le32]

theorem WellFormedBody.fullReset : WellFormedBody.Statement (.fullReset) := wellFormedBody_none rfl

theorem WellFormedBody.startupScanDone : WellFormedBody.Statement (.startupScanDone) := wellFormedBody_none rfl

theorem WellFormedBody.trigger : WellFormedBody.Statement (.trigger) := wellFormedBody_none rfl

theorem WellFormedBody.exposureEnd : WellFormedBody.Statement (.exposureEnd) := wellFormedBody_none rfl

theorem WellFormedBody.frameOpen : WellFormedBody.Statement (.frameOpen) := wellFormedBody_none rfl

theorem WellFormedBody.lineOpen : WellFormedBody.Statement (.lineOpen) := wellFormedBody_none rfl

theorem WellFormedBody.pixelWord (word : Word16) : WellFormedBody.Statement (.pixelWord word) := wellFormedBody_none rfl

theorem WellFormedBody.lineClose : WellFormedBody.Statement (.lineClose) := wellFormedBody_none rfl

theorem WellFormedBody.frameClose : WellFormedBody.Statement (.frameClose) := wellFormedBody_none rfl

theorem WellFormedBody.readoutTimeout : WellFormedBody.Statement (.readoutTimeout) := wellFormedBody_none rfl

theorem WellFormedBody.intervalExpiry : WellFormedBody.Statement (.intervalExpiry) := wellFormedBody_none rfl

theorem WellFormedBody.foldComplete (bank : Bank) : WellFormedBody.Statement (.foldComplete bank) := wellFormedBody_none rfl

theorem WellFormedBody.stillStart : WellFormedBody.Statement (.stillStart) := wellFormedBody_none rfl

theorem WellFormedBody.finaliseStart : WellFormedBody.Statement (.finaliseStart) := wellFormedBody_none rfl

theorem WellFormedBody.finaliseComplete : WellFormedBody.Statement (.finaliseComplete) := wellFormedBody_none rfl

theorem WellFormedBody.renderStart : WellFormedBody.Statement (.renderStart) := wellFormedBody_none rfl

theorem WellFormedBody.renderComplete : WellFormedBody.Statement (.renderComplete) := wellFormedBody_none rfl

theorem WellFormedBody.sendStart : WellFormedBody.Statement (.sendStart) := wellFormedBody_none rfl

theorem WellFormedBody.sendPeriodExpiry : WellFormedBody.Statement (.sendPeriodExpiry) := wellFormedBody_none rfl

theorem WellFormedBody.sendComplete : WellFormedBody.Statement (.sendComplete) := wellFormedBody_none rfl

theorem WellFormedBody.switchDrain : WellFormedBody.Statement (.switchDrain) := wellFormedBody_none rfl

theorem WellFormedBody.switchLoad : WellFormedBody.Statement (.switchLoad) := wellFormedBody_none rfl

theorem WellFormedBody.verifyPassDone (lost : LostCells) : WellFormedBody.Statement (.verifyPassDone lost) := wellFormedBody_none rfl

theorem WellFormedBody.copyPassDone : WellFormedBody.Statement (.copyPassDone) := wellFormedBody_none rfl

theorem WellFormedBody.saveEraseDone : WellFormedBody.Statement (.saveEraseDone) := wellFormedBody_none rfl

theorem WellFormedBody.saveProgramDone (lost : LostCells) : WellFormedBody.Statement (.saveProgramDone lost) := wellFormedBody_none rfl

theorem WellFormedBody.eraseDone (lost : LostCells) : WellFormedBody.Statement (.eraseDone lost) := wellFormedBody_none rfl

theorem WellFormedBody.eraseAllSlotDone (lost : LostCells) : WellFormedBody.Statement (.eraseAllSlotDone lost) := wellFormedBody_none rfl

theorem WellFormedBody.bootWriteEraseDone : WellFormedBody.Statement (.bootWriteEraseDone) := wellFormedBody_none rfl

theorem WellFormedBody.bootWriteProgramDone (lost : LostCells)
    : WellFormedBody.Statement (.bootWriteProgramDone lost) := wellFormedBody_none rfl

theorem WellFormedBody.probePeriodExpiry : WellFormedBody.Statement (.probePeriodExpiry) := wellFormedBody_none rfl

theorem WellFormedBody.idConversionDone (code : Nat) : WellFormedBody.Statement (.idConversionDone code) := wellFormedBody_none rfl

theorem WellFormedBody.tempConversionDone (code : Nat) : WellFormedBody.Statement (.tempConversionDone code) := wellFormedBody_none rfl

theorem WellFormedBody.frameReceived (bytes : List Byte) : WellFormedBody.Statement (.frameReceived bytes) := wellFormedBody_none rfl

theorem WellFormedBody.byteGapTimeout : WellFormedBody.Statement (.byteGapTimeout) := wellFormedBody_none rfl

theorem WellFormedBody.frameSent : WellFormedBody.Statement (.frameSent) := wellFormedBody_none rfl

theorem WellFormedBody.badKind (kind : Byte) (body : List Byte) : WellFormedBody.Statement (.badKind kind body) :=
  wellFormedBody_some rfl fun h => bodyOk_le (Bool.and_elim_right h)

theorem WellFormedBody.idnt (body : List Byte) : WellFormedBody.Statement (.idnt body) := wellFormedBody_some rfl bodyOk_le

theorem WellFormedBody.stat (body : List Byte) : WellFormedBody.Statement (.stat body) := wellFormedBody_some rfl bodyOk_le

theorem WellFormedBody.pget (body : List Byte) : WellFormedBody.Statement (.pget body) := wellFormedBody_some rfl bodyOk_le

theorem WellFormedBody.pset (body : List Byte) : WellFormedBody.Statement (.pset body) :=
  wellFormedBody_some rfl fun h => bodyOk_le (Bool.and_elim_left h)

theorem WellFormedBody.psetLevel (bank style : Byte) (value : Word32)
    : WellFormedBody.Statement (.psetLevel bank style value) := wellFormedBody_some rfl fun _ => psetRequest_le _ _ _ _

theorem WellFormedBody.psetMin (bank style : Byte) (value : Word32)
    : WellFormedBody.Statement (.psetMin bank style value) := wellFormedBody_some rfl fun _ => psetRequest_le _ _ _ _

theorem WellFormedBody.psetMax (bank style : Byte) (value : Word32)
    : WellFormedBody.Statement (.psetMax bank style value) := wellFormedBody_some rfl fun _ => psetRequest_le _ _ _ _

theorem WellFormedBody.psetExpo (bank style : Byte) (value : Word32)
    : WellFormedBody.Statement (.psetExpo bank style value) := wellFormedBody_some rfl fun _ => psetRequest_le _ _ _ _

theorem WellFormedBody.psetMode (bank style : Byte) (value : Word32)
    : WellFormedBody.Statement (.psetMode bank style value) := wellFormedBody_some rfl fun _ => psetRequest_le _ _ _ _

theorem WellFormedBody.psetSteer (bank style : Byte) (value : Word32)
    : WellFormedBody.Statement (.psetSteer bank style value) := wellFormedBody_some rfl fun _ => psetRequest_le _ _ _ _

theorem WellFormedBody.psetCeiling (bank style : Byte) (value : Word32)
    : WellFormedBody.Statement (.psetCeiling bank style value) := wellFormedBody_some rfl fun _ => psetRequest_le _ _ _ _

theorem WellFormedBody.psetDerateStart (bank style : Byte) (value : Word32)
    : WellFormedBody.Statement (.psetDerateStart bank style value) := wellFormedBody_some rfl fun _ => psetRequest_le _ _ _ _

theorem WellFormedBody.psetCutoff (bank style : Byte) (value : Word32)
    : WellFormedBody.Statement (.psetCutoff bank style value) := wellFormedBody_some rfl fun _ => psetRequest_le _ _ _ _

theorem WellFormedBody.psetSendMode (bank style : Byte) (value : Word32)
    : WellFormedBody.Statement (.psetSendMode bank style value) := wellFormedBody_some rfl fun _ => psetRequest_le _ _ _ _

theorem WellFormedBody.psetRiseEn (bank style : Byte) (value : Word32)
    : WellFormedBody.Statement (.psetRiseEn bank style value) := wellFormedBody_some rfl fun _ => psetRequest_le _ _ _ _

theorem WellFormedBody.psetFallEn (bank style : Byte) (value : Word32)
    : WellFormedBody.Statement (.psetFallEn bank style value) := wellFormedBody_some rfl fun _ => psetRequest_le _ _ _ _

theorem WellFormedBody.psetNoticeEn (bank style : Byte) (value : Word32)
    : WellFormedBody.Statement (.psetNoticeEn bank style value) := wellFormedBody_some rfl fun _ => psetRequest_le _ _ _ _

theorem WellFormedBody.psetOutWidth (bank style : Byte) (value : Word32)
    : WellFormedBody.Statement (.psetOutWidth bank style value) := wellFormedBody_some rfl fun _ => psetRequest_le _ _ _ _

theorem WellFormedBody.psetOutHeight (bank style : Byte) (value : Word32)
    : WellFormedBody.Statement (.psetOutHeight bank style value) := wellFormedBody_some rfl fun _ => psetRequest_le _ _ _ _

theorem WellFormedBody.psetBankSet (bank style : Byte) (value : Word32)
    : WellFormedBody.Statement (.psetBankSet bank style value) := wellFormedBody_some rfl fun _ => psetRequest_le _ _ _ _

theorem WellFormedBody.psetHasTone (bank style : Byte) (value : Word32)
    : WellFormedBody.Statement (.psetHasTone bank style value) := wellFormedBody_some rfl fun _ => psetRequest_le _ _ _ _

theorem WellFormedBody.psetProfileId (bank style : Byte) (value : Word32)
    : WellFormedBody.Statement (.psetProfileId bank style value) := wellFormedBody_some rfl fun _ => psetRequest_le _ _ _ _

theorem WellFormedBody.psetHeadBind (bank style : Byte) (value : Word32)
    : WellFormedBody.Statement (.psetHeadBind bank style value) := wellFormedBody_some rfl fun _ => psetRequest_le _ _ _ _

theorem WellFormedBody.psetLabel (bank : Byte) (style : Byte) (label : List Byte) :
    WellFormedBody.Statement (.psetLabel bank style label) := wellFormedBody_some rfl fun h => by
  have h : label.length = 16 := of_decide_eq_true h
  simp [psetRequest, h]

theorem WellFormedBody.ltch (body : List Byte) : WellFormedBody.Statement (.ltch body) := wellFormedBody_some rfl bodyOk_le

theorem WellFormedBody.sgo (body : List Byte) : WellFormedBody.Statement (.sgo body) := wellFormedBody_some rfl bodyOk_le

theorem WellFormedBody.shlt (body : List Byte) : WellFormedBody.Statement (.shlt body) := wellFormedBody_some rfl bodyOk_le

theorem WellFormedBody.stil (body : List Byte) : WellFormedBody.Statement (.stil body) := wellFormedBody_some rfl bodyOk_le

theorem WellFormedBody.scan (body : List Byte) : WellFormedBody.Statement (.scan body) := wellFormedBody_some rfl bodyOk_le

theorem WellFormedBody.zset (body : List Byte) : WellFormedBody.Statement (.zset body) := wellFormedBody_some rfl bodyOk_le

theorem WellFormedBody.zget (body : List Byte) : WellFormedBody.Statement (.zget body) := wellFormedBody_some rfl bodyOk_le

theorem WellFormedBody.twrt (body : List Byte) : WellFormedBody.Statement (.twrt body) := wellFormedBody_some rfl bodyOk_le

theorem WellFormedBody.trd (body : List Byte) : WellFormedBody.Statement (.trd body) := wellFormedBody_some rfl bodyOk_le

theorem WellFormedBody.pact (body : List Byte) : WellFormedBody.Statement (.pact body) := wellFormedBody_some rfl bodyOk_le

theorem WellFormedBody.psav (body : List Byte) : WellFormedBody.Statement (.psav body) := wellFormedBody_some rfl bodyOk_le

theorem WellFormedBody.pers (body : List Byte) : WellFormedBody.Statement (.pers body) := wellFormedBody_some rfl bodyOk_le

theorem WellFormedBody.sers (body : List Byte) : WellFormedBody.Statement (.sers body) := wellFormedBody_some rfl bodyOk_le

theorem WellFormedBody.pprt (body : List Byte) : WellFormedBody.Statement (.pprt body) := wellFormedBody_some rfl bodyOk_le

theorem WellFormedBody.plst (body : List Byte) : WellFormedBody.Statement (.plst body) := wellFormedBody_some rfl bodyOk_le

theorem WellFormedBody.bwrt (body : List Byte) : WellFormedBody.Statement (.bwrt body) := wellFormedBody_some rfl bodyOk_le

theorem WellFormedBody.brd (body : List Byte) : WellFormedBody.Statement (.brd body) := wellFormedBody_some rfl bodyOk_le

theorem WellFormedBody.hprb (body : List Byte) : WellFormedBody.Statement (.hprb body) := wellFormedBody_some rfl bodyOk_le

theorem WellFormedBody.rset (body : List Byte) : WellFormedBody.Statement (.rset body) := wellFormedBody_some rfl bodyOk_le

theorem WellFormedBody.modemReady : WellFormedBody.Statement (.modemReady) := wellFormedBody_none rfl

theorem WellFormedBody.lenOutOfRange (len : Byte) : WellFormedBody.Statement (.lenOutOfRange len) := wellFormedBody_none rfl

end Sys2Proof.Laws
end

