-- ==== Sys2Proof/Tests/Slice0.lean ====
section
/-! SUPPORT. The model's own tests: ill-formed commands refused, the spec's worked examples, single steps, and for each
obligation with hypotheses a state and operands that meet them. -/

namespace Sys2Proof.Tests

open Sys2Proof.Machine

set_option Elab.async false

/-! ## Small states -/

/-- The state a command leaves. -/
def nextOf (i : Instr) (s : State) : State :=
  match exec i s with
  | .next t => t
  | _ => s

/-- Start-up over, a HEAD 0 adopted, everything idle. -/
def ready : State :=
  { State.reset with
    pxr := { State.reset.pxr with state := .idle },
    csq := { State.reset.csq with state := .idle },
    hpb := { State.reset.hpb with adopted := some (.head 0) } }

/-- A record of an exposure in flight. -/
def record (k : Kind) (p : Purpose) (a : Option (Role × LinId)) : ExposureRecord :=
  { number := 7, kind := k, purpose := p, time := 2000, black := 64, usedLevel := 256, clamped := false,
    zones := Vector.replicate 8 (ZoneDef.default .flood), assigned := a, state := .readout, strayOpen := false,
    longLines := false, shortLines := false, patchedLines := 0, reason := none }

/-- A FLOOD stream exposure into LIN0. -/
def flood : ExposureRecord := record (.lit .flood) .stream (some (.single, .lin0))

/-- The ready part with its receiver in a state. -/
def inState (st : ReceiverState) : State := ready.setPxr { ready.pxr with state := st }

/-- The ready part serving an exposure. -/
def serving (st : ReceiverState) (r : ExposureRecord) : State :=
  (inState st).setCsq { ready.csq with state := .run, exposure := some r }

/-- An open line of `n` pixels in a frame of which `line` lines are open. -/
def lineOf (n line : Nat) (last : Option (List Nat)) : State :=
  let s := serving (.inFrame .inLine) flood
  s.setPxr { s.pxr with openLine := List.replicate n 5, lineNumber := line, lastLine := last }

/-- A readout between lines, with its counts. -/
def between (line received patched : Nat) (r : ExposureRecord) : State :=
  let s := serving (.inFrame .between) r
  s.setPxr { s.pxr with lineNumber := line, received := received, patched := patched, readoutTimer := some 50000 }

/-- The ready part with the tables of bank B. -/
def withBeam (s : State) : State :=
  s.setPfs { s.pfs with ws := { s.pfs.ws with content := { s.pfs.ws.content with beam := some BeamTables.fresh } } }

/-- The stream runs with a recipe. -/
def running (r : Recipe) : State :=
  ready.setCsq { ready.csq with state := .run, streamRequested := true, requestedRecipe := some r }

/-- A render job of a FLOOD stream frame. -/
def job (next : Nat) : RenderJob :=
  { source := .lin0, dest := 2, kind := .stream, geometry := .corrected, format := .toned8, crop := none, width := 1024,
    height := 768, fill := 0, nextRow := next }

/-- A still request. -/
def request (tag : Nat) (r : Recipe) : StillRequest :=
  { tag, recipe := r, depth := 4, geometry := .corrected, photometric := .apply, format := .toned8, crop := none }

/-- A started still. -/
def track (tag : Nat) (r : Recipe) (p : StillPhase) : StillTrack :=
  { startedStill (request tag r) 1 ready with phase := p }

/-! ## Well-formedness: each check refuses an ill-formed command -/

theorem test_wf_code : (Instr.idConversionDone 1024).wellFormed = false ∧ (Instr.tempConversionDone 1023).wellFormed = true :=
  by decide

theorem test_wf_lost : (Instr.verifyPassDone [(32768, 0)]).wellFormed = false ∧
    (Instr.bootWriteProgramDone [(16, 0)]).wellFormed = false ∧ (Instr.bootWriteProgramDone [(15, 0)]).wellFormed = true := by
  decide

theorem test_wf_body : (Instr.stat (List.replicate 241 0)).wellFormed = false ∧
    (Instr.twrt (List.replicate 240 0)).wellFormed = true := by decide +kernel

theorem test_wf_plain_pset : (Instr.pset [0x11, 0, 0, 1, 0, 0, 0]).wellFormed = false ∧
    (Instr.pset [0x15, 0, 0, 1, 0, 0, 0]).wellFormed = true := by decide

theorem test_wf_bad_kind : (Instr.badKind 0x02 []).wellFormed = false ∧ (Instr.badKind 0x60 []).wellFormed = true := by decide

theorem test_wf_label : (Instr.psetLabel 0 0 [65]).wellFormed = false ∧
    (Instr.psetLabel 0 0 (List.replicate 16 65)).wellFormed = true := by decide

theorem test_wf_len : (Instr.lenOutOfRange 241).wellFormed = false ∧ (Instr.lenOutOfRange 242).wellFormed = true ∧
    (Instr.lenOutOfRange 0).wellFormed = true := by decide

/-! ## The spec's worked numbers -/

/-- 01, R8: the word 0xABCD. -/
theorem test_extract : extractPixel .high .twelve 0xABCD = 2748 ∧ extractPixel .low .twelve 0xABCD = 3021 ∧
    extractPixel .high .ten 0xABCD = 2748 ∧ extractPixel .low .ten 0xABCD = 3892 := by decide

/-- 02, one FUSE pixel: gain 5056 from nodes 47, 48, 68 and 69, then 2143, 1672 and 2025. -/
theorem test_fuse_pixel :
    nodeValue (List.replicate 47 0 ++ [5120, 5632] ++ List.replicate 19 0 ++ [4608, 6144]) 336 176 = 5056 ∧
      correctedValue (subtractBlackClamped 1800 64) 5056 = 2143 ∧ correctedValue (subtractBlackClamped 900 64) 8192 = 1672 ∧
      fuseBlend 192 2143 1672 = 2025 := by decide +kernel

/-- 02, stacking a still: pixels A and B. -/
theorem test_stack : stackedValue 403 4 = 101 ∧ correctedValue 101 4505 = 111 ∧ stackedValue (-5) 4 = 0 ∧
    foldPlane 1 [[100, -3]] [[103, -2]] = [[203, -5]] := by decide

/-- 03, one output pixel: the mesh position, the sample and the toned value. -/
theorem test_output_pixel :
    meshPosition { WorkingSet.default.content with
      mesh := List.replicate 67 (0, 0) ++ [(6400, 4000), (6720, 4016)] ++ List.replicate 63 (0, 0) ++
        [(6384, 4320), (6704, 4336)] } 40 20 = (6556, 4088) ∧
      sampleAt (List.replicate 255 [] ++ [List.replicate 409 0 ++ [2000, 2040], List.replicate 409 0 ++ [2100, 2160]])
        6556 4088 = 2088 ∧ toneValue none 2088 = 33 ∧ toneValue none 2025 = 32 := by decide +kernel

/-- 03, the edge of the field: floors of negative sums. -/
theorem test_field_edge :
    let c := { WorkingSet.default.content with
      mesh := [(-40, 120), (280, 118)] ++ List.replicate 63 (0, 0) ++ [(-40, 120), (280, 118)] }
    (meshPosition c 1 0).1 = -20 ∧ inField (meshPosition c 1 0) = false ∧ meshPosition c 2 0 = (0, 120) ∧
      inField (meshPosition c 2 0) = true := by decide +kernel

/-- 03, the same pixel in a crop: kept within 1024 by 768, absent past 512 by 512. -/
theorem test_crop :
    keptCrop WorkingSet.default.content (some ⟨32, 16, 64, 64⟩) = some ⟨32, 16, 64, 64⟩ ∧
      keptCrop { WorkingSet.default.content with width := 512, height := 512 } (some ⟨480, 16, 64, 64⟩) = none := by
  decide +kernel

/-- 04, zone 3 of exposure 2210: mean 1600, clip fraction 31, INSIDE with glare. -/
theorem test_zone :
    let d : ZoneDef := { ZoneDef.default .flood with col0 := 9, col1 := 10, row0 := 7, row1 := 8, glareLimit := 24 }
    let z : MeasuredZone := { index := 3, defn := d, sum := 26214400, clipped := 500 }
    z.mean = 1600 ∧ z.clipFraction = 31 ∧ (z.result 2210).level = .inside ∧ (z.result 2210).glare = true := by decide

/-- 05, following the target and the derate ramp: the loop's levels. -/
theorem test_loop : loopLevel 400 1200 false 1800 64 = some 600 ∧ loopLevel 600 1700 false 1800 64 = some 635 ∧
    loopLevel 635 1790 false 1800 64 = none ∧ loopLevel 682 1300 false 1600 64 = some 839 := by decide

/-- 05, the derate ramp: the derate limits at 138, 150, 156, 164 and 160, and a quarter of MAX when invalid. -/
theorem test_derate :
    ([some 138, some 150, some 156, some 164, some 160, none].map fun t =>
      { State.reset.lpc with temperature := t }.derateLimit .flood) = [1023, 682, 477, 204, 341, 255] := by decide +kernel

/-- 09, R161 and the head swap: bands, their edges, and the classes outside them. -/
theorem test_classify : [624, 372, 396, 397, 390, 430, 1019, 1007, 1008, 15, 16].map classify =
    [.head 7, .head 4, .head 4, .between, .head 4, .between, .openLine, .between, .openLine, .shortLine, .between] := by
  decide

/-- 09, R163 and the head swap: 716, 650 and 652; open and shorted lines. -/
theorem test_temperature : [716, 650, 652, 0, 1023].map temperatureOf =
    [some 151, some 129, some 130, none, none] := by decide

/-- 11, R174: the nine bytes 0x31 to 0x39 give 0x29B1. -/
theorem test_crc16 : crc16 [0x31, 0x32, 0x33, 0x34, 0x35, 0x36, 0x37, 0x38, 0x39] = 0x29B1 := by decide +kernel

/-- 08, R145: the largest profile takes 20,092 bytes; the 25-byte header of the default working set. -/
theorem test_profile_length :
    ({ WorkingSet.default.content.header with fb := true, height := 1024, hasTone := true } : StoredHeader).length
      = 20092 ∧ WorkingSet.default.content.header.bytes.length = 25 := by decide +kernel

/-- 08, R144: the plain map's last node lies at the sensor's far corner. -/
theorem test_plain_map : (plainMap 256 256).length = 289 ∧ (plainMap 256 256).getD 288 (0, 0) = (20480, 16384) := by
  decide +kernel

/-! ## Single steps -/

/-- 01, the damaged readout: 1022 lines, two patched, close with four patched, complete, SENSOR_FAULT latched. -/
theorem test_damaged_readout :
    let s := between 1022 1021 2 (record (.lit .flood) .stream none)
    let t := nextOf .frameClose (s.setPxr { s.pxr with lastLine := some [] })
    t.csq.lastEnded.map (fun r => (r.state, r.patchedLines)) = some (.complete, 4) ∧ t.cdu.latches = 0x0100 ∧
      t.pxr.state = .idle := by decide +kernel

/-- 05, the derate ramp at 150: the stored 839 is lit at 682, clamped. -/
theorem test_trigger_clamped :
    let s := running .flood
    let t := nextOf .trigger (s.setLpc { s.lpc with
      temperature := some 150, flood := { s.lpc.flood with level := 839 } })
    t.lpc.lit = some (.flood, 682) ∧ t.csq.exposure.map (fun r => (r.usedLevel, r.clamped)) = some (682, true) := by
  decide +kernel

/-- 09, the head swapped under power, at 500: HEAD 4 is adopted, HEAD_PRESENT and HEAD_CHANGED latched, the halt left. -/
theorem test_head_swap :
    let s := ready.setHpb { ready.hpb with
      candidate := some (.head 4), adopted := some .openLine, lastHead := some 7, conv := .convertingId }
    let t := nextOf (.idConversionDone 381) (s.setCsq { s.csq with state := .halt })
    t.csq.state = .switchDrain ∧ t.csq.switchTarget = some (.head 4) ∧ t.cdu.latches = 3 ∧ t.hpb.lastHead = some 4 := by
  decide +kernel

/-- 11, two requests and a notice: a third request is dropped, and LINK_ERROR's notice waits for the STAT reply's end. -/
theorem test_third_request :
    let s := [Instr.stat [0], .stil [9, 1, 1, 0, 0, 0, 0, 0, 0, 0, 0, 0, 0, 0, 0], .frameReceived (frameOnLine 3 [0, 0])].foldl
      (fun s i => nextOf i s) ready
    s.cml.holding.length = 2 ∧ s.cdu.latches = 0x4000 ∧ s.cdu.noticePending = true ∧
      (nextOf .frameSent s).cml.tx = some (.notice ⟨0x60, [0, 0x40, 0x10, 0x80, 1]⟩) := by decide +kernel

/-- 10, a notice overtaken by LTCH, step 5: latches 6 and 9 are given and cleared, and the notice is cancelled. -/
theorem test_ltch :
    let t := nextOf (.ltch []) (ready.setCdu { ready.cdu with latches := 0x0240, live := 0x0041, noticePending := true })
    newestReply t = some ⟨0x85, [0, 0x40, 0x02, 0x41, 0x00]⟩ ∧ t.cdu.latches = 0 ∧ t.cdu.noticePending = false := by
  decide +kernel

/-- 11, R178: IDNT's reply while start-up runs; the ceiling code is 200. -/
theorem test_identity : newestReply (nextOf (.idnt []) State.reset) = some ⟨0x81, [0, 0xE4, 0x02, 1, 0, 200, 0]⟩ := by
  decide +kernel

/-- 06, step 2 of the stalled stream: under KEEP_NEW a frame takes slot 1 and a still slot 2, and each drop is reported. -/
theorem test_stalled_slots :
    let x (st : SlotState) (n : Word32) : Slot := { Slot.blank with state := st, number := n }
    let o := { State.reset.ofq with
      slots := #v[x .sending 80, x .ready 81, x .ready 82, x .ready 83], readyOrder := [1, 2, 3], frameCounter := 84 }
    o.streamClaim = some (1, true) ∧ (o.reserve 1 .stream).stillClaim = some (2, true) ∧
      ((o.reserve 1 .stream).reserve 2 (.still 5)).readyOrder = [3] := by decide +kernel


/-! ## Witnesses: states and operands that meet the hypotheses of the obligations -/

/-- With the link as it is after reset, any request command is taken; with start-up over it is served. -/
theorem served_of {i : Instr} {q : Request} {s : State} (h : requestOf i = some q) (hl : s.cml = State.reset.cml)
    (hs : startUpEnded s = true) : Served i s :=
  ⟨⟨q, h, Or.inr ⟨by rw [hl]; rfl, by rw [hl]; decide, (by rw [hl]; intro x hx; cases hx), by rw [hl]; rfl⟩⟩, hs⟩

theorem witness_StepTakesFrontCommandOrIdles :
    ready.pending = [] ∧ ready.rme.job = none ∧ (ready.setRme ⟨some (job 767), 0⟩).rme.job = some (job 767) ∧
      (job 767).height ≤ (job 767).nextRow + 1 ∧ (job 766).nextRow + 1 < (job 766).height := by decide +kernel

theorem witness_StartupRecordValues :
    ready.pfs.bootWriting = false ∧
      bootPasses (bootCells [3, 0x90, 1, 1, 1, 1, 0, 0]) = List.replicate 7 true ∧
      bootPasses (bootCells [4, 0x91, 1, 4, 2, 2, 2, 2]) = List.replicate 7 false := by decide +kernel

theorem witness_PixelWordStoredOrDropped :
    (lineOf 1279 1 none).pxr.state = .inFrame .inLine ∧ (lineOf 1279 1 none).pxr.openLine.length < 1280 ∧
      1280 ≤ (lineOf 1280 1 none).pxr.openLine.length ∧ ready.pxr.state ≠ .inFrame .inLine := by decide +kernel

theorem witness_LineOpens :
    (∀ sub, ready.pxr.state ≠ .inFrame sub) ∧ (lineOf 1 1 none).pxr.state = .inFrame .inLine ∧
      (between 1023 0 0 flood).pxr.state = .inFrame .between ∧ (between 1023 0 0 flood).pxr.lineNumber < 1024 ∧
      1024 ≤ (between 1024 0 0 flood).pxr.lineNumber :=
  ⟨fun sub h => (by cases h), rfl, rfl, by decide, by decide⟩

theorem witness_LineCloses :
    ready.pxr.state ≠ .inFrame .inLine ∧ (lineOf 1280 1 none).pxr.openLine.length = 1280 ∧
      (lineOf 1279 1 none).pxr.openLine.getLast? = some 5 ∧ (lineOf 1279 1 none).pxr.openLine.length < 1280 ∧
      (lineOf 1 1 none).pxr.openLine.getLast? = some 5 ∧ (lineOf 0 1 none).pxr.openLine = [] ∧
      (lineOf 0 1 (some [5])).pxr.lastLine = some [5] ∧ (lineOf 0 1 none).pxr.lastLine = none := by decide +kernel

theorem witness_FrameOpens :
    State.reset.pxr.state = .off ∧ ready.pxr.state = .idle ∧ (inState .exposing).pxr.state = .exposing ∧
      (inState .awaiting).pxr.state = .awaiting ∧ (inState (.inFrame .inLine)).pxr.state = .inFrame .inLine ∧
      (inState (.skip .ended)).pxr.state = .skip .ended := by decide +kernel

theorem witness_FrameCloseEndsSkip :
    (inState (.skip .none)).pxr.state = .skip .none ∧ (inState (.skip .exposing)).pxr.state = .skip .exposing ∧
      (inState (.skip .ended)).pxr.state = .skip .ended ∧ ready.pxr.state = .idle := by decide +kernel

theorem witness_FrameCloseJudgesReadout :
    (lineOf 0 1 none).csq.exposure = some flood ∧ (lineOf 0 1 none).pxr.state = .inFrame .inLine ∧
      (between 1024 0 0 flood).csq.exposure = some flood ∧ (between 1024 0 0 flood).pxr.state = .inFrame .between ∧
      (between 1024 0 0 flood).pxr.received = 0 ∧ (between 1024 1 17 flood).pxr.patchLimit < 17 + (1024 - 1024) ∧
      16 + (1024 - 1024) ≤ (between 1024 1 16 flood).pxr.patchLimit ∧
      (between 1024 1 16 flood).cdu.riseEn.getLsbD 8 = true := by decide +kernel

theorem witness_ExposureEndStartsReadoutTimer :
    let s := inState .exposing
    (s.setPxr { s.pxr with exposureTimer := some 2000 }).pxr.exposureTimer.isSome ∧ s.pxr.state = .exposing ∧
      (inState (.skip .exposing)).pxr.state = .skip .exposing ∧ ready.pxr.exposureTimer = none := by decide +kernel

theorem witness_ReadoutTimeoutAbandons :
    ready.pxr.readoutTimer = none ∧ (between 5 4 1 flood).pxr.readoutTimer.isSome ∧
      (between 5 4 1 flood).csq.exposure = some flood ∧ (between 5 4 1 flood).pxr.state = .inFrame .between ∧
      (serving .awaiting flood).pxr.state = .awaiting ∧ (serving (.skip .ended) flood).pxr.state = .skip .ended := by
  decide +kernel

/-- A stream frame whose exposure has been read out whole. -/
def wholeReadout (r : ExposureRecord) (recipe : Recipe) : State :=
  let s := between 1024 1024 16 r
  s.setCsq { s.csq with frame := some { recipe, degraded := false, buffer := .lin0, parts := [] } }

theorem witness_StreamExposureCompletes :
    let r := record (.lit .flood) .stream (some (.first, .lin0))
    let s := wholeReadout r .fuse
    s.pxr.state = .inFrame .between ∧ s.pxr.lineNumber = 1024 ∧ 0 < s.pxr.received ∧ s.pxr.patched ≤ s.pxr.patchLimit ∧
      s.csq.exposure = some r ∧ r.kind = .lit .flood ∧ r.purpose = .stream ∧ r.assigned = some (.first, .lin0) ∧
      s.csq.frame = some { recipe := .fuse, degraded := false, buffer := .lin0, parts := [] } ∧
      (s.phc.lin .lin0).releaseMarked = false ∧ flood.assigned = some (.single, .lin0) ∧
      (wholeReadout flood .flood).csq.exposure = some flood := by decide +kernel

theorem witness_DarkExposureCompletes :
    let r := record .dark .darkReference none
    let s := between 1024 1024 16 r
    let s := s.setPhc { s.phc with darkSum := some 17039360 }
    s.pxr.state = .inFrame .between ∧ s.pxr.lineNumber = 1024 ∧ 0 < s.pxr.received ∧ s.pxr.patched ≤ s.pxr.patchLimit ∧
      s.csq.exposure = some r ∧ r.kind = .dark ∧ s.phc.darkSum = some 17039360 ∧ s.phc.blackMode = .auto := by
  decide +kernel

theorem witness_StreamTriggerOpensFrame :
    let s := (running .fuse).setCsq { (running .fuse).csq with darkCounter := 29 }
    startUpEnded s = true ∧ s.csq.exposure = none ∧ s.hpb.adopted = some (.head 0) ∧ receiverReady s = true ∧
      s.csq.state = .run ∧ s.csq.frame = none ∧ s.csq.intervalTimer = none ∧ s.csq.switchTarget = none ∧
      stillCanStart s = false ∧ s.csq.darkCounter < s.phc.darkEvery ∧ s.lpc.cutoff = false ∧ s.csq.paced = false ∧
      s.csq.requestedRecipe = some .fuse ∧ s.phc.emptyLin = some .lin0 ∧ s.pfs.ws.content.beam.isSome = false ∧
      (withBeam s).pfs.ws.content.beam.isSome = true ∧ s.pxr.state = .idle := by decide +kernel

theorem witness_DarkTriggerRules :
    let s := (running .flood).setCsq { (running .flood).csq with darkCounter := 30 }
    startUpEnded s = true ∧ s.csq.exposure = none ∧ s.hpb.adopted = some (.head 0) ∧ receiverReady s = true ∧
      s.csq.state = .run ∧ s.csq.frame = none ∧ s.csq.intervalTimer = none ∧ s.csq.switchTarget = none ∧
      stillCanStart s = false ∧ 0 < s.phc.darkEvery ∧ s.phc.darkEvery ≤ s.csq.darkCounter := by decide +kernel

/-- A FUSE frame with its F exposure complete. -/
def halfFrame : State :=
  let s := running .fuse
  (s.setPhc { s.phc with lin1 := { LinearBuffer.blank with content := .half } }).setCsq
    { s.csq with frame := some { recipe := .fuse, degraded := false, buffer := .lin1, parts := [flood] } }

/-- A still at its exposures. -/
def stilling : State :=
  (ready.setPhc { ready.phc with accF := Accumulator.claimed, accB := Accumulator.claimed }).setCsq
    { ready.csq with state := .still, active := some (track 5 .flood .exposing) }

theorem witness_SecondAndStillTriggers :
    startUpEnded halfFrame = true ∧ halfFrame.csq.exposure = none ∧ halfFrame.hpb.adopted = some (.head 0) ∧
      receiverReady halfFrame = true ∧ halfFrame.lpc.cutoff = false ∧ halfFrame.csq.state = .run ∧
      halfFrame.csq.frame.map StreamFrame.buffer = some .lin1 ∧ (halfFrame.phc.lin .lin1).content = .half ∧
      startUpEnded stilling = true ∧ stilling.csq.exposure = none ∧ receiverReady stilling = true ∧
      stilling.csq.state = .still ∧ stilling.csq.active = some (track 5 .flood .exposing) ∧
      (track 5 .flood .exposing).nextBank = some .flood ∧ (stilling.phc.acc .flood).state = .opened ∧
      (track 5 .beam .exposing).req.recipe = .beam ∧ (track 5 .fuse .exposing).doneF = (track 5 .fuse .exposing).doneB ∧
      ({ track 5 .fuse .exposing with doneF := 1 } : StillTrack).doneF =
        ({ track 5 .fuse .exposing with doneF := 1 } : StillTrack).doneB + 1 := by decide +kernel

theorem witness_OnlyTriggerStartsExposure :
    (∃ t r, exec .trigger (running .flood) = .next t ∧ (running .flood).csq.exposure = none ∧ t.csq.exposure = some r) ∧
      ∃ t r, exec .frameOpen (serving .awaiting flood) = .next t ∧ (serving .awaiting flood).csq.exposure = some flood ∧
        t.csq.exposure = some r :=
  ⟨⟨_, _, rfl, rfl, rfl⟩, _, _, rfl, rfl, rfl⟩

/-- The part in FIXED_RATE mode with a slot in a state. -/
def fixedRate (st : SlotState) (order : List (Fin 4)) (send : Option Send) : State :=
  ready.setOfq { ready.ofq with
    sendMode := .fixedRate, periodTimer := some 40000, readyOrder := order, send,
    slots := ready.ofq.slots.set 1 { Slot.blank with state := st } }

theorem witness_TimerExpiries :
    ready.ofq.periodTimer = none ∧ (fixedRate .ready [1] none).ofq.periodTimer.isSome ∧
      (fixedRate .sending [] (some ⟨1, false, 0⟩)).ofq.send.isSome ∧ (fixedRate .ready [1] none).ofq.readyOrder = 1 :: [] ∧
      (fixedRate .held [] none).ofq.heldSlot = some 1 ∧ (fixedRate .free [] none).ofq.heldSlot = none ∧
      (State.reset.hpb.softReset).conv = .idle ∧ (State.reset.hpb.softReset).nextKind = .id ∧
      State.reset.hpb.nextKind = .temp ∧ State.reset.hpb.conv ≠ .idle := by decide +kernel

/-- A still waits for the choice. -/
def queued (r : Recipe) : State := ready.setCsq { ready.csq with queue := [request 5 r] }

theorem witness_StillStarts :
    choiceOpen (queued .flood) = true ∧ (queued .flood).csq.switchTarget = none ∧
      (queued .flood).phc.accF.state = .free ∧ (queued .flood).phc.accB.state = .free ∧
      (queued .flood).csq.queue = request 5 .flood :: [] ∧ (queued .flood).ofq.stillClaim = some (0, false) ∧
      (queued .fuse).csq.queue = request 5 .fuse :: [] ∧ (request 5 .fuse).recipe ≠ .flood ∧
      (queued .fuse).pfs.ws.content.beam = none ∧ (withBeam (queued .fuse)).pfs.ws.content.beam.isSome = true := by
  decide +kernel

/-- A still with every exposure folded. -/
def folded : State :=
  let x : Accumulator := { state := .opened, folded := 4, sum := [], pendingPlane := [] }
  (ready.setPhc { ready.phc with accF := x, accB := x }).setCsq
    { ready.csq with state := .still, active := some (track 5 .fuse .awaitFinalise) }

theorem witness_FoldsAndFinalise :
    ((ready.phc.setAcc .beam { Accumulator.blank with state := .folding }).acc .beam).state = .folding ∧
      (ready.phc.acc .beam).state ≠ .folding ∧ folded.csq.active = some (track 5 .fuse .awaitFinalise) ∧
      folded.phc.emptyLin = some .lin0 ∧ folded.phc.accF.state = .opened ∧
      folded.phc.accF.folded = (track 5 .fuse .awaitFinalise).req.depth ∧
      folded.phc.accB.folded = (track 5 .fuse .awaitFinalise).req.depth ∧
      (ready.setPhc { ready.phc with finalise := some ⟨.lin1, .flood, 4, .apply⟩ }).phc.finalise
        = some ⟨.lin1, .flood, 4, .apply⟩ := by decide +kernel

/-- Values of a picture. -/
def values : PictureValues := gather .flood 1 .apply 0 false [flood] ready

/-- A WHOLE buffer awaits its render. -/
def awaiting (k : PictureKind) (crop : Option Crop) : State :=
  let a := track 5 .flood .awaitRender
  (ready.setPhc { ready.phc with lin0 := { LinearBuffer.blank with content := .whole } }).setCsq
    { ready.csq with
      awaiting := [{ buffer := .lin0, kind := k, values }], later := [{ a with req := { a.req with crop } }] }

theorem witness_RenderStarts :
    let w : Waiting := { buffer := .lin0, kind := .stream, values }
    let full := #v[{ Slot.blank with state := .held }, { Slot.blank with state := .sending },
      { Slot.blank with state := .reserved }, { Slot.blank with state := .ready }]
    let old : State := (awaiting .stream none).setOfq { ready.ofq with policy := .keepOld, slots := full }
    ready.rme.job = none ∧ (awaiting .stream none).csq.awaiting = w :: [] ∧
      (awaiting .stream none).ofq.streamClaim = some (0, false) ∧ old.ofq.streamClaim = none ∧
      (old.phc.lin w.buffer).content = .whole ∧
      ((awaiting (.still 5) (some ⟨960, 704, 64, 64⟩)).csq.later.find? fun x => x.req.tag = 5).map
        (fun a => (a.req.tag, a.req.crop)) = some (5, some ⟨960, 704, 64, 64⟩) ∧
      960 + 64 ≤ ready.pfs.ws.content.width ∧ 704 + 64 ≤ ready.pfs.ws.content.height ∧
      ready.pfs.ws.content.width < 976 + 64 := by decide +kernel

theorem witness_StreamSlotClaim :
    let x (st : SlotState) (k : PictureKind) : Slot := { Slot.blank with state := st, kind := k }
    let o := { ready.ofq with
      slots := #v[x .sending .stream, x .ready (.still 5), x .ready .stream, x .held .stream], readyOrder := [1, 2] }
    (ready.ofq.slots[(0 : Fin 4)].state = .free) ∧ (∀ k : Fin 4, o.slots[k].state ≠ .free) ∧
      o.readyOrder = [1] ++ 2 :: [] ∧ o.slots[(2 : Fin 4)].kind = .stream ∧ (∀ k ∈ [(1 : Fin 4)], o.slots[k].kind ≠ .stream) ∧
      o.policy = .keepNew := by decide +kernel

theorem witness_RenderCompletes :
    let x (k : PictureKind) : Slot := { Slot.blank with state := .ready, kind := k }
    let o := { ready.ofq with slots := #v[x .stream, x (.still 5), x (.still 6), x .stream], readyOrder := [1, 0, 3] }
    ready.rme.job = none ∧ (ready.setRme ⟨some (job 0), 0⟩).rme.job = some (job 0) ∧ (job 0).dest = 2 ∧
      o.slots[(2 : Fin 4)].kind = .still 6 ∧ o.readyOrder = [1] ++ [0, 3] ∧
      (∀ k ∈ [(1 : Fin 4)], o.slots[k].kind ≠ .stream) ∧ (∀ k ∈ [(0 : Fin 4), 3], o.slots[k].kind = .stream) := by
  decide +kernel

theorem witness_SendsRunToLastByte :
    let s := ready.setOfq { ready.ofq with readyOrder := [1] }
    let x : Slot := { Slot.blank with state := .sending, kind := .still 5 }
    let t := ready.setOfq { ready.ofq with slots := ready.ofq.slots.set 1 x, send := some ⟨1, false, 62⟩ }
    s.ofq.sendMode = .onDemand ∧ s.ofq.send = none ∧ s.ofq.readyOrder = 1 :: [] ∧
      (fixedRate .ready [1] none).ofq.sendMode = .fixedRate ∧ t.ofq.send = some ⟨1, false, 62⟩ ∧
      62 + 1 < t.ofq.slots[(1 : Fin 4)].frameLength ∧ t.ofq.slots[(1 : Fin 4)].frameLength ≤ 63 + 1 ∧
      t.ofq.slots[(1 : Fin 4)].kind = .still 5 ∧ (fixedRate .held [] none).ofq.heldSlot = some 1 := by decide +kernel

theorem witness_FrameBytesLayout :
    let f := formOf ready.pfs.ws { job 0 with crop := some ⟨0, 0, 2, 1⟩, width := 2, height := 1, format := .linear16 }
    let x : Slot := { Slot.blank with kind := .still 5, form := some f, values := some values, pixels := [[5, 600]] }
    x.form = some f ∧ x.values = some values ∧ x.kind = .still 5 ∧ x.pixels.length = f.height ∧
      (∀ row ∈ x.pixels, row.length = f.width) ∧ (x.frameBytes false).length = 68 := by decide +kernel

/-- A drain that has come to its end, with a target. -/
def drainedTo (t : Target) : State := ready.setCsq { ready.csq with state := .switchDrain, switchTarget := some t }

/-- A VALID record of the default working set's header. -/
def validRecord : DirRecord :=
  { state := .valid, guarded := false, header := some { WorkingSet.default.content.header with head := some 4 },
    check := some 0 }

/-- Slot 2 VALID. -/
def storing (s : State) : State := s.setPfs { s.pfs with directory := s.pfs.directory.set 2 validRecord }

theorem witness_SwitchDrainsThenLoads :
    let s := ready.setCsq { ready.csq with switchTarget := some (.slot 2) }
    s.csq.switchTarget = some (.slot 2) ∧ choiceOpen s = true ∧ (drainedTo (.slot 2)).csq.state = .switchDrain ∧
      (drainedTo (.slot 2)).csq.exposure = none ∧ (drainedTo (.slot 2)).csq.active = none ∧
      (drainedTo (.slot 2)).phc.finalise = none ∧ (drainedTo (.slot 2)).phc.lin0.content = .empty ∧
      (drainedTo (.slot 2)).phc.lin1.content = .empty ∧ (drainedTo (.slot 2)).rme.job = none ∧
      (drainedTo (.slot 2)).pfs.op = none ∧ (storing (drainedTo (.slot 2))).pfs.directory[(2 : Fin 8)].state = .valid ∧
      (storing (drainedTo (.head 4))).pfs.boundSlot 4 = some 2 ∧ (drainedTo (.head 4)).pfs.boundSlot 4 = none ∧
      (drainedTo (.head 4)).csq.nextTarget = none ∧ (drainedTo (.head 4)).csq.loadHalt = false := by decide +kernel

/-- A load of slot 2 in a pass. -/
def loading (p : LoadPass) (bytes : List Byte) : State :=
  let s := storing ready
  (s.setPfs { s.pfs with
    op := some (.load 2 p), standby := some WorkingSet.default,
    slots := s.pfs.slots.set 2 { StoreSlot.blank with bytes } }).setCsq { s.csq with state := .switchLoad }

theorem witness_LoadPassesVerifyThenCopy :
    (∀ i, ready.pfs.op ≠ some (.load i .verify)) ∧ (∀ i, ready.pfs.op ≠ some (.load i .copy)) ∧
      (loading .verify []).pfs.op = some (.load 2 .verify) ∧
      (loading .verify []).pfs.directory[(2 : Fin 8)].header
        = some { WorkingSet.default.content.header with head := some 4 } ∧
      (loading .verify []).csq.state = .switchLoad ∧ (loading .copy []).pfs.op = some (.load 2 .copy) ∧
      (loading .copy []).pfs.standby = some WorkingSet.default := by
  refine ⟨fun i h => (by cases h), fun i h => (by cases h), ?_⟩
  decide +kernel

/-- A slot whose bytes match its check, and one whose bytes do not. -/
theorem witness_LoadCheck (bytes : List Byte) :
    let good := bytes ++ word32Bytes (crc32 bytes)
    let bad := bytes ++ word32Bytes (crc32 bytes + 1)
    crc32 (slotBytes good bytes.length) = storedCheck good bytes.length ∧
      crc32 (slotBytes bad bytes.length) ≠ storedCheck bad bytes.length := by
  simp only [slotBytes_append, storedCheck_append]
  exact ⟨trivial, by simp⟩

theorem witness_SavePhases :
    (∀ k, ready.pfs.op ≠ some (.save k .erase)) ∧ (∀ k, ready.pfs.op ≠ some (.save k .program)) ∧
      (ready.setPfs { ready.pfs with op := some (.save 2 .erase) }).pfs.op = some (.save 2 .erase) ∧
      (ready.setPfs { ready.pfs with op := some (.save 2 .program) }).pfs.op = some (.save 2 .program) := by
  refine ⟨fun i h => (by cases h), fun i h => (by cases h), rfl, rfl⟩

theorem witness_ErasesReadBack :
    (∀ k, ready.pfs.op ≠ some (.erase k)) ∧ (∀ k failed, ready.pfs.op ≠ some (.eraseAll k failed)) ∧
      (ready.setPfs { ready.pfs with op := some (.erase 2) }).pfs.op = some (.erase 2) ∧
      (ready.setPfs { ready.pfs with op := some (.eraseAll 7 true) }).pfs.op = some (.eraseAll 7 true) ∧
      blankBytes (loseCells [] [(3, 0)]) = false ∧ ((1 : Fin 8).val = (0 : Fin 8).val + 1) := by
  refine ⟨fun i h => (by cases h), fun i f h => (by cases h), rfl, rfl, ?_, rfl⟩
  decide

theorem witness_StartupRecordWritePhases :
    (∀ d, ready.pfs.op ≠ some (.bootWrite d .erase)) ∧ (∀ d, ready.pfs.op ≠ some (.bootWrite d .program)) ∧
      (ready.setPfs { ready.pfs with op := some (.bootWrite [0] .erase) }).pfs.op = some (.bootWrite [0] .erase) ∧
      (loseBootCells (bootCells [0, 1]) [(1, 0)])[(0 : Fin 8)] ≠ ((0 : Byte), ~~~(0 : Byte)) := by
  refine ⟨fun i h => (by cases h), fun i h => (by cases h), rfl, ?_⟩
  decide

theorem witness_ScanAndStartUp :
    State.reset.csq.state = .starting ∧ State.reset.csq.scanDone = false ∧ State.reset.csq.loadChosen = false ∧
      State.reset.pfs.op = none ∧ State.reset.hpb.adopted = none ∧
      (classifySlot { StoreSlot.blank with workMark := true }).state = .corrupt ∧
      (classifySlot StoreSlot.blank).state = .empty ∧ (storing ready).pfs.boundSlot 4 = some 2 := by decide +kernel

/-- The probe converting, with a candidate and an adopted state. -/
def probing (k : ConvState) (candidate adopted : Option Classification) : State :=
  ready.setHpb { ready.hpb with conv := k, candidate, adopted }

theorem witness_Probe :
    (probing .convertingId (some .openLine) (some (.head 0))).hpb.conv = .convertingId ∧ classify 1023 = .openLine ∧
      (probing .convertingId (some .openLine) (some (.head 0))).hpb.candidate = some .openLine ∧
      (probing .convertingId (some .openLine) (some (.head 0))).hpb.adopted ≠ some .openLine ∧
      classify 64 = .head 0 ∧ (probing .convertingTemp none none).hpb.conv = .convertingTemp ∧
      (probing .idle none none).hpb.conv ≠ .convertingId ∧ classify 76 = .head 0 ∧ classify 77 = .between := by
  decide +kernel

theorem witness_TemperatureDrivesLamps :
    temperatureOf 0 = none ∧ temperatureOf 1 = some (-80) ∧ temperatureOf 1022 = some 249 ∧ temperatureOf 1023 = none ∧
      ready.lpc.cutoffAt ≤ 249 ∧ (-80 : Int) ≤ ready.lpc.cutoffAt - 10 ∧ ready.lpc.cutoff = false ∧
      ready.csq.state ≠ .starting := by decide +kernel

theorem witness_Link :
    ready.cml.rx = .hunt ∧ ready.cml.holding.length < 2 ∧ (2 : Nat) ≤ [0, 1].length ∧
      ((0 : Byte) ++ (0 : Byte)) ≠ crc16 (byte 1 :: 0x01 :: []) ∧ (242 : Byte).toNat > 241 ∧
      (ready.setCml { ready.cml with tx := some (.notice ⟨0x60, []⟩) }).cml.tx = some (.notice ⟨0x60, []⟩) ∧
      (ready.setCml { ready.cml with tx := some (.reply ⟨0xBF, [0]⟩ true) }).cml.tx = some (.reply ⟨0xBF, [0]⟩ true) := by
  decide +kernel

theorem witness_RequestsRefusedBeforeTheirOwner :
    (Instr.badKind 0x60 []).wellFormed = true ∧ requestOf (.badKind 0x60 []) = some ⟨0x60, []⟩ ∧ knownKind 0x60 = false ∧
      lengthOk ⟨0x02, []⟩ = false ∧ lengthOk ⟨0x11, []⟩ = true ∧ startUpKind 0x11 = false ∧
      startUpEnded State.reset = false ∧ Served (.shlt []) ready ∧ TakenNow (.shlt []) State.reset :=
  ⟨by decide, rfl, by decide, by decide, by decide, by decide, rfl, served_of rfl rfl rfl,
    ⟨_, rfl, Or.inr ⟨rfl, by decide, (by intro x hx; cases hx), rfl⟩⟩⟩

theorem witness_WaitingRequest :
    let h : List HeldRequest := [⟨⟨0x02, [0]⟩, false⟩]
    let s := ready.setCml { ready.cml with holding := h }
    s.cml.nextRequest = some ⟨0x02, [0]⟩ ∧ (⟨0x02, [0]⟩ : Request) ≠ ⟨0x11, []⟩ ∧ s.cml.rx = .hunt ∧
      s.cml.holding.length < 2 := by decide +kernel

theorem witness_ReadingRequests :
    TakenNow (.stat [5]) State.reset ∧ Served (.zget [byte 7]) ready ∧ Served (.zget [255]) ready ∧
      Served (.trd (byte 1 :: le16 356 ++ le16 1)) ready ∧ chunkOk ready.pfs.ws.content 1 356 1 = true ∧
      absentBeam ready.pfs.ws.content 1 = false ∧ Served (.plst [255]) ready ∧ Served (.brd []) ready ∧
      ready.pfs.bootWriting = false ∧ Param.ofCode 0x11 = some .level ∧ bankOfByte 1 = some .beam ∧ bankOfByte 2 = none ∧
      Param.ofCode 0x04 = none :=
  ⟨⟨_, rfl, Or.inr ⟨rfl, by decide, (by intro x hx; cases hx), rfl⟩⟩, served_of rfl rfl rfl, served_of rfl rfl rfl,
    served_of rfl rfl rfl, by decide, by decide, served_of rfl rfl rfl, served_of rfl rfl rfl, rfl, by decide, by decide,
    by decide, by decide⟩

theorem witness_LatchesAndReset : Served (.ltch []) ready ∧ Served (.rset []) ready :=
  ⟨served_of rfl rfl rfl, served_of rfl rfl rfl⟩

theorem witness_StreamStartsAndStops :
    Served (.sgo [byte 3]) ready ∧ (withBeam ready).pfs.ws.content.beam.isSome = true ∧
      ready.pfs.ws.content.beam = none ∧ ready.csq.streamRequested = false ∧ (running .flood).csq.streamRequested = true ∧
      Served (.shlt []) halfFrame ∧ halfFrame.csq.exposure = none ∧ (halfFrame.phc.lin .lin1).content = .half ∧
      Served (.sgo [4]) ready :=
  ⟨served_of rfl rfl rfl, rfl, rfl, rfl, rfl, served_of rfl rfl rfl, rfl, rfl, served_of rfl rfl rfl⟩

theorem witness_StillsQueuedAndCancelled :
    (request 255 .flood).valid ready.pfs.ws.content ∧ Served (.stil (stilBody (request 255 .flood))) ready ∧
      255 ∉ openTags ready.csq ∧ ready.csq.queue.length < 4 ∧ 5 ∈ openTags (queued .flood).csq ∧
      Served (.scan [byte 5]) (queued .flood) ∧ 5 ∈ (queued .flood).csq.queue.map StillRequest.tag ∧
      stilling.csq.active = some (track 5 .flood .exposing) ∧ (track 5 .flood .exposing).req.tag = 5 ∧
      stilling.phc.accF.state = .opened ∧ stilling.pxr.exposureTimer = none ∧
      5 ∈ (awaiting .stream none).csq.later.map (fun a => a.req.tag) := by
  refine ⟨⟨by decide, by decide, by decide, by decide, fun k h => by cases h⟩, served_of rfl rfl rfl, by decide, by decide,
    by decide, served_of rfl rfl rfl, by decide, rfl, rfl, rfl, rfl, by decide⟩

theorem witness_ZoneDefined :
    ({ ZoneDef.default .beam with high := 4095, glareLimit := 1024 } : ZoneDef).valid ∧
      Served (.zset (zoneDefBytes 7 (ZoneDef.default .beam))) ready :=
  ⟨by unfold ZoneDef.valid; decide, served_of rfl rfl rfl⟩

theorem witness_TableChunkWritten :
    (1 : Nat) < 5 ∧ (∀ e ∈ [le16 5000], e.length = entryBytes 1) ∧ chunkOk ready.pfs.ws.content 1 356 1 = true ∧
      absentBeam ready.pfs.ws.content 1 = false ∧ Served (.twrt (twrtBody 1 356 [le16 5000])) ready ∧
      openToWriting ready = true ∧ openToWriting (running .flood) = true ∧
      openToWriting (serving .exposing flood) = false ∧ ready.pfs.ws.content.gainF.length = 357 :=
  ⟨by decide, by decide, by decide +kernel, by decide +kernel, served_of rfl rfl rfl, by decide +kernel, by decide +kernel, by decide +kernel, by decide +kernel⟩

theorem witness_StoreRequests :
    Served (.pact [byte 2]) (storing ready) ∧ (storing ready).pfs.directory[(2 : Fin 8)].state = .valid ∧
      ready.pfs.directory[(2 : Fin 8)].state = .empty ∧ Served (.psav [byte 2]) (storing ready) ∧
      (storing ready).pfs.op = none ∧ switching (storing ready) = false ∧
      (writeContent { ready.pfs.ws.content with profileId := 9 } ready).pfs.ws.content.profileId ≠ 0 ∧
      ready.pfs.directory[(2 : Fin 8)].guarded = false ∧ (∀ k : Fin 8, k ≠ 2 → ready.pfs.directory[k].validId ≠ some 9) ∧
      Served (.pers [byte 2]) ready ∧ Served (.sers []) ready ∧ Served (.pprt [byte 2]) (storing ready) ∧
      Served (.bwrt (byte 3 :: le16 400 ++ [byte 3, byte 1, byte 1, byte 1, byte 1])) ready ∧
      (loading .copy []).pfs.op.isSome = true ∧ Served (.pact [255]) ready ∧ ready.pfs.boundSlot 0 = none := by
  refine ⟨served_of rfl rfl rfl, by decide +kernel, by decide +kernel, served_of rfl rfl rfl, rfl, by decide +kernel,
    by decide +kernel, by decide +kernel, by decide +kernel, served_of rfl rfl rfl, served_of rfl rfl rfl,
    served_of rfl rfl rfl, served_of rfl rfl rfl, by decide +kernel, served_of rfl rfl rfl, by decide +kernel⟩

theorem witness_ProbeForceAndCompletion :
    Served (.hprb [0]) ready ∧ Served (.hprb [1]) ready ∧ Served (.hprb [2]) ready ∧
      (probing .idle none none).hpb.conv = .idle ∧ ready.hpb.conv ≠ .idle ∧ ready.hpb.conv = .convertingId ∧
      ready.hpb.forceHeld = false :=
  ⟨served_of rfl rfl rfl, served_of rfl rfl rfl, served_of rfl rfl rfl, rfl, by decide, rfl, rfl⟩

theorem witness_Psets (v : Word32) :
    Served (.psetLevel 0 0 v) ready ∧ Served (.psetMin 1 0 v) ready ∧ Served (.psetMax 0 0 v) ready ∧
      Served (.psetExpo 0 0 v) ready ∧ Served (.psetMode 0 0 v) ready ∧ Served (.psetSteer 0 0 v) ready ∧
      Served (.psetCeiling 0 0 v) ready ∧ 10000 ≤ ready.lpc.startupCeiling ∧ Served (.psetDerateStart 0 0 v) ready ∧
      Served (.psetCutoff 0 0 v) ready ∧ Served (.psetSendMode 0 0 v) ready ∧ Served (.psetRiseEn 0 2 v) ready ∧
      Served (.psetFallEn 0 1 v) ready ∧ Served (.psetNoticeEn 0 0 v) ready ∧ ready.cdu.noticeEn = true :=
  ⟨served_of rfl rfl rfl, served_of rfl rfl rfl, served_of rfl rfl rfl, served_of rfl rfl rfl, served_of rfl rfl rfl,
    served_of rfl rfl rfl, served_of rfl rfl rfl, by decide, served_of rfl rfl rfl, served_of rfl rfl rfl,
    served_of rfl rfl rfl, served_of rfl rfl rfl, served_of rfl rfl rfl, served_of rfl rfl rfl, rfl⟩

theorem witness_PsetThermalLimits :
    ready.lpc.cutoffAt ≤ clampInt (-80) 248 170 ∧ clampInt (-80) 248 169 < ready.lpc.cutoffAt ∧
      clampInt (-70) 249 140 ≤ ready.lpc.derateStart ∧ ready.lpc.derateStart < clampInt (-70) 249 141 ∧
      (ready.setLpc { ready.lpc with temperature := some 141 }).lpc.temperature = some 141 := by decide +kernel

theorem witness_PsetSendMode :
    ready.ofq.sendMode = .onDemand ∧ (fixedRate .held [] none).ofq.sendMode = .fixedRate ∧
      (fixedRate .held [] none).ofq.heldSlot = some 1 ∧ (fixedRate .ready [1] none).ofq.readyOrder = 1 :: [] ∧
      (fixedRate .ready [1] none).ofq.send = none ∧ (0xFFFF : Word32).toNat ≤ 0xFFFF ∧ 0xFFFF < (0x10000 : Word32).toNat := by
  decide +kernel

theorem witness_PsetHeaderFields (v : Word32) :
    Served (.psetProfileId 0 0 v) ready ∧ Served (.psetHeadBind 0 0 v) ready ∧ Served (.psetBankSet 0 0 v) ready ∧
      Served (.psetHasTone 0 0 v) ready ∧ Served (.psetOutWidth 0 0 v) ready ∧ Served (.psetOutHeight 0 0 v) ready ∧
      Served (.psetLabel 0 0 (List.replicate 16 65)) ready ∧ openToWriting ready = true ∧
      openToWriting (serving .exposing flood) = false ∧ ready.pfs.ws.content.tone = none :=
  ⟨served_of rfl rfl rfl, served_of rfl rfl rfl, served_of rfl rfl rfl, served_of rfl rfl rfl, served_of rfl rfl rfl,
    served_of rfl rfl rfl, served_of rfl rfl rfl, by decide, by decide, rfl⟩

theorem witness_PsetPlainParameters (code : Byte) (v : Word32) :
    Served (.pset (code :: 0 :: 0 :: word32Bytes v)) ready ∧ ready.phc.blackMode = .auto ∧ quiescent ready = true ∧
      quiescent (serving .exposing flood) = false ∧ ownRow ((Param.ofCode 0x04).getD .align) = false ∧
      Param.ofCode 0x04 = none :=
  ⟨served_of rfl rfl rfl, rfl, by decide, by decide, by decide, by decide⟩

/-- A measurement of zone 0 for bank F. -/
def metered : Measurement :=
  { number := 7, bank := .flood, clipLevel := 4032,
    zones := [{ index := 0, defn := { ZoneDef.default .flood with enabled := true }, sum := 0, clipped := 0 }] }

theorem witness_ZoneResultsDriveLoop :
    let s := wholeReadout flood .flood
    let t := (s.setMtu { s.mtu with measurement := some metered }).setLpc
      { s.lpc with flood := { s.lpc.flood with lastLit := some ⟨7, 256⟩ } }
    t.pxr.state = .inFrame .between ∧ t.pxr.lineNumber = 1024 ∧ 0 < t.pxr.received ∧ t.pxr.patched ≤ t.pxr.patchLimit ∧
      t.csq.exposure = some flood ∧ t.mtu.measurement = some metered ∧
      (metered.zones.find? fun x => x.index = 0).map MeasuredZone.index = some 0 ∧
      t.mtu.zones[(0 : Fin 8)].revised = false ∧ (t.lpc.bank .flood).mode = .auto ∧ (t.lpc.bank .flood).steer = some 0 ∧
      (t.lpc.bank .flood).lastLit = some ⟨7, 256⟩ ∧ (7 : Word32) = metered.number := by decide +kernel

theorem witness_PixelArithmetic :
    (∀ v ∈ [4096, 65535], v ≤ 65535) ∧ (4095 : Nat) ≤ 4095 ∧ 4095 * 4096 + 2048 < 4096 * 16384 ∧ (256 : Nat) ≤ 256 ∧
      (0 : Int) ≤ 4095 := by decide

/-- A FUSE frame's F exposure in flight is cancelled, stopped or lost: the states of those clauses. -/
theorem witness_ExposureInFlight :
    let first := record (.lit .flood) .stream (some (.first, .lin0))
    let s := wholeReadout first .fuse
    let s := s.setPhc { s.phc with lin0 := { LinearBuffer.blank with content := .writing } }
    let shot := record (.lit .flood) (.still 5) none
    let c := stilling.setCsq { stilling.csq with exposure := some shot }
    let c := c.setPxr { c.pxr with exposureTimer := some 2000 }
    let lost := (serving .exposing flood).setHpb (probing .convertingId (some .openLine) (some (.head 0))).hpb
    Served (.shlt []) s ∧ s.csq.frame.map StreamFrame.recipe = some .fuse ∧ s.csq.exposure = some first ∧
      first.kind = .lit .flood ∧ (s.phc.lin .lin0).content = .writing ∧
      Served (.scan [byte 5]) c ∧ c.csq.active = some (track 5 .flood .exposing) ∧ c.csq.exposure = some shot ∧
      shot.purpose = .still 5 ∧ c.pxr.exposureTimer.isSome = true ∧
      lost.csq.exposure = some flood ∧ lost.hpb.conv = .convertingId ∧ lost.hpb.candidate = some .openLine ∧
      lost.hpb.adopted = some (.head 0) ∧ lost.csq.state ≠ .starting ∧ lost.csq.state ≠ .switchLoad :=
  ⟨served_of rfl rfl rfl, rfl, rfl, rfl, rfl, served_of rfl rfl rfl, rfl, rfl, rfl, rfl, rfl, rfl, rfl, rfl, by decide +kernel,
    by decide +kernel⟩

/-- The invariants hold right after reset and a step of it answers a next state. -/
theorem witness_Invariants :
    ConditionsInv State.reset ∧ StillsInv State.reset ∧ ∃ t, step State.reset = .next t :=
  ⟨⟨by decide, by decide, by decide⟩, ⟨by decide, by decide, by decide⟩, _, rfl⟩

/-! ## Witnesses of the clauses about handed rows, stills' exposures, loads, the scan and the refusals -/

/-- A row of the sensor's width. -/
def plainRow (p : Nat) : List Nat := List.replicate 1280 p

/-- The ready part serving an exposure of which a row is handed, the Metering Unit measuring zone 0, tile column 19. -/
def handing (r : ExposureRecord) : State :=
  let s := serving (.inFrame .between) r
  let d : ZoneDef := { ZoneDef.default .flood with col0 := 19, col1 := 19, row0 := 0, row1 := 15 }
  let m : Measurement :=
    { number := 7, bank := .flood, clipLevel := 4032, zones := [{ index := 0, defn := d, sum := 0, clipped := 0 }] }
  s.setMtu { s.mtu with measurement := some m }

/-- The dark sum takes rows 384 to 639, columns 128 to 1151 (R21): 1024 pixels of 5, and none of row 383 or 640. -/
theorem test_dark_window :
    let s := handing (record .dark .darkReference none)
    let s := s.setPhc { s.phc with darkSum := some 1 }
    (handRow 384 (plainRow 5) s).phc.darkSum = some 5121 ∧ (handRow 639 (plainRow 5) s).phc.darkSum = some 5121 ∧
      (handRow 383 (plainRow 5) s).phc.darkSum = some 1 ∧ (handRow 640 (plainRow 5) s).phc.darkSum = some 1 := by
  decide +kernel

/-- A zone of tile column 19 sums 64 pixels less the black level of 64, and counts those at the clip level (R67). -/
theorem test_zone_row :
    let t := handRow 1023 (plainRow 4032) (handing (record .dark .darkReference none))
    t.mtu.measurement.map (fun m => m.zones.map fun z => (z.sum, z.clipped)) = some [(64 * 3968, 64)] := by decide +kernel

/-- A still's pending plane takes the row less its black level, without a clamp (R34). -/
theorem test_pending_plane :
    let s := handing (record (.lit .beam) (.still 5) none)
    let s := s.setPhc (s.phc.setAcc .beam { Accumulator.claimed with state := .receiving })
    (handRow 0 [60, 64, 70] s).phc.accB.pendingPlane = [[-4, 0, 6]] := by decide +kernel

theorem witness_LineCloses_handedRow :
    let second := record (.lit .beam) .stream (some (.second, .lin1))
    let s2 := handing second
    let s2 := s2.setPhc { s2.phc with lin1 := { LinearBuffer.blank with content := .writing, rows := [plainRow 7] } }
    let still := record (.lit .flood) (.still 5) none
    let s3 := handing still
    let s3 := s3.setPhc { s3.phc with accF := { Accumulator.claimed with state := .receiving } }
    (handing flood).csq.exposure = some flood ∧ (plainRow 5).length = 1280 ∧ flood.kind = .lit .flood ∧
      flood.purpose = .stream ∧ flood.assigned = some (.single, .lin0) ∧
      ((handing flood).phc.lin .lin0).releaseMarked = false ∧ ((handing flood).phc.lin .lin0).rows.length = 0 ∧
      (handing flood).mtu.measurement.isSome = true ∧ ready.mtu.measurement = none ∧ ready.csq.exposure = none ∧
      s2.csq.exposure = some second ∧ second.assigned = some (.second, .lin1) ∧ (s2.phc.lin .lin1).releaseMarked = false ∧
      (s2.phc.lin .lin1).rows[0]? = some (plainRow 7) ∧ (plainRow 7).length = 1280 ∧
      s3.csq.exposure = some still ∧ still.purpose = .still 5 ∧ (s3.phc.acc .flood).state = .receiving ∧
      (s3.phc.acc .flood).pendingPlane.length = 0 := by decide +kernel

/-- A still's F exposure between lines, its accumulator in a state and some abandonments counted. -/
def stillReadout (acc : AccState) (abandonments received : Nat) : State :=
  let s := between 1024 received 0 (record (.lit .flood) (.still 5) none)
  (s.setPhc { s.phc with accF := { Accumulator.claimed with state := acc, folded := 1 }, accB := Accumulator.claimed }).setCsq
    { s.csq with state := .still, active := some { track 5 .flood .exposing with doneF := 1, abandonments } }

theorem witness_FrameCloseJudgesReadout_still :
    let s := stillReadout .receiving 1 1024
    s.csq.exposure = some (record (.lit .flood) (.still 5) none) ∧ s.pxr.state = .inFrame .between ∧
      s.phc.accF.state = .receiving ∧ 0 < s.pxr.received ∧ s.pxr.patched + (1024 - s.pxr.lineNumber) ≤ s.pxr.patchLimit ∧
      s.csq.active.map (fun a => (a.req.tag, a.abandonments)) = some (5, 1) ∧
      (stillReadout .discarding 0 1024).phc.accF.state = .discarding ∧ (stillReadout .receiving 2 0).pxr.received = 0 ∧
      (stillReadout .receiving 2 0).csq.active.map (fun a => a.abandonments) = some 2 := by decide +kernel

/-- A still's exposures end: FOLDING with the count raised; OPEN with an abandonment counted; the third fails the still;
DISCARDING to FREE (R35, R110). -/
theorem test_still_exposure_ends :
    let done := nextOf .frameClose (stillReadout .receiving 1 1024)
    let lost := nextOf .frameClose (stillReadout .receiving 1 0)
    let third := nextOf .readoutTimeout (stillReadout .receiving 2 1024)
    done.phc.accF.state = .folding ∧ done.csq.active.map (fun a => (a.doneF, a.phase)) = some (2, .exposing) ∧
      lost.phc.accF.state = .opened ∧ lost.csq.active.map (fun a => (a.doneF, a.abandonments)) = some (1, 2) ∧
      third.csq.active = none ∧ third.phc.accF.state = .free ∧ third.cdu.latches = 0x0900 ∧ third.csq.state = .idle ∧
      (nextOf .frameClose (stillReadout .discarding 0 1024)).phc.accF.state = .free := by decide +kernel

/-- The last exposure of a FLOOD still of depth 4: AWAIT_FINALISE with its values (R110). -/
theorem test_still_awaits_finalise :
    let s := stillReadout .receiving 0 1024
    let s := s.setCsq { s.csq with active := some { track 5 .flood .exposing with doneF := 3 } }
    (nextOf .frameClose s).csq.active.map (fun a => (a.doneF, a.phase, a.values.map PictureValues.last))
      = some (4, .awaitFinalise, some 7) := by decide +kernel

theorem witness_SwitchDrainsThenLoads_notValid :
    (drainedTo (.slot 2)).csq.switchTarget = some (.slot 2) ∧
      (drainedTo (.slot 2)).pfs.directory[(2 : Fin 8)].state ≠ .valid ∧ (drainedTo (.slot 2)).csq.loadHalt = false ∧
      (drainedTo (.slot 2)).lpc.cutoff = false ∧ (drainedTo (.slot 2)).hpb.adopted = some (.head 0) ∧
      (∀ k, (drainedTo (.slot 2)).hpb.lastHead ≠ some k) ∧
      (nextOf .switchLoad (drainedTo (.slot 2))).csq.state = .idle ∧
      (nextOf .switchLoad (drainedTo (.slot 2))).pfs.lastResult = .corrupt := by decide +kernel

/-- A load of slot 2 in a pass, in start-up. -/
def startingLoad (p : LoadPass) (bytes : List Byte) : State :=
  (loading p bytes).setCsq { (loading p bytes).csq with state := .starting, autostart := some .fuse }

theorem witness_LoadPassesVerifyThenCopy_startUp :
    (startingLoad .copy []).csq.state = .starting ∧ (startingLoad .copy []).pfs.op = some (.load 2 .copy) ∧
      (startingLoad .copy []).pfs.standby = some WorkingSet.default ∧
      (startingLoad .verify []).pfs.op = some (.load 2 .verify) ∧
      (startingLoad .copy []).csq.autostart = some .fuse ∧ (startingLoad .copy []).lpc.cutoff = false ∧
      (nextOf .copyPassDone (startingLoad .copy [])).csq.state = .run ∧
      (nextOf .copyPassDone (startingLoad .copy [])).pxr.state = .idle := by decide +kernel

theorem witness_ScanClassesSlots_converse :
    let h := { WorkingSet.default.content.header with profileId := 1 }
    readHeader (h.bytes ++ [0]) = some h ∧ blankBytes (h.bytes ++ [0]) = false ∧ StoreSlot.blank.workMark = false ∧
      (∀ j : Fin 8, j < 0 → ready.pfs.directory[j].validId ≠ some h.profileId) ∧
      ((storing ready).pfs.directory[(2 : Fin 8)].validId = some 0 ∧ (2 : Fin 8) < 7) := by decide +kernel

/-- The first adoption, in start-up with an idle transmitter, no slot bound: the notice carries STARTING's state code although
start-up ends in that step (R171). -/
theorem test_first_adoption_notice :
    let s := State.reset.setHpb { State.reset.hpb with candidate := some (.head 0) }
    let t := nextOf (.idConversionDone 64) (s.setCsq { s.csq with scanDone := true })
    t.csq.state = .idle ∧ t.cml.tx = some (.notice ⟨0x60, [3, 0, 0x11, 0x80, 0]⟩) ∧ t.cdu.noticePending = false := by
  decide +kernel

/-- The halt ends when the temperature falls to CUTOFF less 10 half-degrees, and not above it (R85, R118). -/
theorem test_cutoff_off :
    let s := (probing .convertingTemp none (some (.head 0))).setLpc { ready.lpc with cutoff := true, temperature := some 170 }
    let s := s.setCsq { s.csq with state := .halt, streamRequested := true }
    temperatureOf 745 = some 160 ∧ (nextOf (.tempConversionDone 745) s).csq.state = .run ∧
      temperatureOf 748 = some 161 ∧ (nextOf (.tempConversionDone 748) s).csq.state = .halt := by decide +kernel

/-- A bank in AUTO at its maximum whose steering zone is LOW is underlit (R91). -/
theorem test_underlit :
    let z : Zone := { ready.mtu.zones[(0 : Fin 8)] with
      result := { ready.mtu.zones[(0 : Fin 8)].result with level := .low } }
    let s := ready.setLpc { ready.lpc with
      temperature := some 100, steering := ready.lpc.steering.set 0 z, flood := { ready.lpc.flood with level := 1000 } }
    (reportUnderlit s).cdu.live.getLsbD 7 = true ∧
      (reportUnderlit (s.setLpc { s.lpc with flood := { s.lpc.flood with level := 999 } })).cdu.live.getLsbD 7 = false := by
  decide +kernel

theorem witness_SoftResetValues :
    let s := (fixedRate .ready [1] none).setCml { ready.cml with tx := some (.reply ⟨0xBF, [0]⟩ true) }
    s.cml.tx = some (.reply ⟨0xBF, [0]⟩ true) ∧ s.ofq.sendMode = .fixedRate ∧
      (nextOf .frameSent s).ofq.periodTimer = some 40000 := by decide +kernel

/-- The line of 0xA5, and of a notice being sent; the four rates (R174). -/
theorem test_line :
    lineBits 0xA5 = [false, true, false, true, false, false, true, false, true, true] ∧
      byteOnLine (lineBits 0xA5) = some 0xA5 ∧ byteOnLine [true] = none ∧
      transmitBytes (ready.setCml { ready.cml with tx := some (.reply ⟨0x82, [0]⟩ false) })
        = [0xA5, 2, 0x82, 0] ++ checkBytes [2, 0x82, 0] ∧
      [0, 1, 2, 3].map baudOf = [115200, 230400, 460800, 921600] := by decide +kernel

theorem witness_StillRefusals :
    let c := ready.pfs.ws.content
    let k : Crop := ⟨960, 704, 64, 64⟩
    stilRefused c 0 1 1 0 0 0 0 k ∧ stilRefused c 1 1 1 16 0 0 0 k ∧ stilRefused c 1 4 1 0 0 0 0 k ∧
      stilRefused c 1 1 3 0 0 0 0 k ∧ stilRefused c 1 1 1 1 2 0 0 k ∧ stilRefused c 1 3 1 2 0 1 0 k ∧
      stilRefused c 1 1 1 9 1 0 0 k ∧ stilRefused c 1 1 1 8 0 0 0 ⟨960, 720, 64, 64⟩ ∧
      stilRefused c 1 1 1 8 0 0 0 ⟨0, 0, 48, 64⟩ ∧ ¬stilRefused c 1 1 1 15 0 1 1 k ∧
      Served (.stil ([0, 1, 1, 0, 0, 0, 0] ++ le16 960 ++ le16 704 ++ le16 64 ++ le16 64)) ready ∧
      Served (.stil ([9, byte Recipe.flood.code, 16, 0, 7, 8, 9] ++ List.replicate 8 255)) ready := by
  refine ⟨by unfold stilRefused; decide, by unfold stilRefused; decide, by unfold stilRefused; decide,
    by unfold stilRefused; decide, by unfold stilRefused; decide, by unfold stilRefused; decide,
    by unfold stilRefused; decide, by unfold stilRefused; decide, by unfold stilRefused; decide,
    by unfold stilRefused; decide, served_of rfl rfl rfl, served_of rfl rfl rfl⟩

/-- The defaults fill the absent fields, whatever stands in them (R107); a body refused leaves the queue as it was. -/
theorem test_still_defaults :
    (nextOf (.stil ([9, 1, 16, 0, 7, 8, 9] ++ List.replicate 8 255)) ready).csq.queue
        = [{ tag := 9, recipe := .flood, depth := 16, geometry := .corrected, photometric := .apply, format := .toned8,
             crop := none }] ∧
      newestReply (nextOf (.stil ([9, 1, 3, 0, 0, 0, 0] ++ List.replicate 8 0)) ready) = some ⟨0x92, [0x12]⟩ := by
  decide +kernel

theorem witness_ZoneDefined_refusedAndClamped :
    let d : ZoneDef := { ZoneDef.default .beam with col0 := 0, col1 := 19, row0 := 0, row1 := 15, low := 4095, high := 4095,
                                                    glareLimit := 1024 }
    Served (.zset ([8, 0, 0, 0, 0, 0, 0] ++ le16 0 ++ le16 0 ++ le16 0)) ready ∧
      Served (.zset ([7, 1, 0, 19, 0, 15, 1] ++ le16 4096 ++ le16 65535 ++ le16 1025)) ready ∧ d.valid ∧
      d.low = min 4096 4095 ∧ d.high = min 65535 4095 ∧ d.glareLimit = min 1025 1024 ∧ min 99 4095 < min 100 4095 :=
  ⟨served_of rfl rfl rfl, served_of rfl rfl rfl, by unfold ZoneDef.valid; decide, by decide, by decide, by decide, by decide⟩

/-- ZSET clamps magnitudes and answers OK_CLAMPED; a tile row of 16, and a low threshold above the high, are refused (R63). -/
theorem test_zset :
    let reply (b : List Byte) := newestReply (nextOf (.zset b) ready)
    reply ([7, 1, 0, 19, 0, 15, 1] ++ le16 4096 ++ le16 65535 ++ le16 1025)
        = some ⟨0x94, [1, 7, 1, 0, 19, 0, 15, 1, 0xFF, 0x0F, 0xFF, 0x0F, 0, 4]⟩ ∧
      (reply ([7, 1, 0, 19, 0, 16, 1] ++ le16 0 ++ le16 0 ++ le16 0)).map (fun f => f.body.length) = some 1 ∧
      (reply ([7, 1, 0, 19, 0, 15, 1] ++ le16 100 ++ le16 99 ++ le16 0)).map (fun f => f.body.length) = some 1 := by
  decide +kernel

theorem witness_TableChunkWritten_entries :
    (ready.pfs.ws.content.writeChunk 4 1024 [[9]]).tone.map (fun t => (t.length, t.getD 0 7, t.getD 1023 7, t.getD 1024 7))
        = some (1025, 0, 255, 9) ∧
      ((withBeam ready).pfs.ws.content.writeChunk 3 356 [le16 257]).beam.map (fun b => b.weight.getD 356 0) = some 256 ∧
      ready.pfs.ws.content.tone = none ∧ (∀ e ∈ [le16 257], e.length = entryBytes 3) ∧
      chunkOk (withBeam ready).pfs.ws.content 3 356 1 = true ∧ chunkOk ready.pfs.ws.content 4 1024 1 = true ∧
      (withBeam ready).pfs.ws.content.beam = some BeamTables.fresh ∧ BeamTables.fresh.weight.length = 357 ∧
      ready.pfs.ws.content.mesh.length = (ready.pfs.ws.content.width / 16 + 1) * (ready.pfs.ws.content.height / 16 + 1) := by
  decide +kernel

theorem witness_PsetRefusedFirst (v : Word32) :
    Served (.psetLevel 2 0 v) ready ∧ Served (.psetExpo 0 1 v) ready ∧ Served (.psetRiseEn 0 3 v) ready ∧
      Served (.psetLabel 0 2 (List.replicate 16 65)) ready ∧ (Instr.psetLevel 2 0 v).wellFormed = true ∧
      requestOf (.psetLevel 2 0 v) = some ⟨0x04, byte Param.level.code :: 2 :: 0 :: word32Bytes v⟩ ∧
      lengthOk ⟨0x04, byte Param.level.code :: 2 :: 0 :: word32Bytes v⟩ = true ∧ Param.level.perBank = true ∧
      Param.ofCode (byte Param.level.code) = some .level ∧ (3 : Byte).toNat > 2 :=
  ⟨served_of rfl rfl rfl, served_of rfl rfl rfl, served_of rfl rfl rfl, served_of rfl rfl rfl, rfl, rfl, rfl, rfl, by decide,
    by decide⟩

/-- A bank byte of 2, SET of EXPO and style 3 are BAD_PARAM before the owner's checks (R181). -/
theorem test_pset_refused_first :
    let reply (i : Instr) := newestReply (nextOf i ready)
    reply (.psetLevel 2 0 100) = some ⟨0x84, [0x12]⟩ ∧ reply (.psetExpo 0 1 100) = some ⟨0x84, [0x12]⟩ ∧
      reply (.psetRiseEn 0 3 100) = some ⟨0x84, [0x12]⟩ ∧ reply (.psetRiseEn 0 1 0) = some ⟨0x84, [0, 0xFF, 0xFF, 0, 0]⟩ := by
  decide +kernel

theorem witness_PixelArithmetic_betweenNodes :
    (63 : Nat) < 64 ∧ (4 : Nat) ≤ 4 ∧ stackedValue 8 16 = 1 ∧ stackedValue 7 16 = 0 ∧ stackedValue 65536 16 = 4095 ∧
      fuseBlend 128 1 0 = 1 ∧
      (let j : FinaliseJob := ⟨.lin0, .fuse, 1, .apply⟩
       (withBeam ready).pfs.ws.content.beam = some BeamTables.fresh ∧ j.recipe = .fuse ∧
        finalisePixel (withBeam ready).pfs.ws.content j { Accumulator.blank with sum := [[100]] }
          { Accumulator.blank with sum := [[200]] } 0 0 = 150) := by decide +kernel

/-! ## Witnesses of the clauses about halts, lost readouts, renders' pixels, replies and further refusals -/

/-- A temperature conversion under way, the part in RUN over an exposure in flight. -/
def heating (st : ReceiverState) (r : ExposureRecord) : State :=
  (serving st r).setHpb (probing .convertingTemp none (some (.head 0))).hpb

/-- The half frame, the still at its exposures and the load, each with a temperature conversion under way. -/
def hot (s : State) : State := s.setHpb (probing .convertingTemp none (some (.head 0))).hpb

/-- A head lost or swapped: the second conversion that reads it is under way. -/
def losing (c : Classification) (s : State) : State := s.setHpb (probing .convertingId (some c) (some (.head 0))).hpb

theorem witness_HaltArises :
    temperatureOf 776 = some 170 ∧ ready.lpc.cutoffAt ≤ 170 ∧ (heating .exposing flood).hpb.conv = .convertingTemp ∧
      (heating .exposing flood).csq.state = .run ∧ (heating .exposing flood).csq.exposure = some flood ∧
      flood.kind = .lit .flood ∧ flood.purpose = .stream ∧ flood.assigned = some (.single, .lin0) ∧
      (record .dark .darkReference none).kind = .dark ∧ (hot halfFrame).csq.exposure = none ∧
      (hot halfFrame).csq.frame.map StreamFrame.buffer = some .lin1 ∧ ((hot halfFrame).phc.lin .lin1).content = .half ∧
      (hot stilling).csq.active = some (track 5 .flood .exposing) ∧ ((hot stilling).phc.acc .flood).state = .opened ∧
      (hot (loading .copy [])).csq.state = .switchLoad ∧ (hot stilling).csq.state ≠ .switchLoad ∧
      (losing .openLine halfFrame).csq.frame.isSome = true ∧ (losing .openLine (loading .copy [])).csq.state = .switchLoad := by
  decide +kernel

/-- A cutoff abandons a lit exposure, lets a dark one run on, drops the half frame, fails the active still, and in SWITCH-LOAD
is only noted (R117). -/
theorem test_cutoff_halts :
    let t := nextOf (.tempConversionDone 776) (heating .exposing flood)
    let d := nextOf (.tempConversionDone 776) (heating .exposing (record .dark .darkReference none))
    let h := nextOf (.tempConversionDone 776) (hot halfFrame)
    let a := nextOf (.tempConversionDone 776) (hot stilling)
    let l := nextOf (.tempConversionDone 776) (hot (loading .copy []))
    t.csq.state = .halt ∧ t.csq.exposure = none ∧ t.pxr.state = .idle ∧
      t.csq.lastEnded.map (fun r => (r.state, r.reason)) = some (.abandoned, some .lampCutoff) ∧
      d.csq.state = .halt ∧ d.csq.exposure.isSome = true ∧ d.pxr.state = .exposing ∧
      h.csq.state = .halt ∧ h.csq.frame = none ∧ (h.phc.lin .lin1).content = .empty ∧
      a.csq.active = none ∧ a.cdu.latches.getLsbD 11 = true ∧ a.phc.accF.state = .free ∧
      l.csq.state = .switchLoad ∧ l.csq.loadHalt = true := by decide +kernel

/-- A head adopted in RUN sets the target, in SWITCH-LOAD the next target (R113); a loss there is only noted (R117). -/
theorem test_adoption_targets :
    let run := nextOf (.idConversionDone 381) (losing (.head 4) (running .flood))
    let load := nextOf (.idConversionDone 381) (losing (.head 4) (loading .copy []))
    let lost := nextOf (.idConversionDone 1023) (losing .openLine (loading .copy []))
    classify 381 = .head 4 ∧ classify 1023 = .openLine ∧ run.csq.switchTarget = some (.head 4) ∧
      run.csq.nextTarget = none ∧ load.csq.switchTarget = none ∧ load.csq.nextTarget = some (.head 4) ∧
      lost.csq.state = .switchLoad ∧ lost.csq.loadHalt = true := by decide +kernel

/-- A stream readout with nothing received, LIN0 in writing for it and marked for release or not. -/
def lostReadout (marked : Bool) (received : Nat) : State :=
  let s := between 1024 received 0 flood
  (s.setPhc { s.phc with lin0 := { LinearBuffer.blank with content := .writing, releaseMarked := marked } }).setCsq
    { s.csq with frame := some { recipe := .flood, degraded := false, buffer := .lin0, parts := [] } }

theorem witness_FrameCloseJudgesReadout_stream :
    (lostReadout false 0).csq.exposure = some flood ∧ (lostReadout false 0).pxr.state = .inFrame .between ∧
      (lostReadout false 0).pxr.received = 0 ∧ ((lostReadout true 1024).phc.lin .lin0).releaseMarked = true ∧
      (between 1024 0 0 (record .dark .darkReference none)).csq.exposure.map ExposureRecord.kind = some .dark ∧
      (let s := between 1022 1021 2 flood
       let s := s.setPxr { s.pxr with lastLine := some (plainRow 9) }
       0 < s.pxr.received ∧ s.pxr.lastLine = some (plainRow 9) ∧ s.pxr.lineNumber ≤ 1024 ∧
         s.pxr.patched + (1024 - s.pxr.lineNumber) ≤ s.pxr.patchLimit) := by decide +kernel

/-- An abandoned stream exposure and a released buffer leave it EMPTY (R31, R32); an abandoned dark changes nothing (R21). -/
theorem test_lost_readouts :
    let lost := nextOf .frameClose (lostReadout false 0)
    let marked := nextOf .frameClose (lostReadout true 1024)
    let timed := nextOf .readoutTimeout (lostReadout false 5)
    let dark := nextOf .frameClose (between 1024 0 0 (record .dark .darkReference none))
    (lost.phc.lin .lin0).content = .empty ∧ lost.csq.frame = none ∧ lost.csq.awaiting = [] ∧
      (marked.phc.lin .lin0).content = .empty ∧ marked.csq.lastEnded.map ExposureRecord.state = some .complete ∧
      (timed.phc.lin .lin0).content = .empty ∧ timed.csq.frame = none ∧
      dark.phc.lastDark = none ∧ dark.phc.black = ready.phc.black := by decide +kernel

/-- Missing rows 1022 and 1023 are handed as copies of the last line received (R11). -/
theorem test_trailing_rows :
    let s := between 1022 1021 2 (record (.lit .flood) .stream (some (.single, .lin0)))
    let s := s.setPxr { s.pxr with lastLine := some [9, 8] }
    let s := s.setPhc { s.phc with lin0 := { LinearBuffer.blank with content := .writing, rows := List.replicate 1022 [] } }
    ((nextOf .frameClose s).phc.lin .lin0).rows.length = 1024 := by decide +kernel

/-- 03, one output pixel through `renderRow`: toned, in LINEAR16, past the field, and in SENSOR geometry. -/
theorem test_render_row :
    let c := { WorkingSet.default.content with
      mesh := List.replicate 67 (0, 0) ++ [(6400, 4000), (6720, 4016)] ++ List.replicate 63 (0, 0) ++
        [(6384, 4320), (6704, 4336)] }
    let rows := List.replicate 255 [] ++ [List.replicate 409 0 ++ [2000, 2040], List.replicate 409 0 ++ [2100, 2160]]
    let j : RenderJob := { job 0 with crop := some ⟨40, 20, 1, 1⟩, width := 1, height := 1 }
    let far := { c with mesh := c.mesh.map fun p => (p.1 + 20000, p.2) }
    renderRow c j rows 0 = [33] ∧ renderRow c { j with format := .linear16 } rows 0 = [2088] ∧
      renderRow far { j with fill := 7 } rows 0 = [7] ∧
      renderRow far { j with format := .linear16, fill := 7 } rows 0 = [0] ∧
      renderRow c { j with geometry := .sensor, format := .linear16, crop := none, width := 2 } [[5, 6], [7, 8]] 1 = [7, 8] := by
  decide +kernel

/-- The numbers a position takes in RenderCompletes: the worked pixel (6556, 4088), and the field's far corner (R48). -/
theorem witness_RenderCompletes_pixel :
    (40 : Nat) = 16 * 2 + 8 ∧ (20 : Nat) = 16 * 1 + 4 ∧ (6556 : Int) = ((16 * 409 + 12 : Nat) : Int) ∧
      (4088 : Int) = ((16 * 255 + 8 : Nat) : Int) ∧ 16 * 409 + 12 ≤ 20464 ∧ 16 * 255 + 8 ≤ 16368 ∧
      (20464 : Nat) = 16 * 1279 + 0 ∧ (16368 : Nat) = 16 * 1023 + 0 := by decide

/-- A frame of two LINEAR16 pixels being sent. -/
def sendingFrame (taken : Nat) : State :=
  let f := formOf ready.pfs.ws { job 0 with crop := some ⟨0, 0, 2, 1⟩, width := 2, height := 1, format := .linear16 }
  let x : Slot := { Slot.blank with
    state := .sending, kind := .still 5, form := some f, values := some values, pixels := [[5, 600]] }
  ready.setOfq { ready.ofq with slots := ready.ofq.slots.set 1 x, send := some ⟨1, false, taken⟩ }

/-- The port presents the frame's bytes in their order: the pixel 600 in its low and high byte (R129, R133). -/
theorem test_presented_bytes :
    ready.ofq.send = none ∧ (sendingFrame 66).ofq.slots[(1 : Fin 4)].frameLength = 68 ∧
      presentedByte (sendingFrame 64) = some 5 ∧ presentedByte (sendingFrame 66) = some 88 ∧
      presentedByte (nextOf .modemReady (sendingFrame 66)) = some 2 := by decide +kernel

/-- The finalised buffer joins those that await their render (R102). -/
theorem test_finalised_awaits :
    let a := { track 5 .flood .finalising with values := some values }
    let s := ready.setPhc { ready.phc with finalise := some ⟨.lin1, .flood, 4, .apply⟩ }
    let t := nextOf .finaliseComplete (s.setCsq { s.csq with later := [a] })
    t.csq.awaiting = [{ buffer := .lin1, kind := .still 5, values }] ∧
      t.csq.later.map StillTrack.phase = [.awaitRender] := by decide +kernel

/-- Leaving FIXED_RATE frees the HELD slot (R131). -/
theorem test_held_freed :
    (fixedRate .held [] none).ofq.heldSlot = some 1 ∧ (1 : Fin 4) ∉ (fixedRate .held [] none).ofq.readyOrder ∧
      (nextOf (.psetSendMode 0 0 0) (fixedRate .held [] none)).ofq.slots[(1 : Fin 4)].state = .free := by decide +kernel

/-- Zone 0 enabled with a mean of 0 under its low threshold: ZONE_OUT holds after the completion, GLARE does not (R71). -/
theorem test_zone_conditions :
    let s := wholeReadout flood .flood
    let d : ZoneDef := { ZoneDef.default .flood with enabled := true, low := 100 }
    let m := { metered with zones := [{ index := 0, defn := d, sum := 0, clipped := 0 }] }
    let z : Zone := { s.mtu.zones[(0 : Fin 8)] with defn := d }
    let t := nextOf .frameClose (s.setMtu { s.mtu with measurement := some m, zones := s.mtu.zones.set 0 z })
    t.cdu.live.getLsbD 5 = true ∧ t.cdu.live.getLsbD 6 = false := by decide +kernel

/-- With start-up over any request is taken; requests that are refused for their values are served. -/
theorem witness_RefusedForTheirValues :
    Served (.zget [8]) ready ∧ Served (.plst [8]) ready ∧ Served (.trd (byte 5 :: le16 0 ++ le16 1)) ready ∧
      Served (.trd (byte 2 :: le16 0 ++ le16 1)) ready ∧ ready.pfs.ws.content.beam = none ∧
      Served (.twrt (twrtBody 2 0 [le16 1])) ready ∧ Served (.twrt (twrtBody 5 0 [[1]])) ready ∧
      Served (.pact [8]) ready ∧ Served (.psav [8]) ready ∧ Served (.pers [255]) ready ∧ Served (.pprt [8]) ready ∧
      Served (.psav [byte 2]) (drainedTo (.slot 2)) ∧ (drainedTo (.slot 2)).csq.state = .switchDrain ∧
      Served (.bwrt (byte 4 :: le16 401 ++ [byte 4, byte 2, byte 2, byte 2, byte 2])) ready ∧
      Served (.bwrt (byte 3 :: le16 400 ++ [byte 3, byte 1, byte 1, byte 1, byte 1])) (loading .copy []) :=
  ⟨served_of rfl rfl rfl, served_of rfl rfl rfl, served_of rfl rfl rfl, served_of rfl rfl rfl, rfl, served_of rfl rfl rfl,
    served_of rfl rfl rfl, served_of rfl rfl rfl, served_of rfl rfl rfl, served_of rfl rfl rfl, served_of rfl rfl rfl,
    served_of rfl rfl rfl, rfl, served_of rfl rfl rfl, served_of rfl rfl rfl⟩

/-- The refusals of R141, R142, R148, R149 and R153, each its status byte alone. -/
theorem test_refusals :
    let reply (i : Instr) (s : State) := (newestReply (nextOf i s)).map fun f => f.body
    let named := writeContent { ready.pfs.ws.content with profileId := 9 } ready
    let other := { validRecord with header := some { WorkingSet.default.content.header with profileId := 9 } }
    let twin := named.setPfs { named.pfs with directory := named.pfs.directory.set 5 other }
    reply (.zget [8]) ready = some [0x12] ∧ reply (.plst [8]) ready = some [0x12] ∧
      reply (.trd (byte 5 :: le16 0 ++ le16 1)) ready = some [0x12] ∧
      reply (.trd (byte 2 :: le16 0 ++ le16 1)) ready = reply (.twrt (twrtBody 2 0 [le16 1])) ready ∧
      reply (.twrt (twrtBody 1 356 [le16 1, le16 2])) ready = some [0x12] ∧
      reply (.psav [2]) ready = some [Status.badState.code] ∧ reply (.psav [2]) twin = some [Status.duplicate.code] ∧
      reply (.psav [2]) (drainedTo (.slot 2)) = some [Status.busy.code] ∧ reply (.pact [8]) ready = some [0x12] ∧
      reply (.bwrt (byte 4 :: le16 1 ++ [0, 0, 0, 0, 0])) ready = some [0x12] := by decide +kernel

/-- A still of the later ones is tracked in STAT's group 0 when none is active, the first in the list at the highest phase. -/
theorem witness_ReadingRequests_groups :
    TakenNow (.stat [0]) ready ∧ TakenNow (.stat [6]) ready ∧ TakenNow (.pget [0x19, 0]) ready ∧
      TakenNow (.pget [0x11, 2]) ready ∧ TakenNow (.pget [0x04, 0]) ready ∧ ready.csq.active = none ∧ ready.csq.later = [] ∧
      (awaiting .stream none).csq.later = [] ++ track 5 .flood .awaitRender :: [] ∧
      (storing ready).pfs.directory[(2 : Fin 8)].check = some 0 ∧ ready.pfs.directory[(2 : Fin 8)].header = none := by
  have taken {i : Instr} {q : Request} (h : requestOf i = some q) : TakenNow i ready :=
    (served_of (s := ready) h rfl rfl).1
  refine ⟨taken rfl, taken rfl, taken rfl, taken rfl, taken rfl, rfl, rfl, by decide +kernel, by decide +kernel, by decide +kernel⟩

/-- STAT's receiver and store groups right after reset, the ceiling and LEVEL of bank B, and one entry of GAIN_F (R179, R181). -/
theorem test_readings :
    let body (i : Instr) (s : State) := (newestReply (nextOf i s)).map fun f => f.body
    (body (.stat [1]) State.reset).map (fun b => b.take 6) = some [0, 0, 0, 0, 0, 0] ∧
      (body (.stat [4]) State.reset).map (fun b => b.take 8) = some [0, 0, 0, 255, 0, 0, 0, 255] ∧
      body (.pget [0x19, 0]) (ready.setLpc { ready.lpc with ceiling := 20000 }) = some [0, 0x20, 0x4E, 0, 0] ∧
      body (.pget [0x1B, 0]) (ready.setLpc { ready.lpc with cutoffAt := -2 }) = some [0, 0xFE, 0xFF, 0xFF, 0xFF] ∧
      body (.trd (byte 1 :: le16 356 ++ le16 1)) ready = some [0, 0, 0x10] := by decide +kernel

/-! ## Witnesses of the clauses about gathered values, triggers, thermal bands, the loop's refusals, bodies and the directory -/

/-- A FUSE frame's B exposure at its end: each bank has the time and level of its own exposure, and the numbers run from the first
to the last (R102). -/
theorem test_gathered :
    let r := { record (.lit .beam) .stream (some (.second, .lin0)) with
      number := 8, time := 3000, usedLevel := 512, black := 65, clamped := true }
    let s := between 1024 1024 16 r
    let s := s.setCsq { s.csq with frame := some { recipe := .fuse, degraded := false, buffer := .lin0, parts := [flood] } }
    (nextOf .frameClose s).csq.awaiting.map (fun w => (w.values.timeF, w.values.levelF, w.values.timeB, w.values.levelB))
        = [(2000, 256, 3000, 512)] ∧
      (nextOf .frameClose s).csq.awaiting.map
          (fun w => (w.values.first, w.values.last, w.values.black, w.values.patchedLines, w.values.clamped))
        = [(7, 8, 65, 16, true)] := by decide +kernel

/-- SECOND lights bank B, at 255 with the temperature invalid (R82), starts the exposure timer and opens the measurement of bank
B's enabled zone (R4, R66). -/
theorem test_second_trigger :
    let z : Zone := { halfFrame.mtu.zones[(1 : Fin 8)] with
      defn := { halfFrame.mtu.zones[(1 : Fin 8)].defn with enabled := true }, revised := true }
    let t := nextOf .trigger (halfFrame.setMtu { halfFrame.mtu with zones := halfFrame.mtu.zones.set 1 z })
    t.lpc.lit = some (.beam, 255) ∧ t.pxr.state = .exposing ∧ t.pxr.exposureTimer = some 2000 ∧
      t.mtu.measurement.map (fun m => (m.bank, m.clipLevel, m.zones.map fun x => (x.index, x.sum, x.clipped)))
        = some (.beam, 4032, [(1, 0, 0)]) ∧ t.mtu.zones[(1 : Fin 8)].revised = false := by decide +kernel

/-- A cutoff that is ON stays ON at CUTOFF, and the halt with it (R85). -/
theorem witness_TemperatureDrivesLamps_staysOn :
    let s := (probing .convertingTemp none (some (.head 0))).setLpc { ready.lpc with cutoff := true, temperature := some 165 }
    let s := s.setCsq { s.csq with state := .halt }
    temperatureOf 776 = some 170 ∧ s.lpc.cutoffAt = 170 ∧ (nextOf (.tempConversionDone 776) s).lpc.cutoff = true ∧
      (nextOf (.tempConversionDone 776) s).csq.state = .halt := by decide +kernel

/-- Between 10 half-degrees below the new CUTOFF and it the cutoff stays as it was, ON or OFF (R85). -/
theorem witness_PsetThermalLimits_bands :
    let s (on : Bool) := ready.setLpc { ready.lpc with temperature := some 145, cutoff := on }
    clampInt (-70) 249 150 = 150 ∧ ready.lpc.derateStart < 150 ∧ (150 : Int) - 10 < 145 ∧ (145 : Int) < 150 ∧
      (nextOf (.psetCutoff 0 0 150) (s true)).lpc.cutoff = true ∧ (nextOf (.psetCutoff 0 0 150) (s false)).lpc.cutoff = false ∧
      (nextOf (.psetCutoff 0 0 155) (s true)).lpc.cutoff = false ∧
      (nextOf (.psetDerateStart 0 0 100) (s true)).lpc.cutoff = false := by decide +kernel

/-- The stored level stands with the steering zone disabled, bound to the other bank or not measured, and with no last lit; with
none of these a mean of 0 doubles it (R89, R90). -/
theorem witness_ZoneResultsDriveLoop_refusals :
    let on (b : Bank) : Zone := { ready.mtu.zones[(0 : Fin 8)] with defn := { ZoneDef.default b with enabled := true } }
    let s (z : Zone) (i : Option (Fin 8)) (l : Option LastLit) : State :=
      let w := wholeReadout flood .flood
      (w.setMtu { w.mtu with measurement := some metered, zones := w.mtu.zones.set 0 z }).setLpc
        { w.lpc with flood := { w.lpc.flood with steer := i, lastLit := l } }
    let level (x : State) : Nat := (nextOf .frameClose x).lpc.flood.level
    level (s (on .flood) (some 0) (some ⟨7, 256⟩)) = 512 ∧ level (s (Zone.default .flood) (some 0) (some ⟨7, 256⟩)) = 256 ∧
      level (s (on .beam) (some 0) (some ⟨7, 256⟩)) = 256 ∧ level (s (on .flood) (some 2) (some ⟨7, 256⟩)) = 256 ∧
      level (s (on .flood) (some 0) none) = 256 ∧ level (s (on .flood) (some 0) (some ⟨6, 256⟩)) = 256 := by decide +kernel

/-- A mask of geometry and format, with APPLY by default (R107). -/
theorem witness_StillsQueuedAndCancelled_someFields :
    ¬stilRefused ready.pfs.ws.content 9 1 1 5 1 7 1 ⟨1, 2, 3, 4⟩ ∧
      Served (.stil ([9, byte Recipe.flood.code, 1, 5, 1, 7, 1] ++ le16 1 ++ le16 2 ++ le16 3 ++ le16 4)) ready ∧
      (nextOf (.stil ([9, 1, 1, 5, 1, 7, 1] ++ le16 1 ++ le16 2 ++ le16 3 ++ le16 4)) ready).csq.queue
        = [{ tag := 9, recipe := .flood, depth := 1, geometry := .sensor, photometric := .apply, format := .linear16,
             crop := none }] :=
  ⟨by unfold stilRefused; decide, served_of rfl rfl rfl, by decide +kernel⟩

/-- A kind of 0x80 or above is answered with that same kind, a lower one with 0x80 more (R176). -/
theorem test_reply_kinds :
    newestReply (nextOf (.badKind 0x60 []) ready) = some ⟨0xE0, [0x10]⟩ ∧
      newestReply (nextOf (.badKind 0x90 []) ready) = some ⟨0x90, [0x10]⟩ ∧
      newestReply (nextOf (.stat []) ready) = some ⟨0x82, [0x11]⟩ := by decide +kernel

/-- A soft reset that cuts a startup-record write off: each byte is its old one or the phase's (R155). -/
theorem witness_SoftResetValues_bootWrite :
    let s := ready.setCml { ready.cml with tx := some (.reply ⟨0xBF, [0]⟩ true) }
    let s := s.setPfs { s.pfs with op := some (.bootWrite [1, 2, 3, 4, 5, 6, 7, 8] .program) }
    s.cml.tx = some (.reply ⟨0xBF, [0]⟩ true) ∧ s.pfs.bootWriting = true ∧ (nextOf .frameSent s).pfs.lastResult = .aborted ∧
      ready.pfs.bootWriting = false := ⟨rfl, rfl, rfl, rfl⟩

/-- The CRC-32 of the digits 1 to 9 with R145's generator, start and complement, no bit order reversed; the value is the published
one of this CRC, from outside the spec. -/
theorem test_crc32 : crc32 [0x31, 0x32, 0x33, 0x34, 0x35, 0x36, 0x37, 0x38, 0x39] = 0xFC891918 := by decide +kernel

/-- The directory's invariant, right after reset and while a save runs. -/
theorem witness_DirectoryInv :
    DirectoryInv State.reset ∧ (∃ t, step State.reset = .next t) ∧
      DirectoryInv (ready.setPfs { ready.pfs with op := some (.save 2 .program) }) := by
  have blank (s : State) (hd : s.pfs.directory = Vector.replicate 8 DirRecord.blank) (hs : s.csq.state ≠ .starting ∨ s.pfs.op = none) :
      DirectoryInv s := by
    refine ⟨fun i => by simp [hd, DirRecord.blank], fun i j h k _ hi => by simp [hd, DirRecord.blank] at hi, fun i p hp => ⟨?_, ?_⟩⟩
    · exact hs.elim id fun h => by simp [h] at hp
    · intro j h _ hj; simp [hd, DirRecord.blank] at hj
  exact ⟨blank _ rfl (Or.inr rfl), ⟨_, rfl⟩, blank _ rfl (Or.inl (by decide))⟩

/-! ## Edges, notices, the stored form, and a cancelled exposure's accumulator -/

/-- The ready part at a temperature conversion, with its masks. -/
def edging (rise fall : Word16) (notice : Bool) : State :=
  (probing .convertingTemp none (some (.head 0))).setCdu
    { ready.cdu with riseEn := rise, fallEn := fall, noticeEn := notice }

/-- TEMP_FAULT falls at a good temperature: its latch is set with its FALL_EN bit alone, and the notice starts with NOTICE_EN on
(R169, R171; the live set keeps STARTUP_DEFAULTED alone). -/
theorem test_falling_edge :
    let t := nextOf (.tempConversionDone 650) (edging 0xFFFF 0x0010 true)
    let u := nextOf (.tempConversionDone 650) (edging 0xFFFF 0x0001 true)
    let v := nextOf (.tempConversionDone 650) (edging 0 0x0010 false)
    t.cdu.live = 0x8000 ∧ t.cdu.latches = 0x0010 ∧ t.cml.tx = some (.notice ⟨0x60, [0x10, 0, 0, 0x80, 1]⟩) ∧
      u.cdu.live = 0x8000 ∧ u.cdu.latches = 0 ∧ u.cml.tx = none ∧ u.cdu.noticePending = false ∧
      v.cdu.latches = 0x0010 ∧ v.cml.tx = none ∧ v.cdu.noticePending = false := by decide +kernel

/-- LAMP_CUTOFF and TEMP_DERATE rise together; a latch already set makes no notice, and a busy transmitter leaves it pending. -/
theorem test_rising_edges :
    let hot (s : State) := nextOf (.tempConversionDone 900) s
    let s := edging 0x000C 0 true
    let busy := s.setCml { s.cml with tx := some (.notice ⟨0x60, []⟩) }
    let set := s.setCdu { s.cdu with latches := 0x000C }
    (hot s).cdu.live = 0x800C ∧ (hot s).cdu.latches = 0x000C ∧ (hot busy).cdu.noticePending = true ∧
      (hot set).cdu.latches = 0x000C ∧ (hot set).cdu.noticePending = false ∧ (hot set).cml.tx = none := by decide +kernel

theorem witness_ConditionsInvariantKept_edges :
    (∃ t, exec (.tempConversionDone 650) (edging 0xFFFF 0x0010 true) = .next t) ∧ ¬Served (.ltch []) State.reset ∧
      (∃ t, exec (.ltch []) State.reset = .next t) ∧
      (∀ f, (ready.setCml { ready.cml with tx := some (.notice ⟨0x60, []⟩) }).cml.tx ≠ some (.reply f true)) :=
  ⟨⟨_, rfl⟩, fun h => by have := h.2; revert this; decide, ⟨_, rfl⟩, fun f h => by cases h⟩

/-- A content with both banks, the label 1 to 16, and a first mesh entry of (-1, 258). -/
def sample : Content :=
  { profileId := 0x0203, head := some 3, width := 256, height := 512, label := (List.range 16).map fun k => byte (k + 1),
    mesh := (-1, 258) :: List.replicate 560 (0, 0), gainF := List.replicate 357 0x1234,
    beam := some { gainB := List.replicate 357 1, weight := List.replicate 357 256 },
    tone := some (List.replicate 1025 7) }

theorem witness_LoadPassesVerifyThenCopy_stored : sample.wellFormed ∧ sample.header.wellFormed := by
  refine ⟨⟨by decide, fun k h => ?_, by decide, by decide, by decide, by decide, by decide, by decide, by decide, by decide +kernel,
    by decide +kernel, by decide +kernel, by decide +kernel, fun b h => ?_, fun x h => ?_⟩,
    ⟨by decide, by decide, fun k h => ?_, by decide, by decide, by decide, by decide, by decide, by decide, by decide⟩⟩
  · obtain rfl : 3 = k := Option.some.inj h; decide
  · obtain rfl := Option.some.inj h; refine ⟨?_, ?_, ?_, ?_⟩ <;> decide +kernel
  · obtain rfl := Option.some.inj h; refine ⟨?_, ?_⟩ <;> decide +kernel
  · obtain rfl : 3 = k := Option.some.inj h; decide

/-- The stored form's first bytes, its places of GAIN_F (25 + 4 × 561), WEIGHT and TONE, and its length (R145). -/
theorem test_stored_form :
    sample.stored.take 29 = [3, 2, 3, 1, 0, 1, 0, 2, 1, 1, 2, 3, 4, 5, 6, 7, 8, 9, 10, 11, 12, 13, 14, 15, 16, 0xFF, 0xFF, 2, 1] ∧
      (sample.stored.drop 2269).take 2 = [0x34, 0x12] ∧ (sample.stored.drop 3697).take 2 = [0, 1] ∧
      (sample.stored.drop 4411).take 1 = [7] ∧ sample.stored.length = 5436 := by decide +kernel

/-- A still's exposure cancelled before its end: its RECEIVING accumulator is FREE, the receiver IDLE and SENSOR_FAULT latched
(R16, R17, R35, R36). -/
theorem witness_StillsQueuedAndCancelled_receiving :
    let c := stilling.setCsq { stilling.csq with exposure := some (record (.lit .flood) (.still 5) none) }
    let c := c.setPxr { c.pxr with state := .exposing, exposureTimer := some 2000 }
    let c := c.setPhc { c.phc with accF := { Accumulator.claimed with state := .receiving, folded := 2 } }
    Served (.scan [byte 5]) c ∧ (c.phc.acc .flood).state = .receiving ∧
      (nextOf (.scan [5]) c).phc.accF.state = .free ∧ (nextOf (.scan [5]) c).phc.accF.folded = 0 ∧
      (nextOf (.scan [5]) c).pxr.state = .idle ∧ (nextOf (.scan [5]) c).cdu.latches.getLsbD 8 = true :=
  ⟨served_of rfl rfl rfl, rfl, by decide +kernel, by decide +kernel, by decide +kernel, by decide +kernel⟩

/-- A third request is lost with LINK_ERROR latched and nothing else outside the link changed (R175). -/
theorem witness_FrameReceivedArrives_third :
    let s := ready.setCml { ready.cml with holding := [⟨⟨0x01, []⟩, true⟩, ⟨⟨0x02, [0]⟩, false⟩] }
    let t := nextOf (.frameReceived (frameOnLine 0x05 [])) s
    s.cml.rx = .hunt ∧ 2 ≤ s.cml.holding.length ∧ s.cdu.riseEn.getLsbD 14 = true ∧ t.cdu.latches = 0x4000 ∧
      (linkErrorRaised s).cdu.latches = 0x4000 := by decide +kernel

/-! ## Adoption last, failed loads, erases, pending notices -/

/-- The second classification of HEAD 4 comes in start-up, the scan done. -/
def adoptingLast (s : State) : State :=
  (s.setHpb { s.hpb with candidate := some (.head 4) }).setCsq { s.csq with scanDone := true, autostart := some .beam }

/-- R95 with the adoption last: the VALID slot bound to HEAD 4 is loaded, and with none start-up ends in that step; an adoption
before the scan is done does neither. -/
theorem witness_StartUpEndsAfterScanAndAdoption_adoption :
    let s := adoptingLast State.reset
    let t := nextOf (.idConversionDone 384) (storing s)
    let u := nextOf (.idConversionDone 384) s
    let early := nextOf (.idConversionDone 384) (s.setCsq { s.csq with scanDone := false })
    s.csq.state = .starting ∧ s.csq.loadChosen = false ∧ s.pfs.op = none ∧ s.hpb.conv = .convertingId ∧
      classify 384 = .head 4 ∧ s.hpb.adopted = none ∧ (storing s).pfs.boundSlot 4 = some 2 ∧ s.pfs.boundSlot 4 = none ∧
      t.csq.state = .starting ∧ t.pfs.op = some (.load 2 .verify) ∧ t.csq.loadChosen = true ∧ t.pxr.state = .off ∧
      u.csq.state = .run ∧ u.csq.requestedRecipe = some .beam ∧ u.pxr.state = .idle ∧ u.pfs.op = none ∧
      early.csq.state = .starting ∧ early.csq.loadChosen = false := by decide +kernel

/-- A load in SWITCH-LOAD with the contents not those of the check stored with them. -/
theorem witness_EndsLoad (x : List Byte) (h : StoredHeader) (hx : x.length = h.length) :
    let s := loading .verify (x ++ word32Bytes (crc32 x + 1))
    EndsLoad (.verifyPassDone []) 2 (s.setPfs { s.pfs with directory := s.pfs.directory.set 2 { validRecord with header := some h } }) ∧
      EndsLoad .copyPassDone 2 (loading .copy []) := by
  refine ⟨Or.inr ⟨[], h, _, rfl, rfl, rfl, rfl, ?_⟩, Or.inl ⟨rfl, rfl⟩⟩
  have := (witness_LoadCheck x).2
  rw [hx] at this
  exact this

/-- R115 after a verify pass that fails: the next target held sends the sequencer to SWITCH-DRAIN, and with cutoff ON the load-halt
note sends it to HALT. -/
theorem test_failed_load_exits (x : List Byte) (h : StoredHeader) (hx : x.length = h.length) (off : Bool) :
    let s := loading .verify (x ++ word32Bytes (crc32 x + 1))
    let s := s.setPfs { s.pfs with directory := s.pfs.directory.set 2 { validRecord with header := some h } }
    let s := s.setCsq { s.csq with nextTarget := some (.slot 5), loadHalt := true }
    let t := nextOf (.verifyPassDone []) (s.setLpc { s.lpc with cutoff := off })
    t.csq.state = (if off then .halt else .switchDrain) ∧ t.csq.switchTarget = some (.slot 5) ∧ t.csq.nextTarget = none ∧
      t.csq.loadHalt = false ∧ t.pfs.lastResult = .corrupt := by
  intro s0 s1 s t
  have hc := (witness_LoadCheck x).2
  rw [hx] at hc
  have ht : t = pump (endVerify 2 [] (s.setLpc { s.lpc with cutoff := off })) := rfl
  rw [ht, endVerify_fails (i := 2) (lost := []) (s := s.setLpc { s.lpc with cutoff := off }) (h := h) rfl hc]
  cases off <;> simp [s, s1, s0, loading, storing, ready, loadCompleted, switchExit, storeFailed, haltCause, headPresent]

/-- No slot bound to the target's head, with a next target held (R114, R115). -/
theorem witness_SwitchDrainsThenLoads_next :
    let d := drainedTo (.head 4)
    let s := d.setCsq { d.csq with nextTarget := some (.head 7), loadHalt := true }
    s.pfs.boundSlot 4 = none ∧ (nextOf .switchLoad s).csq.state = .switchDrain ∧
      (nextOf .switchLoad s).csq.switchTarget = some (.head 7) := by decide +kernel

/-- A cell lost to the erased value still reads erased; slot 1 of a whole-store erase goes on to slot 2, its record's protection
kept, and slot 7 ends it (R152). -/
theorem witness_ErasesReadBack_all :
    let s (i : Fin 8) (failed : Bool) := ready.setPfs { ready.pfs with op := some (.eraseAll i failed) }
    let t := nextOf (.eraseAllSlotDone [(3, 0xFF)]) (s 1 false)
    blankBytes (loseCells [] [(3, 0xFF)]) = true ∧ t.pfs.op = some (.eraseAll 2 false) ∧
      t.pfs.directory[(1 : Fin 8)].state = .empty ∧ t.pfs.directory[(2 : Fin 8)].state = .corrupt ∧
      t.pfs.slots[(2 : Fin 8)].workMark = true ∧ t.pfs.directory[(5 : Fin 8)] = ready.pfs.directory[(5 : Fin 8)] ∧
      (nextOf (.eraseAllSlotDone [(3, 0xFF)]) (s 7 false)).pfs.lastResult = .ok ∧
      (nextOf (.eraseAllSlotDone []) (s 7 true)).pfs.lastResult = .failVerify := by decide +kernel

/-- A save whose lost cell is one of the check's: the contents read back still give the check value (R150). -/
theorem witness_SavePhases_lost (bytes : List Byte) :
    let back := loseCells (bytes ++ word32Bytes (crc32 bytes)) [(bytes.length, 0)]
    crc32 (slotBytes back bytes.length) = crc32 bytes := by
  have h : loseCells (bytes ++ word32Bytes (crc32 bytes)) [(bytes.length, 0)] =
      bytes ++ (word32Bytes (crc32 bytes)).set 0 0 := by
    simp [loseCells, putByte, word32Bytes, le32, List.set_append_right]
  simp only [h, slotBytes_append]

/-- NOTICE_EN turned on with a latch set: the notice starts at once with the transmitter idle, and is pending while an older
notice is being sent; with no latch set there is none (R171). -/
theorem witness_PsetSendModeAndMasks_notice :
    let off (l : Word16) := ready.setCdu { ready.cdu with latches := l, noticeEn := false }
    let busy := (off 4).setCml { ready.cml with tx := some (.notice ⟨0x60, []⟩) }
    let on (s : State) := nextOf (.psetNoticeEn 0 0 1) s
    Served (.psetNoticeEn 0 0 1) (off 4) ∧ Served (.psetNoticeEn 0 0 1) busy ∧
      (on (off 4)).cml.tx = some (.notice ⟨0x60, [4, 0, 0x10, 0x80, 1]⟩) ∧ (on (off 4)).cdu.noticePending = false ∧
      (on busy).cdu.noticePending = true ∧ (on busy).cml.tx = some (.notice ⟨0x60, []⟩) ∧
      (on (off 0)).cdu.noticePending = false ∧ newestReply (on (off 0)) = some ⟨0x84, [0, 1, 0, 0, 0]⟩ :=
  ⟨served_of rfl rfl rfl, ⟨⟨_, rfl, Or.inr ⟨rfl, by decide, (fun h hx => by cases hx), rfl⟩⟩, rfl⟩, by decide +kernel,
    by decide +kernel, by decide +kernel, by decide +kernel, by decide +kernel, by decide +kernel⟩

/-- A notice pending behind an older one waits for FRAME_SENT, which starts it with the sets as they then stand (R171, R177). -/
theorem test_pending_waits :
    let s := edging 0xFFFF 0x0010 true
    let s := (s.setCml { s.cml with tx := some (.notice ⟨0x60, []⟩) }).setCdu { s.cdu with noticePending := true, latches := 1 }
    let t := nextOf (.tempConversionDone 650) s
    t.cdu.noticePending = true ∧ t.cml.tx = some (.notice ⟨0x60, []⟩) ∧ (nextOf .frameSent t).cdu.noticePending = false ∧
      (nextOf .frameSent t).cml.tx = some (.notice ⟨0x60, [0x11, 0, 0, 0x80, 1]⟩) := by decide +kernel

/-- A still's render completing makes it QUEUED (R106, R111); an ALIGN outside its set is BAD_PARAM and one of it BAD_STATE while
an exposure is in flight (R8). -/
theorem test_queued_and_align :
    let s := (ready.setRme ⟨some { job 767 with kind := .still 6 }, 0⟩).setCsq
      { ready.csq with later := [track 5 .flood .rendering, track 6 .flood .rendering] }
    let busy := serving .exposing flood
    (nextOf .renderComplete s).csq.later.map (fun a => (a.req.tag, a.phase)) = [(5, .rendering), (6, .queued)] ∧
      newestReply (nextOf (.pset [0, 0, 0, 2, 0, 0, 0]) busy) = some (replyFrame 0x04 .badParam []) ∧
      newestReply (nextOf (.pset [1, 0, 0, 11, 0, 0, 0]) busy) = some (replyFrame 0x04 .badParam []) ∧
      newestReply (nextOf (.pset [0, 0, 0, 1, 0, 0, 0]) busy) = some (replyFrame 0x04 .badState []) := by decide +kernel

end Sys2Proof.Tests
end

section
namespace Sys2Proof.Machine

/-! ## What a command does to the exposure in flight (R1, R86, R87)

The exposure invariant looks at few fields: the receiver's state and timers, the exposure in flight, whether start-up runs, and
the lit bank with its limits. `ExposureMove` says once what the shared operations can do to them; `exec_moves` says that every
command but the three that drive an exposure (TRIGGER, EXPOSURE_END, FRAME_OPEN) makes only such moves. -/

/-- The receiver state without the line sub-state and without a skipped frame: what the receiver serves (R1). -/
def ReceiverState.serving : ReceiverState → ReceiverState
  | .off | .idle | .skip .none => .idle
  | .exposing | .skip .exposing => .exposing
  | .awaiting | .skip .ended => .awaiting
  | .inFrame _ => .inFrame .between

/-- The fields of an exposure record that the invariant speaks of. -/
def ExposureRecord.essence (r : ExposureRecord) : Word32 × Kind × Nat × Nat × RecordState :=
  (r.number, r.kind, r.time, r.usedLevel, r.state)

/-- The energy limits of R80. -/
def Lamps.limitsOk (l : Lamps) : Prop := 10000 ≤ l.startupCeiling ∧ l.ceiling ≤ l.startupCeiling

/-- R1's table by what the receiver serves. -/
theorem receiverCoherent_iff (s : State) : ReceiverCoherent s ↔
    (s.pxr.state.serving = .idle →
      s.csq.exposure = none ∧ s.pxr.exposureTimer = none ∧ s.pxr.readoutTimer = none) ∧
    (s.pxr.state.serving = .exposing →
      (∃ r, s.csq.exposure = some r ∧ r.state = .armed) ∧ s.pxr.exposureTimer.isSome ∧ s.pxr.readoutTimer = none) ∧
    (s.pxr.state.serving = .awaiting →
      (∃ r, s.csq.exposure = some r ∧ r.state = .armed) ∧ s.pxr.exposureTimer = none ∧ s.pxr.readoutTimer.isSome) ∧
    (s.pxr.state.serving = .inFrame .between →
      (∃ r, s.csq.exposure = some r ∧ r.state = .readout) ∧ s.pxr.exposureTimer = none ∧ s.pxr.readoutTimer.isSome) := by
  unfold ReceiverCoherent
  cases h : s.pxr.state with
  | skip held => cases held <;> simp [ReceiverState.serving]
  | _ => simp [ReceiverState.serving]

/-- The receiver integrates an exposure exactly in EXPOSING and in SKIP with the held exposure exposing. -/
theorem serving_eq_exposing_iff (x : ReceiverState) : x.serving = .exposing ↔ x = .exposing ∨ x = .skip .exposing := by
  cases x with
  | skip held => cases held <;> simp [ReceiverState.serving]
  | _ => simp [ReceiverState.serving]

/-- The part goes from `s` to `t` with the exposure in flight, the receiver's service and its timers as they were; the lamp may
go dark, and start-up is not entered. -/
structure ExposureStands (s t : State) : Prop where
  serving : t.pxr.state.serving = s.pxr.state.serving
  exposureTimer : t.pxr.exposureTimer = s.pxr.exposureTimer
  readoutTimer : t.pxr.readoutTimer = s.pxr.readoutTimer
  record : t.csq.exposure.map ExposureRecord.essence = s.csq.exposure.map ExposureRecord.essence
  starting : t.csq.state = .starting → s.csq.state = .starting ∧ (s.pxr.state = .off → t.pxr.state = .off)
  startupCeiling : t.lpc.startupCeiling = s.lpc.startupCeiling
  limits : s.lpc.limitsOk → t.lpc.limitsOk
  lit : t.lpc.lit = none ∨ t.lpc.lit = s.lpc.lit ∧ (t.lpc.cutoff = s.lpc.cutoff ∨ s.lpc.cutoff = true)

/-- The part goes from `s` to `t`, in which no exposure is in flight; a bank is left lit only where none can have been. -/
structure ExposureCleared (s t : State) : Prop where
  serving : t.pxr.state.serving = .idle
  exposureTimer : t.pxr.exposureTimer = none
  readoutTimer : t.pxr.readoutTimer = none
  exposure : t.csq.exposure = none
  starting : t.csq.state = .starting → t.pxr.state = .off ∨ (s.csq.state = .starting ∧ s.csq.exposure.isSome)
  limits : s.lpc.limitsOk → t.lpc.limitsOk
  lit : t.lpc.lit = none ∨
    t.lpc.lit = s.lpc.lit ∧ (s.pxr.readoutTimer.isSome ∨ s.pxr.state.serving ≠ .exposing)

/-- The part goes from `s` to `t` by the end of start-up (R95). -/
structure ExposurePowered (s t : State) : Prop where
  before : s.csq.state = .starting
  after : t.csq.state ≠ .starting
  pxr : t.pxr = { s.pxr with state := .idle }
  exposure : t.csq.exposure = s.csq.exposure
  lpc : t.lpc = s.lpc

/-- What a shared operation can do to the exposure in flight. -/
inductive ExposureMove (s t : State) : Prop where
  | stands (h : ExposureStands s t)
  | cleared (h : ExposureCleared s t)
  | powered (h : ExposurePowered s t)

/-- One move after another. -/
abbrev ExposureMoves : State → State → Prop := Relation.ReflTransGen ExposureMove

theorem ExposureStands.moves {s t : State} (h : ExposureStands s t) : ExposureMoves s t := .single (.stands h)

theorem ExposureCleared.moves {s t : State} (h : ExposureCleared s t) : ExposureMoves s t := .single (.cleared h)

/-- A change that leaves the receiver, the lamps and, in the sequencer, the exposure in flight as they are. -/
theorem moves_of_seq {s t : State} (hp : t.pxr = s.pxr) (hl : t.lpc = s.lpc)
    (he : t.csq.exposure = s.csq.exposure) (hs : t.csq.state = .starting → s.csq.state = .starting) :
    ExposureMoves s t :=
  ExposureStands.moves
    { serving := by rw [hp], exposureTimer := by rw [hp], readoutTimer := by rw [hp], record := by rw [he]
      starting := fun h => ⟨hs h, by rw [hp]; exact id⟩, startupCeiling := by rw [hl], limits := by rw [hl]; exact id
      lit := .inr (by rw [hl]; exact ⟨rfl, .inl rfl⟩) }

/-- A change outside the receiver, the lamps and the sequencer. -/
theorem moves_of_frame {s t : State} (hp : t.pxr = s.pxr) (hl : t.lpc = s.lpc) (hc : t.csq = s.csq) :
    ExposureMoves s t := moves_of_seq hp hl (by rw [hc]) (by rw [hc]; exact id)

/-- A change of the lamps' settings alone. -/
theorem moves_of_lamps {s t : State} (hp : t.pxr = s.pxr) (hc : t.csq = s.csq)
    (hu : t.lpc.startupCeiling = s.lpc.startupCeiling) (hx : s.lpc.limitsOk → t.lpc.limitsOk)
    (hl : t.lpc.lit = s.lpc.lit) (ho : t.lpc.cutoff = s.lpc.cutoff) : ExposureMoves s t :=
  ExposureStands.moves
    { serving := by rw [hp], exposureTimer := by rw [hp], readoutTimer := by rw [hp], record := by rw [hc]
      starting := fun h => ⟨hc ▸ h, by rw [hp]; exact id⟩, startupCeiling := hu, limits := hx
      lit := .inr ⟨hl, .inl ho⟩ }

end Sys2Proof.Machine
end

section
namespace Sys2Proof.Machine

/-! ### The invariant is kept by every move -/

/-- In STARTING no exposure is in flight: the receiver is OFF (R1, R2). -/
theorem ExposureInv.no_exposure_starting {s : State} (h : ExposureInv s) (hs : s.csq.state = .starting) :
    s.pxr.state = .off ∧ s.csq.exposure = none := by
  obtain ⟨hr, ho, -⟩ := h
  refine ⟨ho hs, ?_⟩
  simp only [ReceiverCoherent, ho hs] at hr
  exact hr.1

theorem LampsSafe.limitsOk {s : State} (h : LampsSafe s) : s.lpc.limitsOk := by
  obtain ⟨hstart, hceiling, -⟩ := h
  exact ⟨hstart, hceiling⟩

/-- With limits that hold and no bank lit the lamps are safe. -/
theorem lampsSafe_of_dark {s : State} (hx : s.lpc.limitsOk) (hl : s.lpc.lit = none) : LampsSafe s :=
  ⟨hx.1, hx.2, by simp [hl]⟩

/-- A bank is lit only while an exposure integrates (R86). -/
theorem ExposureInv.dark {s : State} (h : ExposureInv s)
    (hi : s.pxr.readoutTimer.isSome ∨ s.pxr.state.serving ≠ .exposing) : s.lpc.lit = none := by
  obtain ⟨hr, -, -, -, hlit⟩ := h
  rw [receiverCoherent_iff] at hr
  cases hl : s.lpc.lit with
  | none => rfl
  | some x =>
    obtain ⟨-, -, hst, -⟩ := hlit x.1 x.2 hl
    have hs := (serving_eq_exposing_iff _).2 hst
    obtain ⟨-, hexposing, -⟩ := hr
    obtain ⟨-, -, hn⟩ := hexposing hs
    simp [hs, hn] at hi

theorem ExposureStands.keeps {s t : State} (m : ExposureStands s t) (h : ExposureInv s) : ExposureInv t := by
  obtain ⟨hr, ho, hl⟩ := h
  have hrec (st : RecordState) : (∃ r, t.csq.exposure = some r ∧ r.state = st) ↔
      ∃ r, s.csq.exposure = some r ∧ r.state = st := by
    have := m.record
    cases hs : s.csq.exposure <;> cases ht : t.csq.exposure <;>
      simp_all [ExposureRecord.essence]
  have hnone : t.csq.exposure = none ↔ s.csq.exposure = none := by
    have := m.record
    cases hs : s.csq.exposure <;> cases ht : t.csq.exposure <;> simp_all
  refine ⟨?_, fun hs => ?_, ?_⟩
  · rw [receiverCoherent_iff] at hr ⊢
    simpa only [m.serving, m.exposureTimer, m.readoutTimer, hrec, hnone] using hr
  · obtain ⟨hs', hoff⟩ := m.starting hs
    exact hoff (ho hs')
  · obtain ⟨hx1, hx2⟩ := m.limits hl.limitsOk
    obtain ⟨-, -, hlit⟩ := hl
    rcases m.lit with hd | ⟨hd, hc⟩
    · exact lampsSafe_of_dark ⟨hx1, hx2⟩ hd
    · refine ⟨hx1, hx2, fun b n hbn => ?_⟩
      obtain ⟨h1, h2, h3, r, h4, h5, h6, h7⟩ := hlit b n (hd ▸ hbn)
      rw [← serving_eq_exposing_iff] at h3 ⊢
      have he := m.record
      rw [h4, Option.map_some, Option.map_eq_some_iff] at he
      obtain ⟨r', hr', e⟩ := he
      simp only [ExposureRecord.essence, Prod.mk.injEq] at e
      obtain ⟨-, e2, e3, e4, -⟩ := e
      refine ⟨?_, h2, by rw [m.serving]; exact h3, r', hr', by rw [e2, h5], by rw [e4, h6],
        by rw [e3, m.startupCeiling]; exact h7⟩
      rcases hc with hc | hc
      · rw [hc, h1]
      · rw [hc] at h1; contradiction

theorem ExposureCleared.keeps {s t : State} (m : ExposureCleared s t) (h : ExposureInv s) : ExposureInv t := by
  have hlamps : LampsSafe s := by
    obtain ⟨-, -, hl⟩ := h
    exact hl
  refine ⟨?_, fun hs => ?_, lampsSafe_of_dark (m.limits hlamps.limitsOk) ?_⟩
  · rw [receiverCoherent_iff]
    simp [m.serving, m.exposureTimer, m.readoutTimer, m.exposure]
  · rcases m.starting hs with hs | ⟨hs, hx⟩
    · exact hs
    · simp [(h.no_exposure_starting hs).2] at hx
  · rcases m.lit with hl | ⟨hl, hi⟩
    · exact hl
    · rw [hl, h.dark hi]

theorem ExposurePowered.keeps {s t : State} (m : ExposurePowered s t) (h : ExposureInv s) : ExposureInv t := by
  obtain ⟨hoff, hx⟩ := h.no_exposure_starting m.before
  have hd := h.dark (.inr (by simp [hoff, ReceiverState.serving]))
  obtain ⟨hr, -, hl⟩ := h
  refine ⟨?_, fun hs => absurd hs m.after, lampsSafe_of_dark (m.lpc ▸ hl.limitsOk) (m.lpc ▸ hd)⟩
  simp only [ReceiverCoherent, hoff] at hr
  simpa [ReceiverCoherent, m.pxr, m.exposure] using hr

/-- The exposure invariant is kept by every move of the shared operations. -/
theorem ExposureInv.of_moves {s t : State} (m : ExposureMoves s t) (h : ExposureInv s) : ExposureInv t := by
  induction m with
  | refl => exact h
  | tail _ m ih =>
    cases m with
    | stands m => exact m.keeps ih
    | cleared m => exact m.keeps ih
    | powered m => exact m.keeps ih

/-! ### The exposure in flight over the moves -/

/-- No exposure is in flight, or the one of number `n` is. -/
def InFlightOnly (n : Option Word32) (s : State) : Prop :=
  s.csq.exposure = none ∨ s.csq.exposure.map ExposureRecord.number = n

/-- A move of the shared operations brings no exposure into flight and replaces none (R97). -/
theorem InFlightOnly.of_moves {s t : State} {n : Option Word32} (m : ExposureMoves s t) (h : InFlightOnly n s) :
    InFlightOnly n t := by
  induction m with
  | refl => exact h
  | tail _ m ih =>
    cases m with
    | stands m =>
      have hn := congrArg (Option.map Prod.fst) m.record
      simp only [Option.map_map] at hn
      exact ih.imp (fun hx => by have := m.record; simpa [hx] using this) (fun hx => hn.trans hx)
    | cleared m => exact .inl m.exposure
    | powered m => simpa only [InFlightOnly, m.exposure] using ih

/-! ### Moves of the shared operations -/

theorem pump_moves (s : State) : ExposureMoves s (pump s) := moves_of_frame (by simp) (by simp) (by simp)

theorem runOrIdle_ne_starting (s : State) : runOrIdle s ≠ .starting := by
  unfold runOrIdle; split <;> simp

theorem enter_moves {st : SeqState} (h : st ≠ .starting) (s : State) : ExposureMoves s (enter st s) :=
  moves_of_seq rfl rfl rfl fun hs => absurd hs h

theorem leaveStill_moves (s : State) : ExposureMoves s (leaveStill s) := enter_moves (runOrIdle_ne_starting s) s

theorem dropActive_moves (a : StillTrack) (s : State) : ExposureMoves s (dropActive a s) :=
  moves_of_seq (by simp) (by simp) (by simp [dropActive]) (by simp [dropActive])

theorem failActive_moves (a : StillTrack) (s : State) : ExposureMoves s (failActive a s) :=
  (dropActive_moves a s).trans (moves_of_frame (by simp [failActive]) (by simp [failActive]) (by simp [failActive]))

theorem dropFrame_moves (s : State) : ExposureMoves s (dropFrame s) :=
  moves_of_seq (by simp) (by simp) (by rw [(dropFrame_spec s).1]) (by rw [(dropFrame_spec s).1]; exact id)

theorem haltStill_moves (s : State) : ExposureMoves s (haltStill s) := by
  unfold haltStill
  split
  · exact failActive_moves _ s
  · exact .refl

theorem lampOff_moves (s : State) : ExposureMoves s (lampOff s) :=
  ExposureStands.moves ⟨rfl, rfl, rfl, rfl, fun h => ⟨h, id⟩, rfl, id, .inl rfl⟩

/-- The sequencer's part in an abandonment does not enter STARTING. -/
theorem sequencerAbandoned_starting (r : ExposureRecord) (why : AbandonReason) (s : State)
    (h : (sequencerAbandoned r why s).csq.state = .starting) : s.csq.state = .starting := by
  revert h
  unfold sequencerAbandoned stillAbandoned
  cases r.purpose with
  | stream => exact id
  | darkReference => exact id
  | still tag =>
    simp only
    split
    · split
      · split
        · exact id
        · exact fun h => absurd h (runOrIdle_ne_starting _)
      · exact id
    · exact id

/-- The sequencer's part in a completion leaves its state. -/
theorem sequencerCompleted_state (r : ExposureRecord) (s : State) :
    (sequencerCompleted r s).csq.state = s.csq.state := by
  unfold sequencerCompleted
  split
  · unfold streamCompleted; split <;> rfl
  · simp only [stillCompleted]; (repeat' split) <;> rfl
  · rfl

theorem abandonedState_serving (x : ReceiverState) : (abandonedState x).serving = .idle := by
  cases x <;> rfl

theorem abandonExposure_state {why : AbandonReason} {next : ReceiverState} {s : State}
    (h : (abandonExposure why next s).csq.state = .starting) : s.csq.state = .starting := by
  revert h
  unfold abandonExposure
  split
  · exact id
  · simp only [raise_frame]
    exact fun h => by simpa using sequencerAbandoned_starting _ _ _ h

/-- An abandonment clears the exposure in flight. That no bank is left lit is for the caller to show (R87). -/
theorem abandonExposure_moves {why : AbandonReason} {next : ReceiverState} {s : State} (hn : next.serving = .idle)
    (hl : s.lpc.lit = none ∨ s.pxr.readoutTimer.isSome ∨ s.pxr.state.serving ≠ .exposing) :
    ExposureMoves s (abandonExposure why next s) := by
  cases hx : s.csq.exposure with
  | none => simp only [abandonExposure, hx]; exact .refl
  | some r =>
    obtain ⟨hp, he, -⟩ := abandonExposure_spec (why := why) (next := next) hx
    exact ExposureCleared.moves
      { serving := by rw [hp]; exact hn, exposureTimer := by rw [hp]; rfl, readoutTimer := by rw [hp]; rfl, exposure := he
        starting := fun hs => .inr ⟨abandonExposure_state hs, by simp [hx]⟩
        limits := by simp
        lit := hl.imp (fun h => by simpa using h) fun h => ⟨by simp, h⟩ }

theorem sequencerAbandon_moves (why : AbandonReason) (s : State) : ExposureMoves s (sequencerAbandon why s) := by
  unfold sequencerAbandon
  split
  · exact .refl
  · exact (lampOff_moves s).trans (abandonExposure_moves (abandonedState_serving _) (.inl rfl))

/-- What a completion leaves of the lamps' limits and light. -/
theorem completeExposure_lamps (s : State) :
    (completeExposure s).lpc.lit = s.lpc.lit ∧ (completeExposure s).lpc.cutoff = s.lpc.cutoff ∧
      (completeExposure s).lpc.startupCeiling = s.lpc.startupCeiling ∧
      (completeExposure s).lpc.ceiling = s.lpc.ceiling := by
  have hm : ∀ u : State, (meteringCompleted u).lpc.lit = u.lpc.lit ∧ (meteringCompleted u).lpc.cutoff = u.lpc.cutoff ∧
      (meteringCompleted u).lpc.startupCeiling = u.lpc.startupCeiling ∧
      (meteringCompleted u).lpc.ceiling = u.lpc.ceiling := by
    intro u
    unfold meteringCompleted takeZones
    split
    · rename_i m _; cases m.bank <;> simp [Lamps.setBank]
    · simp
  unfold completeExposure
  split
  · simp
  · dsimp only; split <;> simp [hm]

/-- A completion clears the exposure in flight. -/
theorem completeExposure_moves {s : State} (hl : s.pxr.readoutTimer.isSome ∨ s.pxr.state.serving ≠ .exposing) :
    ExposureMoves s (completeExposure s) := by
  cases hx : s.csq.exposure with
  | none => simp only [completeExposure, hx]; exact .refl
  | some r =>
    obtain ⟨hp, he, -⟩ := completeExposure_spec hx
    obtain ⟨h1, -, h3, h4⟩ := completeExposure_lamps s
    have hs : (completeExposure s).csq.state = s.csq.state := by
      simp only [completeExposure, hx]; split <;> simp [sequencerCompleted_state]
    exact ExposureCleared.moves
      { serving := by rw [hp]; rfl, exposureTimer := by rw [hp]; rfl, readoutTimer := by rw [hp]; rfl, exposure := he
        starting := fun h => .inr ⟨hs ▸ h, by simp [hx]⟩
        limits := by simp [Lamps.limitsOk, h3, h4]
        lit := .inr ⟨h1, hl⟩ }

theorem haltAbandon_moves (why : AbandonReason) (s : State) : ExposureMoves s (haltAbandon why s) := by
  unfold haltAbandon
  split
  · split
    · exact sequencerAbandon_moves why s
    · exact .refl
  · exact .refl

theorem haltFor_moves (why : AbandonReason) (s : State) : ExposureMoves s (haltFor why s) := by
  unfold haltFor
  split
  · exact .refl
  · exact moves_of_seq rfl rfl rfl id
  · exact (((haltAbandon_moves why s).trans (dropFrame_moves _)).trans (haltStill_moves _)).trans
      (enter_moves (by simp) _)

theorem haltExit_moves (s : State) : ExposureMoves s (haltExit s) := by
  unfold haltExit
  split
  · refine enter_moves ?_ s
    split
    · simp
    · exact runOrIdle_ne_starting s
  · exact .refl

theorem examineCutoff_moves (s : State) : ExposureMoves s (examineCutoff s) := by
  unfold examineCutoff
  dsimp only
  split
  · exact .refl
  · rename_i hne
    have hcut : ExposureMoves s (s.setLpc { s.lpc with
        cutoff := s.lpc.examined, lit := if s.lpc.examined = true then none else s.lpc.lit }) :=
      ExposureStands.moves
        { serving := rfl, exposureTimer := rfl, readoutTimer := rfl, record := rfl, starting := fun h => ⟨h, id⟩
          startupCeiling := rfl, limits := id
          lit := by
            cases he : s.lpc.examined with
            | true => exact .inl rfl
            | false =>
              refine .inr ⟨by simp, .inr ?_⟩
              cases hc : s.lpc.cutoff with
              | true => rfl
              | false => exact absurd (he.trans hc.symm) hne }
    refine hcut.trans ?_
    split
    · exact haltFor_moves _ _
    · exact haltExit_moves _

theorem afterTemperature_moves (s : State) : ExposureMoves s (afterTemperature s) :=
  (examineCutoff_moves s).trans (moves_of_frame (by simp [afterTemperature]) (by simp [afterTemperature])
    (by simp [afterTemperature]))

theorem endStartUp_moves {s : State} (h : s.csq.state = .starting) : ExposureMoves s (endStartUp s) := by
  have hs : (endStartUp s).csq.state ≠ .starting := by
    obtain ⟨-, -, -, -, hhalt, hgo, -⟩ := endStartUp_ends s
    by_cases hc : HaltCauseHolds (endStartUp s)
    · simp [hhalt hc]
    · rw [hgo hc]; split <;> simp
  refine .single (.powered ⟨h, hs, ?_, ?_, by simp⟩)
  · unfold endStartUp; dsimp only; split <;> rfl
  · unfold endStartUp; dsimp only; split <;> rfl

theorem switchExit_moves (s : State) : ExposureMoves s (switchExit s) := by
  refine moves_of_seq rfl rfl rfl fun h => ?_
  simp only [switchExit, State.setCsq_csq] at h
  split_ifs at h
  exact absurd h (runOrIdle_ne_starting s)

theorem loadCompleted_moves (s : State) : ExposureMoves s (loadCompleted s) := by
  unfold loadCompleted
  split
  · rename_i h; exact endStartUp_moves h
  · exact switchExit_moves s
  · exact .refl

theorem beginLoad_moves (i : Fin 8) (s : State) : ExposureMoves s (beginLoad i s) := by
  unfold beginLoad
  split
  · exact moves_of_frame rfl rfl rfl
  · exact .trans (moves_of_frame (by simp) (by simp) (by simp)) (loadCompleted_moves _)

theorem startUpProgress_moves (s : State) : ExposureMoves s (startUpProgress s) := by
  unfold startUpProgress
  split
  · rename_i h
    refine .trans (b := s.setCsq { s.csq with loadChosen := true }) (moves_of_seq rfl rfl rfl id) ?_
    dsimp only
    split
    · exact beginLoad_moves _ _
    · exact endStartUp_moves h.1
  · exact .refl

theorem takeTarget_moves (t : Target) (s : State) : ExposureMoves s (takeTarget t s) := by
  unfold takeTarget; split <;> exact moves_of_seq rfl rfl rfl id

theorem headChangeReported_moves (k : Fin 12) (s : State) : ExposureMoves s (headChangeReported k s) := by
  unfold headChangeReported
  split
  · exact .refl
  · split
    · exact .refl
    · exact takeTarget_moves _ s

theorem markRecord_moves (stray long short : Bool) (s : State) : ExposureMoves s (markRecord stray long short s) :=
  ExposureStands.moves
    { serving := rfl, exposureTimer := rfl, readoutTimer := rfl
      record := Option.map_map _ _ _
      starting := fun h => ⟨h, id⟩, startupCeiling := rfl, limits := id, lit := .inr ⟨rfl, .inl rfl⟩ }

/-- The receiver's counts and lines change, or its state within one service (R1). -/
theorem setPxr_moves {s : State} {p : Receiver} (hs : p.state.serving = s.pxr.state.serving)
    (he : p.exposureTimer = s.pxr.exposureTimer) (hr : p.readoutTimer = s.pxr.readoutTimer)
    (ho : s.pxr.state = .off → p.state = .off) : ExposureMoves s (s.setPxr p) :=
  ExposureStands.moves
    { serving := hs, exposureTimer := he, readoutTimer := hr, record := rfl, starting := fun h => ⟨h, ho⟩
      startupCeiling := rfl, limits := id, lit := .inr ⟨rfl, .inl rfl⟩ }

theorem handRow_moves (y : Nat) (row : List Nat) (s : State) : ExposureMoves s (handRow y row s) :=
  moves_of_frame (by simp) (by simp) (by simp)

theorem handRows_moves (y : Nat) (rows : List (List Nat)) (s : State) : ExposureMoves s (handRows y rows s) :=
  moves_of_frame (by simp) (by simp) (by simp)

theorem receiveLine_moves (y : Nat) (row : List Nat) (s : State) : ExposureMoves s (receiveLine y row s) := by
  unfold receiveLine
  refine .trans (.trans ?_ (handRows_moves 0 _ _)) (handRow_moves y row _)
  exact setPxr_moves rfl rfl rfl id

/-- A line that closes leaves the receiver in IN_FRAME with its exposure (R10). -/
theorem closeOpenLine_moves (s : State) : ExposureMoves s (closeOpenLine s) := by
  unfold closeOpenLine
  split
  · rename_i hs
    have hb : ExposureMoves s (s.setPxr { s.pxr with state := .inFrame .between }) :=
      setPxr_moves (by rw [hs]; rfl) rfl rfl (by simp [hs])
    unfold closeLine
    dsimp only
    split
    · exact hb.trans (receiveLine_moves _ _ _)
    · have hp : ExposureMoves s ((s.setPxr { s.pxr with state := .inFrame .between }).setPxr
          { s.pxr with state := .inFrame .between, patched := s.pxr.patched + 1 }) :=
        hb.trans (setPxr_moves rfl rfl rfl id)
      split
      · exact (hp.trans (markRecord_moves _ _ _ _)).trans (receiveLine_moves _ _ _)
      · split
        · exact hp.trans (handRow_moves _ _ _)
        · exact hp.trans (setPxr_moves rfl rfl rfl id)
  · exact .refl

theorem judgeReadout_moves {s : State} (h : s.pxr.state.serving ≠ .exposing) : ExposureMoves s (judgeReadout s) := by
  unfold judgeReadout
  split
  · exact abandonExposure_moves rfl (.inr (.inr h))
  · exact completeExposure_moves (.inr h)

/-- A readout ends with its exposure cleared, or goes on where none was in flight (R12). -/
theorem endReadout_moves {s : State} (h : s.pxr.state.serving ≠ .exposing) : ExposureMoves s (endReadout s) := by
  unfold endReadout
  dsimp only
  refine .trans (b := s.setPxr { s.pxr with patched := s.pxr.patched + (Config.sensorHeight - s.pxr.lineNumber) })
    (setPxr_moves rfl rfl rfl id) ?_
  split
  · refine .trans ?_ (abandonExposure_moves rfl (.inr (.inr h)))
    exact setPxr_moves rfl rfl rfl id
  · refine .trans ?_ (judgeReadout_moves (by simpa using h))
    exact handRows_moves _ _ _

theorem cancelActive_moves (a : StillTrack) (s : State) : ExposureMoves s (cancelActive a s) := by
  unfold cancelActive
  refine .trans ?_ (leaveStill_moves _)
  split
  · exact (sequencerAbandon_moves _ s).trans (dropActive_moves a _)
  · exact dropActive_moves a s

theorem softReset_moves (s : State) : ExposureMoves s (softReset s) :=
  ExposureCleared.moves
    { serving := rfl, exposureTimer := rfl, readoutTimer := rfl, exposure := rfl
      starting := fun h => by
        simp only [softReset, Sequencer.softReset] at h
        split at h <;> simp at h
      limits := id, lit := .inl rfl }

end Sys2Proof.Machine
end

section
namespace Sys2Proof.Machine

/-! ### Moves of the requests' owners -/

@[simp] theorem Lamps.setBank_frame (l : Lamps) (b : Bank) (x : BankLamp) :
    (l.setBank b x).deadband = l.deadband ∧ (l.setBank b x).ceiling = l.ceiling ∧
    (l.setBank b x).derateStart = l.derateStart ∧ (l.setBank b x).cutoffAt = l.cutoffAt ∧
    (l.setBank b x).startupCeiling = l.startupCeiling ∧ (l.setBank b x).temperature = l.temperature ∧
    (l.setBank b x).cutoff = l.cutoff ∧ (l.setBank b x).steering = l.steering ∧ (l.setBank b x).lit = l.lit := by
  cases b <;> simp [Lamps.setBank]

/-- Serving a request moves the exposure in flight as its owner does. -/
theorem serve_moves {owner : State → Answer} (ho : ∀ u, ExposureMoves u (owner u).2) (q : Request) (s : State) :
    ExposureMoves s (serve q owner s) :=
  serve_keeps (P := ExposureMoves s) (fun _ _ h => h.trans (moves_of_frame rfl rfl rfl))
    (fun _ _ h => h.trans (moves_of_frame rfl rfl rfl)) (fun u h => h.trans (ho u)) q s .refl

theorem storeClamped_moves {put : Nat → State → State} {s : State} (lo hi v : Int)
    (h : ∀ n, ExposureMoves s (put n s)) : ExposureMoves s (storeClamped lo hi v put s).2 := h _

theorem storeChoice_moves {α : Type} {put : α → State → State} {s : State} (c : Option α) (v : Int)
    (h : ∀ a, ExposureMoves s (put a s)) : ExposureMoves s (storeChoice c v put s).2 := by
  cases c with
  | none => exact .refl
  | some a => exact h a

theorem storeQuiescent_moves {α : Type} {put : α → State → State} {s : State} (c : Option α) (v : Int)
    (h : ∀ a, ExposureMoves s (put a s)) : ExposureMoves s (storeQuiescent c v put s).2 := by
  unfold storeQuiescent
  split
  · exact .refl
  · exact storeChoice_moves c v h

theorem storeMask_moves {put : Word16 → State → State} {s : State} (st : UpdateStyle) (old : Word16) (v : Int)
    (h : ∀ m, ExposureMoves s (put m s)) : ExposureMoves s (storeMask st old v put s).2 := by
  unfold storeMask
  split
  · exact h _
  · exact .refl

theorem writeWhenOpen_moves (r : Response) (c : Content) (s : State) : ExposureMoves s (writeWhenOpen r c s).2 := by
  unfold writeWhenOpen
  split
  · exact moves_of_frame rfl rfl rfl
  · exact .refl

theorem storeHeader_moves (v : Int) (c : Option Content) (s : State) : ExposureMoves s (storeHeader v c s).2 := by
  cases c with
  | none => exact .refl
  | some c => exact writeWhenOpen_moves _ c s

theorem setBank_moves (b : Bank) (x : BankLamp) (s : State) : ExposureMoves s (s.setLpc (s.lpc.setBank b x)) :=
  moves_of_lamps rfl rfl (by simp) (by simp [Lamps.limitsOk]) (by simp) (by simp)

theorem setBankReport_moves (b : Bank) (x : BankLamp) (s : State) : ExposureMoves s (setBankReport b x s) :=
  (setBank_moves b x s).trans (moves_of_frame (by simp [setBankReport]) (by simp [setBankReport])
    (by simp [setBankReport]))

theorem clampInt_bounds {lo hi : Int} (h : lo ≤ hi) (v : Int) : lo ≤ clampInt lo hi v ∧ clampInt lo hi v ≤ hi := by
  unfold clampInt
  split_ifs <;> omega

/-- A new CEILING stays within the startup ceiling (R80). -/
theorem writeCeiling_moves (v : Int) (s : State) : ExposureMoves s (writeCeiling v s).2 := by
  refine .trans (b := s.setLpc { s.lpc with ceiling := (clampInt 10000 s.lpc.startupCeiling v).toNat }) ?_
    (moves_of_frame (by simp [writeCeiling, storeClamped, answerStored]) (by simp [writeCeiling, storeClamped, answerStored])
      (by simp [writeCeiling, storeClamped, answerStored]))
  refine moves_of_lamps rfl rfl rfl (fun h => ⟨h.1, ?_⟩) rfl rfl
  have := clampInt_bounds (lo := 10000) (hi := s.lpc.startupCeiling) (by have := h.1; omega) v
  simp only [State.setLpc_lpc]
  omega

theorem writeDerateStart_moves (v : Int) (s : State) : ExposureMoves s (writeDerateStart v s).2 := by
  unfold writeDerateStart answerStored
  dsimp only
  split
  · exact .refl
  · refine .trans ?_ (afterTemperature_moves _)
    exact moves_of_lamps rfl rfl rfl id rfl rfl

theorem writeCutoff_moves (v : Int) (s : State) : ExposureMoves s (writeCutoff v s).2 := by
  unfold writeCutoff answerStored
  dsimp only
  split
  · exact .refl
  · refine .trans ?_ (afterTemperature_moves _)
    exact moves_of_lamps rfl rfl rfl id rfl rfl

/-- The write of any parameter moves the exposure in flight as the rules let it; only a thermal limit may clear it (R84). -/
theorem writeParam_moves (p : Param) (b : Bank) (st : UpdateStyle) (value : List Byte) (s : State) :
    ExposureMoves s (writeParam p b st value s).2 := by
  cases p with
  | align | depth =>
    exact storeQuiescent_moves _ _ fun _ => setPxr_moves rfl rfl rfl id
  | readoutTimeout | patchLimit => exact storeClamped_moves _ _ _ fun _ => setPxr_moves rfl rfl rfl id
  | darkEvery | clipLevel | fill | sendPeriod | probePeriod =>
    exact storeClamped_moves _ _ _ fun _ => moves_of_frame rfl rfl rfl
  | interval => exact storeClamped_moves _ _ _ fun _ => moves_of_seq rfl rfl rfl id
  | deadband => exact storeClamped_moves _ _ _ fun _ => moves_of_lamps rfl rfl rfl id rfl rfl
  | target => exact storeClamped_moves _ _ _ fun _ => setBank_moves _ _ _
  | expo => exact storeClamped_moves _ _ _ fun _ => setBankReport_moves _ _ _
  | blackMode | policy | sendMode | streamFormat | noticeEn =>
    exact storeChoice_moves _ _ fun _ => moves_of_frame rfl rfl rfl
  | paced | autoswitch => exact storeChoice_moves _ _ fun _ => moves_of_seq rfl rfl rfl id
  | mode | steer => exact storeChoice_moves _ _ fun _ => setBankReport_moves _ _ _
  | level | min | max => exact setBankReport_moves _ _ _
  | ceiling => exact writeCeiling_moves _ _
  | derateStart => exact writeDerateStart_moves _ _
  | cutoff => exact writeCutoff_moves _ _
  | riseEn | fallEn => exact storeMask_moves _ _ _ fun _ => moves_of_frame rfl rfl rfl
  | profileId | headBind | bankSet | outWidth | outHeight | hasTone => exact storeHeader_moves _ _ _
  | label => exact writeWhenOpen_moves _ _ _
  | blackLevel =>
    simp only [writeParam, writeBlackLevel]
    split
    · exact .refl
    · exact storeClamped_moves _ _ _ fun _ => moves_of_frame rfl rfl rfl

theorem checkPset_moves (p : Param) (bank style : Byte) (value : List Byte) (s : State) :
    ExposureMoves s (checkPset p bank style value s).2 := by
  unfold checkPset
  split
  · split
    · exact .refl
    · split
      · exact .refl
      · split
        · exact writeParam_moves _ _ _ _ _
        · exact .refl
  · exact .refl

theorem psetOwner_moves (body : List Byte) (s : State) : ExposureMoves s (psetOwner body s).2 := by
  unfold psetOwner
  split
  · split
    · exact checkPset_moves _ _ _ _ _
    · exact .refl
  · exact .refl

theorem servePset_moves (p : Param) (bank style : Byte) (value : List Byte) (s : State) :
    ExposureMoves s (servePset p bank style value s) := serve_moves (checkPset_moves p bank style value) _ s

theorem answerData_moves (d : Option (List Byte)) (s : State) : ExposureMoves s (answerData d s).2 := by
  cases d <;> exact .refl

theorem pgetOwner_moves (body : List Byte) (s : State) : ExposureMoves s (pgetOwner body s).2 := by
  unfold pgetOwner
  repeat' split
  all_goals exact .refl

theorem sgoOwner_moves (body : List Byte) (s : State) : ExposureMoves s (sgoOwner body s).2 := by
  unfold sgoOwner
  split
  · exact .refl
  · split
    · exact .refl
    · simp only [accept, requestStream]
      split
      · exact moves_of_seq rfl rfl rfl id
      · refine moves_of_seq rfl rfl rfl ?_
        simp only [State.setCsq_csq]
        split
        · simp
        · exact id

theorem stopStream_moves (s : State) : ExposureMoves s (stopStream s) := by
  have hw : ExposureMoves s (withdrawStream s) := by
    refine moves_of_seq rfl rfl rfl ?_
    simp only [withdrawStream, State.setCsq_csq]
    split
    · simp
    · exact id
  refine hw.trans ?_
  unfold stopStream dropStopped
  split
  · split
    · exact dropFrame_moves _
    · exact .refl
  · exact .refl

theorem stilOwner_moves (body : List Byte) (s : State) : ExposureMoves s (stilOwner body s).2 := by
  unfold stilOwner
  split
  · exact .refl
  · split
    · exact .refl
    · split
      · exact .refl
      · split
        · exact .refl
        · exact moves_of_seq rfl rfl rfl id

theorem scanOwner_moves (body : List Byte) (s : State) : ExposureMoves s (scanOwner body s).2 := by
  unfold scanOwner
  dsimp only
  split
  · exact cancelActive_moves _ s
  · split
    · exact moves_of_seq rfl rfl rfl id
    · split <;> exact .refl

theorem zsetOwner_moves (body : List Byte) (s : State) : ExposureMoves s (zsetOwner body s).2 := by
  unfold zsetOwner
  split
  · exact moves_of_frame (by simp) (by simp) (by simp)
  · exact .refl

theorem twrtOwner_moves (body : List Byte) (s : State) : ExposureMoves s (twrtOwner body s).2 := by
  unfold twrtOwner
  dsimp only
  split
  · exact .refl
  · split
    · exact .refl
    · exact writeWhenOpen_moves _ _ s

theorem trdOwner_moves (body : List Byte) (s : State) : ExposureMoves s (trdOwner body s).2 := by
  unfold trdOwner
  dsimp only
  repeat' split
  all_goals exact .refl

theorem pactOwner_moves (body : List Byte) (s : State) : ExposureMoves s (pactOwner body s).2 := by
  unfold pactOwner
  split
  · exact takeTarget_moves _ s
  · exact .refl

/-! The owners of the store's requests change nothing outside the store. -/

theorem psavOwner_moves (body : List Byte) (s : State) : ExposureMoves s (psavOwner body s).2 := by
  unfold psavOwner
  repeat' split
  all_goals exact moves_of_frame rfl rfl rfl

theorem persOwner_moves (body : List Byte) (s : State) : ExposureMoves s (persOwner body s).2 := by
  unfold persOwner
  repeat' split
  all_goals exact moves_of_frame rfl rfl rfl

theorem sersOwner_moves (s : State) : ExposureMoves s (sersOwner s).2 := by
  unfold sersOwner
  split <;> exact moves_of_frame rfl rfl rfl

theorem pprtOwner_moves (body : List Byte) (s : State) : ExposureMoves s (pprtOwner body s).2 := by
  unfold pprtOwner
  repeat' split
  all_goals exact moves_of_frame rfl rfl rfl

theorem bwrtOwner_moves (body : List Byte) (s : State) : ExposureMoves s (bwrtOwner body s).2 := by
  unfold bwrtOwner
  repeat' split
  all_goals exact moves_of_frame rfl rfl rfl

theorem brdOwner_moves (s : State) : ExposureMoves s (brdOwner s).2 := by
  unfold brdOwner accept
  dsimp only
  split
  · exact moves_of_frame rfl rfl rfl
  · exact .refl

theorem hprbOwner_moves (body : List Byte) (s : State) : ExposureMoves s (hprbOwner body s).2 := by
  unfold hprbOwner
  dsimp only
  repeat' split
  all_goals exact moves_of_frame rfl rfl rfl

/-! ### Moves of the events -/

theorem rxByte_moves (s : State) (b : Byte) : ExposureMoves s (rxByte s b) := by
  unfold rxByte
  dsimp only
  repeat' split
  all_goals exact moves_of_frame (by simp) (by simp) (by simp)

theorem rxBytes_moves (bytes : List Byte) (s : State) : ExposureMoves s (bytes.foldl rxByte s) := by
  induction bytes generalizing s with
  | nil => exact .refl
  | cons b bs ih => exact (rxByte_moves s b).trans (ih _)

theorem endSending_moves (x : Sending) (s : State) : ExposureMoves s (endSending x s) := by
  unfold endSending
  split
  · exact moves_of_frame rfl rfl rfl
  · split
    · exact softReset_moves s
    · exact moves_of_frame rfl rfl rfl

theorem adopt_moves (c : Classification) (s : State) : ExposureMoves s (adopt c s) := by
  have hc : ExposureMoves s (reportHeadChange s.hpb.lastHead c (s.setHpb (s.hpb.adopt c))) := by
    refine .trans (b := s.setHpb (s.hpb.adopt c)) (moves_of_frame rfl rfl rfl) ?_
    unfold reportHeadChange
    split
    · split
      · exact .refl
      · exact .trans (moves_of_frame (by simp) (by simp) (by simp)) (headChangeReported_moves _ _)
    · exact .refl
  unfold adopt
  refine .trans ?_ (startUpProgress_moves _)
  refine .trans ?_ (pump_moves _)
  refine .trans ?_ (haltExit_moves _)
  have hp := hc.trans (moves_of_frame (t := report .headPresent
    (headPresent (reportHeadChange s.hpb.lastHead c (s.setHpb (s.hpb.adopt c))))
    (reportHeadChange s.hpb.lastHead c (s.setHpb (s.hpb.adopt c)))) (by simp) (by simp) (by simp))
  split
  · exact hp.trans (haltFor_moves _ _)
  · exact hp

theorem useClassification_moves (c : Classification) (s : State) : ExposureMoves s (useClassification c s) := by
  unfold useClassification
  split
  · exact moves_of_frame rfl rfl rfl
  · split
    · exact adopt_moves c s
    · exact moves_of_frame rfl rfl rfl

theorem endVerify_moves (i : Fin 8) (lost : LostCells) (s : State) : ExposureMoves s (endVerify i lost s) := by
  unfold endVerify
  dsimp only
  split
  · exact moves_of_frame rfl rfl rfl
  · exact .trans (moves_of_frame (by simp) (by simp) (by simp)) (loadCompleted_moves _)

/-- The ends of the store's operations change the store and raise their condition. -/
theorem eraseResult_moves (ok : Bool) (s : State) : ExposureMoves s (eraseResult ok s) := by
  unfold eraseResult
  split <;> exact moves_of_frame (by simp) (by simp) (by simp)

theorem endSave_moves (i : Fin 8) (lost : LostCells) (s : State) : ExposureMoves s (endSave i lost s) := by
  unfold endSave
  dsimp only
  split <;> exact moves_of_frame (by simp) (by simp) (by simp)

theorem startRender_moves (w : Waiting) (j : RenderJob) (s : State) : ExposureMoves s (startRender w j s) :=
  moves_of_frame rfl rfl rfl

theorem offerStream_moves (w : Waiting) (s : State) : ExposureMoves s (offerStream w s) := by
  have hw : ExposureMoves s (takeWaiting s) := moves_of_seq rfl rfl rfl id
  unfold offerStream
  dsimp only
  split
  · exact (hw.trans (moves_of_frame (by simp) (by simp) (by simp))).trans (startRender_moves _ _ _)
  · exact hw.trans (moves_of_frame (by simp) (by simp) (by simp))

theorem offerStill_moves (w : Waiting) (tag : Nat) (a : StillTrack) (s : State) :
    ExposureMoves s (offerStill w tag a s) := moves_of_seq rfl rfl rfl id

theorem completeSend_moves (snd : Send) (s : State) : ExposureMoves s (completeSend snd s) := by
  unfold completeSend
  dsimp only
  split
  · refine .trans ?_ (pump_moves _)
    exact moves_of_seq (by simp [finishStill]) (by simp [finishStill]) (by simp [finishStill]) (by simp [finishStill])
  · exact moves_of_frame rfl rfl rfl

theorem startStill_moves (q : StillRequest) (rest : List StillRequest) (claim : Fin 4 × Bool) (s : State) :
    ExposureMoves s (startStill q rest claim s) :=
  moves_of_seq (by simp [startStill]) (by simp [startStill]) (by simp [startStill]) (by simp [startStill])

theorem startFinalise_moves (a : StillTrack) (buffer : LinId) (s : State) :
    ExposureMoves s (startFinalise a buffer s) := by
  refine .trans ?_ (leaveStill_moves _)
  exact moves_of_seq rfl rfl rfl id

/-- The ceiling code that a startup record gives is a valid one (R156). -/
theorem bootValues_ceilingCode (r : Vector (Byte × Byte) 8) :
    1 ≤ (bootValues r).ceilingCode ∧ (bootValues r).ceilingCode ≤ 400 := by
  simp only [bootValues, bootField]
  split
  · rename_i h
    simp [bootPasses] at h
    omega
  · omega

theorem fullReset_moves (s : State) : ExposureMoves s (fullReset s) := by
  obtain ⟨hc, -⟩ := bootValues_ceilingCode (s.pfs.bootView s.draws)
  refine ExposureCleared.moves ⟨rfl, rfl, rfl, rfl, fun _ => .inl rfl, fun _ => ⟨?_, le_refl _⟩, .inl rfl⟩
  simp only [fullReset]
  omega

end Sys2Proof.Machine
end

section
namespace Sys2Proof.Machine

/-! ### Every command's moves -/

/-- Every command but TRIGGER, EXPOSURE_END and FRAME_OPEN moves the exposure in flight only as the shared operations do. -/
theorem exec_moves {i : Instr} {s t : State} (h : exec i s = .next t) (h1 : i ≠ .trigger) (h2 : i ≠ .exposureEnd)
    (h3 : i ≠ .frameOpen) : ExposureMoves s t := by
  cases i with
  | trigger | exposureEnd | frameOpen => contradiction
  | fullReset => cases h; exact fullReset_moves s
  | startupScanDone =>
    simp only [exec, execStartupScanDone] at h
    split at h <;> cases h
    · refine .trans (.trans ?_ (startUpProgress_moves _)) (pump_moves _)
      exact moves_of_seq rfl rfl rfl id
    · exact .refl
  | lineOpen =>
    simp only [exec, execLineOpen] at h
    split at h
    · rename_i sub hs
      have hc : (closeOpenLine s).pxr.state = .inFrame .between := by
        unfold closeOpenLine
        split
        · exact closeLine_state s
        · rename_i hn; cases sub <;> simp_all
      split at h <;> cases h
      · exact (closeOpenLine_moves s).trans (setPxr_moves (by rw [hc]; rfl) rfl rfl (by simp [hc]))
      · exact (closeOpenLine_moves s).trans (markRecord_moves _ _ _ _)
    · cases h; exact .refl
  | pixelWord word =>
    simp only [exec, execPixelWord] at h
    split at h
    · split at h <;> cases h
      · exact setPxr_moves rfl rfl rfl id
      · exact markRecord_moves _ _ _ _
    · cases h; exact .refl
  | lineClose => cases h; exact closeOpenLine_moves s
  | frameClose =>
    simp only [exec, execFrameClose] at h
    split at h <;> cases h
    · rename_i sub hs
      refine .trans ((closeOpenLine_moves s).trans (endReadout_moves ?_)) (pump_moves _)
      unfold closeOpenLine
      split
      · simp [closeLine_state, ReceiverState.serving]
      · simp [hs, ReceiverState.serving]
    · rename_i held hs
      exact setPxr_moves (by rw [hs]; cases held <;> rfl) rfl rfl (by simp [hs])
    · exact .refl
  | readoutTimeout =>
    simp only [exec, execReadoutTimeout] at h
    split at h <;> cases h
    · exact .refl
    · rename_i n hn
      exact (abandonExposure_moves (abandonedState_serving _) (.inr (.inl (by simp [hn])))).trans (pump_moves _)
  | intervalExpiry => cases h; exact moves_of_seq rfl rfl rfl id
  | foldComplete bank =>
    simp only [exec, execFoldComplete] at h
    split at h <;> cases h <;> exact moves_of_frame rfl rfl rfl
  | stillStart =>
    simp only [exec, execStillStart] at h
    split at h
    · split at h
      · split at h <;> cases h
        · refine .trans ?_ (pump_moves _)
          exact moves_of_seq (by simp) (by simp) (by simp) (by simp)
        · exact (startStill_moves _ _ _ s).trans (pump_moves _)
      · cases h; exact .refl
    · cases h; exact .refl
  | finaliseStart =>
    simp only [exec, execFinaliseStart] at h
    split at h
    · split at h <;> cases h
      · exact startFinalise_moves _ _ s
      · exact .refl
    · cases h; exact .refl
  | finaliseComplete =>
    simp only [exec, execFinaliseComplete] at h
    split at h <;> cases h
    · exact .refl
    · exact moves_of_seq rfl rfl rfl id
  | renderStart =>
    simp only [exec, execRenderStart] at h
    split at h
    · split at h
      · cases h; exact (offerStream_moves _ s).trans (pump_moves _)
      · split at h <;> cases h
        · exact offerStill_moves _ _ _ s
        · exact .refl
    · cases h; exact .refl
  | renderComplete =>
    simp only [exec, execRenderComplete] at h
    split at h <;> cases h
    · exact .refl
    · exact moves_of_seq rfl rfl rfl id
  | sendStart =>
    simp only [exec, execSendStart] at h
    split at h <;> cases h <;> exact moves_of_frame rfl rfl rfl
  | sendPeriodExpiry =>
    simp only [exec, execSendPeriodExpiry] at h
    split at h <;> cases h <;> exact moves_of_frame rfl rfl rfl
  | sendComplete =>
    simp only [exec, execSendComplete] at h
    split at h <;> cases h
    · exact .refl
    · exact completeSend_moves _ s
  | modemReady =>
    simp only [exec, execModemReady] at h
    split at h
    · cases h; exact .refl
    · split at h <;> cases h
      · exact moves_of_frame rfl rfl rfl
      · exact completeSend_moves _ s
  | switchDrain =>
    simp only [exec, execSwitchDrain] at h
    split at h <;> cases h
    · exact enter_moves (by simp) s
    · exact .refl
  | switchLoad =>
    simp only [exec, execSwitchLoad] at h
    split at h
    · have hl : ExposureMoves s (s.setCsq { s.csq with state := .switchLoad, switchTarget := none }) :=
        moves_of_seq rfl rfl rfl (by simp)
      split at h <;> cases h
      · exact (hl.trans (beginLoad_moves _ _)).trans (pump_moves _)
      · exact hl.trans (switchExit_moves _)
    · cases h; exact .refl
  | verifyPassDone lost =>
    simp only [exec, execVerifyPassDone] at h
    split at h <;> cases h
    · exact (endVerify_moves _ lost s).trans (pump_moves _)
    · exact .refl
  | copyPassDone =>
    simp only [exec, execCopyPassDone] at h
    split at h <;> cases h
    · refine .trans (.trans ?_ (loadCompleted_moves _)) (pump_moves _)
      exact moves_of_frame (by simp) (by simp) (by simp)
    · exact .refl
  | saveEraseDone =>
    simp only [exec, execSaveEraseDone] at h
    split at h <;> cases h <;> exact moves_of_frame rfl rfl rfl
  | saveProgramDone lost =>
    simp only [exec, execSaveProgramDone] at h
    split at h <;> cases h
    · exact (endSave_moves _ lost s).trans (pump_moves _)
    · exact .refl
  | eraseDone lost =>
    simp only [exec, execEraseDone] at h
    split at h <;> cases h
    · refine .trans (.trans ?_ (eraseResult_moves _ _)) (pump_moves _)
      exact moves_of_frame rfl rfl rfl
    · exact .refl
  | eraseAllSlotDone lost =>
    simp only [exec, execEraseAllSlotDone] at h
    split at h
    · split at h <;> cases h
      · exact moves_of_frame rfl rfl rfl
      · refine .trans (.trans ?_ (eraseResult_moves _ _)) (pump_moves _)
        exact moves_of_frame rfl rfl rfl
    · cases h; exact .refl
  | bootWriteEraseDone =>
    simp only [exec, execBootWriteEraseDone] at h
    split at h <;> cases h <;> exact moves_of_frame rfl rfl rfl
  | bootWriteProgramDone lost =>
    simp only [exec, execBootWriteProgramDone] at h
    split at h <;> cases h
    · refine .trans ?_ (pump_moves _)
      split <;> exact moves_of_frame (by simp) (by simp) (by simp)
    · exact .refl
  | probePeriodExpiry => cases h; exact moves_of_frame rfl rfl rfl
  | idConversionDone code =>
    simp only [exec, execIdConversionDone] at h
    split at h <;> cases h
    · refine .trans (.trans ?_ (useClassification_moves _ _)) (pump_moves _)
      exact moves_of_frame rfl rfl rfl
    · exact .refl
  | tempConversionDone code =>
    simp only [exec, execTempConversionDone] at h
    split at h <;> cases h
    · refine .trans (.trans ?_ (afterTemperature_moves _)) (pump_moves _)
      exact moves_of_lamps rfl rfl rfl id rfl rfl
    · exact .refl
  | frameReceived bytes => cases h; exact (rxBytes_moves bytes s).trans (pump_moves _)
  | byteGapTimeout => cases h; exact moves_of_frame rfl rfl rfl
  | lenOutOfRange len =>
    simp only [exec, execLenOutOfRange] at h
    split at h <;> cases h
    · exact (rxByte_moves s _).trans (rxByte_moves _ _)
    · exact rxByte_moves s _
    · exact .refl
  | frameSent =>
    simp only [exec, execFrameSent] at h
    split at h <;> cases h
    · exact .refl
    · exact (endSending_moves _ s).trans (pump_moves _)
  | badKind kind body =>
    simp only [exec, execBadKind] at h
    split at h <;> cases h
    · exact .refl
    · exact serve_moves (fun _ => .refl) _ s
  | idnt body | rset body | ltch body =>
    cases h; exact serve_moves (fun _ => moves_of_frame rfl rfl rfl) _ s
  | stat body | zget body | plst body => cases h; exact serve_moves (fun u => answerData_moves _ u) _ s
  | pget body => cases h; exact serve_moves (pgetOwner_moves body) _ s
  | pset body => cases h; exact serve_moves (psetOwner_moves body) _ s
  | psetLevel _ _ _ | psetMin _ _ _ | psetMax _ _ _ | psetExpo _ _ _ | psetMode _ _ _ | psetSteer _ _ _
  | psetCeiling _ _ _ | psetDerateStart _ _ _ | psetCutoff _ _ _ | psetSendMode _ _ _ | psetRiseEn _ _ _
  | psetFallEn _ _ _ | psetNoticeEn _ _ _ | psetOutWidth _ _ _ | psetOutHeight _ _ _ | psetBankSet _ _ _
  | psetHasTone _ _ _ | psetProfileId _ _ _ | psetHeadBind _ _ _ | psetLabel _ _ _ =>
    cases h; exact servePset_moves _ _ _ _ s
  | sgo body => cases h; exact serve_moves (sgoOwner_moves body) _ s
  | shlt body => cases h; exact serve_moves stopStream_moves _ s
  | stil body => cases h; exact serve_moves (stilOwner_moves body) _ s
  | scan body => cases h; exact serve_moves (scanOwner_moves body) _ s
  | zset body => cases h; exact serve_moves (zsetOwner_moves body) _ s
  | twrt body => cases h; exact serve_moves (twrtOwner_moves body) _ s
  | trd body => cases h; exact serve_moves (trdOwner_moves body) _ s
  | pact body => cases h; exact serve_moves (pactOwner_moves body) _ s
  | psav body => cases h; exact serve_moves (psavOwner_moves body) _ s
  | pers body => cases h; exact serve_moves (persOwner_moves body) _ s
  | sers body => cases h; exact serve_moves sersOwner_moves _ s
  | pprt body => cases h; exact serve_moves (pprtOwner_moves body) _ s
  | bwrt body => cases h; exact serve_moves (bwrtOwner_moves body) _ s
  | brd body => cases h; exact serve_moves brdOwner_moves _ s
  | hprb body => cases h; exact serve_moves (hprbOwner_moves body) _ s

theorem idleMoment_moves (s : State) : ExposureMoves s (idleMoment s) := by
  unfold idleMoment
  split
  · exact .refl
  · split
    · exact moves_of_frame rfl rfl rfl
    · exact .refl

end Sys2Proof.Machine
end

section
namespace Sys2Proof.Machine

/-! ## Triggers (R4, R86, R97, R98) -/

/-- What a trigger in RUN or STILL requires, whatever it is for (R4, R98). -/
theorem triggerReady_iff (s : State) : triggerReady s = true ↔
    startUpEnded s = true ∧ s.csq.exposure = none ∧ (∃ k, s.hpb.adopted = some (.head k)) ∧ receiverReady s = true := by
  have hh : headPresent s = true ↔ ∃ k, s.hpb.adopted = some (.head k) := by
    unfold headPresent
    split <;> simp_all
  simp [triggerReady, hh, and_assoc]

/-- The trigger chosen: its conditions hold, the sequencer is in RUN or STILL, and only a dark exposure is triggered under a
cutoff (R98). -/
theorem triggerPlan_some {s : State} {plan : TriggerPlan} (h : triggerPlan s = some plan) :
    triggerReady s = true ∧ (s.csq.state = .run ∨ s.csq.state = .still) ∧ (plan = .dark ∨ s.lpc.cutoff = false) ∧
      (plan = .second → ∃ f, s.csq.frame = some f) ∧ ∀ b, plan = .still b → ∃ a, s.csq.active = some a := by
  unfold triggerPlan at h
  split at h
  · contradiction
  · rename_i hready
    refine ⟨by simpa using hready, ?_⟩
    split at h
    · rename_i hs
      refine ⟨.inl hs, ?_⟩
      split at h
      · rename_i f hf
        unfold secondTrigger at h
        split at h
        · rename_i hc
          cases h
          simp [hc.1, hf]
        · contradiction
      · unfold boundaryTrigger at h
        split at h
        · contradiction
        · split at h
          · cases h; simp
          · split at h
            · contradiction
            · rename_i hc
              obtain ⟨id, -, rfl⟩ := Option.map_eq_some_iff.1 h
              simp_all
    · rename_i hs
      refine ⟨.inr hs, ?_⟩
      obtain ⟨a, ha, hp⟩ := Option.bind_eq_some_iff.1 h
      unfold stillTrigger at hp
      split at hp
      · split at hp
        · rename_i hc
          cases hp
          simp [hc.1, ha]
        · contradiction
      · contradiction
    · contradiction

@[simp] theorem Lamps.light_frame (l : Lamps) (b : Bank) (number : Word32) (requested time : Nat) (stream : Bool) :
    (l.light b number requested time stream).ceiling = l.ceiling ∧
    (l.light b number requested time stream).startupCeiling = l.startupCeiling ∧
    (l.light b number requested time stream).cutoff = l.cutoff ∧
    (l.light b number requested time stream).lit =
      if (l.used b requested time).1 = 0 then none else some (b, (l.used b requested time).1) := by
  cases stream <;> simp [Lamps.light]

/-- The used level keeps an exposure's energy within the ceiling (R80, R83, R86). -/
theorem Lamps.used_mul_time_le (l : Lamps) (b : Bank) (requested time : Nat) :
    (l.used b requested time).1 * time ≤ l.ceiling := by
  have h : (l.used b requested time).1 ≤ l.ceiling / time := by
    simp only [Lamps.used, Lamps.effectiveMax]
    omega
  exact (Nat.mul_le_mul_right time h).trans (Nat.div_mul_le_self _ _)

@[simp] theorem Receiver.trigger_timers (p : Receiver) (time : Nat) :
    (p.trigger time).exposureTimer = some time ∧ (p.trigger time).readoutTimer = p.readoutTimer := ⟨rfl, rfl⟩

section
variable (kind : Kind) (purpose : Purpose) (time requested black : Nat) (assigned : Option (Role × LinId)) (s : State)

/-- The exposure record that a trigger fills (R86, R97). -/
def triggeredRecord : ExposureRecord :=
  { number := s.csq.nextExposure, kind, purpose, time, black,
    usedLevel := match kind with
      | .lit b => (s.lpc.used b requested time).1
      | .dark => 0,
    clamped := match kind with
      | .lit b => (s.lpc.used b requested time).2
      | .dark => false,
    zones := s.mtu.zones.map Zone.defn, assigned, state := .armed, strayOpen := false, longLines := false,
    shortLines := false, patchedLines := 0, reason := none }

@[simp] theorem startExposure_pxr :
    (startExposure kind purpose time requested black assigned s).pxr = s.pxr.trigger time := rfl

@[simp] theorem startExposure_phc : (startExposure kind purpose time requested black assigned s).phc = s.phc := rfl

@[simp] theorem startExposure_mtu : (startExposure kind purpose time requested black assigned s).mtu =
    s.mtu.trigger s.csq.nextExposure kind purpose := rfl

@[simp] theorem startExposure_csq : (startExposure kind purpose time requested black assigned s).csq =
    { s.csq with exposure := some (triggeredRecord kind purpose time requested black assigned s),
                 nextExposure := s.csq.nextExposure + 1 } := by
  cases kind <;> rfl

@[simp] theorem startExposure_lpc_dark :
    (startExposure .dark purpose time requested black assigned s).lpc = s.lpc := rfl

@[simp] theorem startExposure_lpc_lit (b : Bank) :
    (startExposure (.lit b) purpose time requested black assigned s).lpc =
      s.lpc.light b s.csq.nextExposure requested time (purpose = .stream) := rfl

end

/-- A trigger from a ready receiver keeps the exposure invariant: the record is ARMED, the exposure timer runs, and a bank lit is
lit within the ceiling (R4, R80, R86). -/
theorem startExposure_keeps {kind : Kind} {purpose : Purpose} {time requested black : Nat}
    {assigned : Option (Role × LinId)} {s : State} (h : ExposureInv s) (hr : receiverReady s = true)
    (hs : s.csq.state ≠ .starting) (hc : kind = .dark ∨ s.lpc.cutoff = false) :
    ExposureInv (startExposure kind purpose time requested black assigned s) := by
  have hst : s.pxr.state = .idle ∨ s.pxr.state = .skip .none := by simpa [receiverReady] using hr
  have hdark := h.dark (.inr (by rcases hst with e | e <;> simp [e, ReceiverState.serving]))
  have hnext : (s.pxr.trigger time).state = .exposing ∨ (s.pxr.trigger time).state = .skip .exposing := by
    rcases hst with e | e <;> simp [Receiver.trigger, e]
  obtain ⟨hcoh, -, hl⟩ := h
  obtain ⟨-, -, htimer⟩ := (receiverCoherent_iff s).1 hcoh |>.1 (by rcases hst with e | e <;> simp [e, ReceiverState.serving])
  refine ⟨?_, fun hst => absurd (by simpa using hst) hs, ?_⟩
  · rw [receiverCoherent_iff]
    simp [(serving_eq_exposing_iff _).2 hnext, triggeredRecord, htimer]
  · cases kind with
    | dark => exact lampsSafe_of_dark hl.limitsOk hdark
    | lit b =>
      have hcut : s.lpc.cutoff = false := by simpa using hc
      obtain ⟨hstart, hceiling, -⟩ := hl
      refine ⟨by simpa using hstart, by simpa using hceiling, fun b' n hbn => ?_⟩
      simp only [startExposure_lpc_lit, Lamps.light_frame] at hbn
      split at hbn
      · contradiction
      · rename_i hne
        cases hbn
        refine ⟨by simpa using hcut, by omega, hnext, triggeredRecord (.lit b) purpose time requested black assigned s,
          by simp, rfl, rfl, ?_⟩
        simpa [triggeredRecord] using (s.lpc.used_mul_time_le b requested time).trans hceiling

/-- A trigger carried out is the start of an exposure, in a part that differs only outside what the exposure invariant and the
record speak of. -/
theorem carryTrigger_starts {s : State} {plan : TriggerPlan} (h : triggerPlan s = some plan) :
    ∃ kind purpose time requested black assigned u,
      carryTrigger plan s = startExposure kind purpose time requested black assigned u ∧ u.pxr = s.pxr ∧ u.lpc = s.lpc ∧
        u.csq.exposure = s.csq.exposure ∧ u.csq.state = s.csq.state ∧ u.csq.nextExposure = s.csq.nextExposure ∧
        (kind = .dark ∨ s.lpc.cutoff = false) := by
  obtain ⟨-, -, hcut, hframe, hactive⟩ := triggerPlan_some h
  cases plan with
  | first id => exact ⟨_, _, _, _, _, _, _, rfl, rfl, rfl, rfl, rfl, rfl, .inr (by simpa using hcut)⟩
  | second =>
    obtain ⟨f, hf⟩ := hframe rfl
    simp only [carryTrigger, hf]
    exact ⟨_, _, _, _, _, _, _, rfl, rfl, rfl, rfl, rfl, rfl, .inr (by simpa using hcut)⟩
  | dark => exact ⟨_, _, _, 0, _, _, _, rfl, rfl, rfl, rfl, rfl, rfl, .inl rfl⟩
  | still b =>
    obtain ⟨a, ha⟩ := hactive b rfl
    simp only [carryTrigger, ha]
    cases b <;> exact ⟨_, _, _, _, _, _, _, rfl, rfl, rfl, rfl, rfl, rfl, .inr (by simpa using hcut)⟩

/-- TRIGGER keeps the exposure invariant. -/
theorem execTrigger_keeps {s t : State} (h : ExposureInv s) (he : execTrigger s = .next t) : ExposureInv t := by
  unfold execTrigger at he
  split at he <;> cases he
  · rename_i plan hp
    obtain ⟨kind, purpose, time, requested, black, assigned, u, e, hpxr, hlpc, hx, hst, -, hcut⟩ := carryTrigger_starts hp
    obtain ⟨hready, hseq, -⟩ := triggerPlan_some hp
    obtain ⟨-, -, -, hrr⟩ := (triggerReady_iff s).1 hready
    rw [e]
    refine startExposure_keeps (h.of_moves (moves_of_seq hpxr hlpc hx (by rw [hst]; exact id))) ?_ ?_ (hlpc ▸ hcut)
    · rwa [receiverReady, hpxr]
    · rw [hst]; rcases hseq with e | e <;> simp [e]
  · exact h

/-- The end of an exposure keeps the exposure invariant: the lamp is turned off and the readout timer runs (R5, R87). -/
theorem execExposureEnd_keeps {s t : State} (h : ExposureInv s) (he : execExposureEnd s = .next t) : ExposureInv t := by
  unfold execExposureEnd at he
  split at he <;> cases he
  · exact h
  · rename_i n hn
    obtain ⟨hr, ho, hl⟩ := h
    refine ⟨?_, ?_, lampsSafe_of_dark hl.limitsOk rfl⟩
    · unfold ReceiverCoherent at hr ⊢
      split at hr <;> simp_all
    · intro hs
      simp only [ReceiverCoherent, ho hs] at hr
      obtain ⟨-, htimer, -⟩ := hr
      simp [htimer] at hn

/-- A frame-open keeps the exposure invariant: it skips a frame, marks the record, or begins its readout (R6). -/
theorem execFrameOpen_keeps {s t : State} (h : ExposureInv s) (he : execFrameOpen s = .next t) : ExposureInv t := by
  unfold execFrameOpen at he
  split at he <;> cases he
  · exact h
  · rename_i hs
    exact h.of_moves (setPxr_moves (by rw [hs]; rfl) rfl rfl (by simp [hs]))
  · rename_i hs
    refine h.of_moves (.trans ?_ (markRecord_moves _ _ _ _))
    exact setPxr_moves (by rw [hs]; rfl) rfl rfl (by simp [hs])
  · rename_i hs
    have hd := h.dark (.inr (by simp [hs, ReceiverState.serving]))
    obtain ⟨hr, ho, hl⟩ := h
    refine ⟨?_, fun hst => ?_, lampsSafe_of_dark hl.limitsOk hd⟩
    · simp only [ReceiverCoherent, hs] at hr
      obtain ⟨⟨r, hx, -⟩, he, ht⟩ := hr
      simp [ReceiverCoherent, hx, he, ht]
    · have := ho hst
      simp [hs] at this
  · exact h.of_moves (markRecord_moves _ _ _ _)
  · exact h

/-- Every command keeps the exposure invariant. -/
theorem ExposureInv.exec {i : Instr} {s t : State} (h : ExposureInv s) (he : exec i s = .next t) : ExposureInv t := by
  by_cases h1 : i = .trigger
  · subst h1; exact execTrigger_keeps h he
  by_cases h2 : i = .exposureEnd
  · subst h2; exact execExposureEnd_keeps h he
  by_cases h3 : i = .frameOpen
  · subst h3; exact execFrameOpen_keeps h he
  exact h.of_moves (exec_moves he h1 h2 h3)

/-- Settles O56: every command, and every idle moment, keeps the exposure invariant; the commands waiting have no part in it. -/
theorem exposureInvariantKept : Obligations.ExposureInvariantKept := by
  intro s t h hstep
  unfold step at hstep
  split at hstep
  · cases hstep
    exact h.of_moves (idleMoment_moves s)
  · rename_i rest _
    exact (h.of_moves (t := s.setPending rest) (moves_of_frame rfl rfl rfl)).exec hstep

/-- Settles O17: the shared operations bring no exposure into flight and replace none; EXPOSURE_END and FRAME_OPEN keep the record's
number; TRIGGER starts one only when none is in flight. -/
theorem onlyTriggerStartsExposure : Obligations.OnlyTriggerStartsExposure := by
  intro i s t he
  by_cases h1 : i = .trigger
  · subst h1
    simp only [exec, execTrigger] at he
    split at he <;> cases he
    · rename_i plan hp
      obtain ⟨kind, purpose, time, requested, black, assigned, u, e, -, -, -, -, hn, hcut⟩ := carryTrigger_starts hp
      obtain ⟨hready, hseq, -⟩ := triggerPlan_some hp
      obtain ⟨-, hx, hhead, -⟩ := (triggerReady_iff s).1 hready
      refine ⟨fun r _ hr => ?_, by simp [hx]⟩
      simp only [e, startExposure_csq, Option.some.injEq] at hr
      subst hr
      exact ⟨rfl, hhead, hseq, rfl, hn, hcut⟩
    · exact ⟨fun r h h' => by simp [h] at h', fun r r' h h' => by simp_all⟩
  · have hflight : InFlightOnly (s.csq.exposure.map ExposureRecord.number) t := by
      by_cases h2 : i = .exposureEnd
      · subst h2
        simp only [exec, execExposureEnd] at he
        split at he <;> cases he <;> exact .inr rfl
      by_cases h3 : i = .frameOpen
      · subst h3
        simp only [exec, execFrameOpen] at he
        split at he <;> cases he <;> simp [InFlightOnly, markRecord, Option.map_map, Function.comp_def]
      exact InFlightOnly.of_moves (exec_moves he h1 h2 h3) (.inr rfl)
    refine ⟨fun r h h' => ?_, fun r r' h h' => ?_⟩ <;> simp [InFlightOnly, h, h'] at hflight
    exact hflight

end Sys2Proof.Machine
end

section
namespace Sys2Proof.Machine

/-! ## The pixel port (R6, R7, R9, R13) and the end of an exposure (R5) -/

@[simp] theorem markRecord_stray (s : State) : markRecord true false false s =
    s.setCsq { s.csq with exposure := s.csq.exposure.map fun r => { r with strayOpen := true } } := by
  simp [markRecord]

@[simp] theorem markRecord_long (s : State) : markRecord false true false s =
    s.setCsq { s.csq with exposure := s.csq.exposure.map fun r => { r with longLines := true } } := by
  simp [markRecord]

@[simp] theorem markRecord_short (s : State) : markRecord false false true s =
    s.setCsq { s.csq with exposure := s.csq.exposure.map fun r => { r with shortLines := true } } := by
  simp [markRecord]

theorem closeOpenLine_open {s : State} (h : s.pxr.state = .inFrame .inLine) : closeOpenLine s = closeLine s := if_pos h

theorem closeOpenLine_closed {s : State} (h : s.pxr.state ≠ .inFrame .inLine) : closeOpenLine s = s := if_neg h

/-- A line-open in IN_FRAME, in two steps: the open line closes, and the next one opens or is an excess line (R7). -/
theorem execLineOpen_inFrame {s : State} {sub : LineSub} (h : s.pxr.state = .inFrame sub) :
    execLineOpen s =
      if (closeOpenLine s).pxr.lineNumber < 1024 then
        .next ((closeOpenLine s).setPxr
          { (closeOpenLine s).pxr with
            state := .inFrame .inLine, lineNumber := (closeOpenLine s).pxr.lineNumber + 1, openLine := [] })
      else .next (markRecord false true false (closeOpenLine s)) := by
  simp only [execLineOpen, h]

/-- Settles O5: the four cases of R7 by the receiver's state and the line number. -/
theorem lineOpens : Obligations.LineOpens := by
  intro s
  refine ⟨fun h => ?_, fun h => ?_, fun h hn => ?_, fun h hn => ?_⟩
  · show execLineOpen s = _
    unfold execLineOpen
    split
    · rename_i sub hs; exact absurd hs (h sub)
    · rfl
  · have hb : (closeLine s).pxr.state = .inFrame .between := closeLine_state s
    refine ⟨closeLine s, congrArg Host.Outcome.next (closeOpenLine_open h), hb, ?_⟩
    show execLineOpen s = execLineOpen (closeLine s)
    rw [execLineOpen_inFrame h, execLineOpen_inFrame hb, closeOpenLine_open h, closeOpenLine_closed (by simp [hb])]
  · show execLineOpen s = _
    rw [execLineOpen_inFrame h, closeOpenLine_closed (by simp [h]), if_pos hn]
  · show execLineOpen s = _
    rw [execLineOpen_inFrame h, closeOpenLine_closed (by simp [h]), if_neg (by omega), markRecord_long]

/-- Settles O4: the two cases of R9 with a line open, and a word outside an open line. -/
theorem pixelWordStoredOrDropped : Obligations.PixelWordStoredOrDropped := by
  intro w s
  refine ⟨fun h hn => ?_, fun h hn => ?_, fun h => ?_⟩
  · simp only [exec, execPixelWord, h, if_pos hn]
  · simp only [exec, execPixelWord, h, if_neg (Nat.not_lt.2 hn), markRecord_long]
  · simp only [exec, execPixelWord]

/-- Settles O7: R6's table, state by state. -/
theorem frameOpens : Obligations.FrameOpens := by
  intro s
  refine ⟨fun h => ?_, fun h => ?_, fun h => ?_, fun h => ?_, fun sub h => ?_, fun held h => ?_⟩ <;>
    simp [exec, execFrameOpen, h]

/-- Settles O8: R13's table, and R6 for the readout that follows. -/
theorem frameCloseEndsSkip : Obligations.FrameCloseEndsSkip := by
  intro s
  refine ⟨fun h => ?_, fun h => ?_, fun h => ⟨?_, _, rfl, rfl⟩, fun h => ?_⟩
  · simp [exec, execFrameClose, h, skipEnd]
  · simp [exec, execFrameClose, h, skipEnd]
  · simp [exec, execFrameClose, h, skipEnd]
  · rcases h with h | h | h | h <;> simp [exec, execFrameClose, h]

/-- Settles O10: with the exposure timer running the next state is R5's, and with it stopped nothing changes. -/
theorem exposureEndStartsReadoutTimer : Obligations.ExposureEndStartsReadoutTimer := by
  intro s
  refine ⟨fun ht h => ?_, fun ht h => ?_, fun ht => ?_⟩
  · obtain ⟨n, hn⟩ := Option.isSome_iff_exists.1 ht
    simp [exec, execExposureEnd, hn, h, lampOff]
  · obtain ⟨n, hn⟩ := Option.isSome_iff_exists.1 ht
    simp [exec, execExposureEnd, hn, h, lampOff]
  · simp [exec, execExposureEnd, ht]

end Sys2Proof.Machine
end

section
namespace Sys2Proof.Machine

/-! ## The resets (R2, R182) and the invariants they meet -/

/-- Settles O2: block by block, the values of `fullReset` are those of `State.reset` but for what the startup record gives. -/
theorem fullResetValues : Obligations.FullResetValues := by
  intro s
  have hlive : (fullReset s).cdu.live &&& 0x7FFF = 0x0010 := by
    simp only [fullReset]
    cases bootDefaulted (s.pfs.bootView s.draws) <;> decide
  have hsteer : ∀ i : Fin 8, (fullReset s).lpc.steering[i].result.level = .unmeasured ∧
      (fullReset s).lpc.steering[i].result.glare = false := by
    show ∀ i : Fin 8, defaultZones[i].result.level = .unmeasured ∧ defaultZones[i].result.glare = false
    decide
  refine ⟨fullReset s, rfl, ?_⟩
  simp only [hlive, hsteer, and_true, implies_true]
  simp [fullReset, State.reset, LinearBuffer.blank, Accumulator.blank]

/-- Nothing waits for the transmitter: it stays idle. -/
theorem pump_idle {s : State} (hn : s.cdu.noticePending = false) (hr : s.cml.replies = []) : pump s = s := by
  unfold pump
  split
  · rfl
  · simp [hn, hr]

/-- The OK reply of an RSET, once sent, starts the soft reset, and nothing is left to send (R182). -/
theorem exec_frameSent_reset {s : State} {f : LinkFrame} (h : s.cml.tx = some (.reply f true)) :
    exec .frameSent s = .next (softReset s) := by
  simp only [exec, execFrameSent, h, endSending, if_true]
  rw [pump_idle rfl rfl]

/-- What a soft reset leaves of the startup record: the record as far as a write of it has got (R155). -/
theorem softReset_boot (s : State) : (softReset s).pfs.boot = s.pfs.bootView s.draws := rfl

theorem partCell_eq (draw cell : Nat) (before after : Byte) :
    partCell draw cell before after = before ∨ partCell draw cell before after = after := by
  unfold partCell
  split
  · exact .inr rfl
  · exact .inl rfl

theorem bootView_idle {p : Store} {draw : Nat} (h : p.bootWriting = false) : p.bootView draw = p.boot := by
  unfold Store.bootView
  unfold Store.bootWriting at h
  split <;> simp_all

/-- ZONE_OUT, GLARE and UNDERLIT recorded as 0 (R173). -/
theorem softReset_live (s : State) : (softReset s).cdu.live = s.cdu.live &&& 0xFF1F := by
  show s.cdu.live &&& ~~~sourceBit 5 &&& ~~~sourceBit 6 &&& ~~~sourceBit 7 = _
  rw [BitVec.and_assoc, BitVec.and_assoc]
  rfl

/-- Every zone is UNMEASURED with its results cleared, under its definition (R62). -/
theorem clearedZones_getElem (zones : Vector Zone 8) (i : Fin 8) :
    (clearedZones zones)[i] = { zones[i] with result := ZoneResult.cleared, revised := false } := by
  simp [clearedZones]

/-- A write of the startup record cut off leaves each cell as it was or as the phase writes it (R155). -/
theorem softReset_bootWrite {s : State} {data : List Byte} {phase : WritePhase}
    (h : s.pfs.op = some (.bootWrite data phase)) (i : Fin 8) :
    let after := match phase with
      | .erase => (Config.erasedByte, Config.erasedByte)
      | .program => (data.getD i 0, ~~~(data.getD i 0))
    ((softReset s).pfs.boot[i].1 = s.pfs.boot[i].1 ∨ (softReset s).pfs.boot[i].1 = after.1) ∧
      ((softReset s).pfs.boot[i].2 = s.pfs.boot[i].2 ∨ (softReset s).pfs.boot[i].2 = after.2) := by
  simp only [softReset_boot, Store.bootView, h]
  cases phase <;> simp [bootCells, partCell_eq]

theorem softReset_lastResult (s : State) :
    (softReset s).pfs.lastResult = if s.pfs.op = none then s.pfs.lastResult else .aborted := by
  simp only [softReset, Store.softReset]
  cases s.pfs.op <;> simp

/-- The sequencer after a soft reset (R96). -/
theorem softReset_seq (s : State) : (softReset s).csq.state =
    if (∃ k, s.hpb.adopted = some (.head k)) ∧ s.lpc.cutoff = false then .idle else .halt := by
  have hc : haltCause s = true ↔ ¬((∃ k, s.hpb.adopted = some (.head k)) ∧ s.lpc.cutoff = false) := by
    rw [haltCause_iff]
    simp only [HaltCauseHolds]
    grind
  simp only [softReset, Sequencer.softReset]
  split_ifs <;> simp_all

/-- Settles O39: `softReset` block by block. The startup record, the live set, the zones, the last result and the sequencer's
state take the lemmas above; every other field is by definition. -/
theorem softResetValues : Obligations.SoftResetValues := by
  intro s f h
  have hidle : s.pfs.bootWriting = false → (softReset s).pfs.boot = s.pfs.boot := bootView_idle
  have herase := fun data (hop : s.pfs.op = some (.bootWrite data .erase)) => softReset_bootWrite hop
  have hprogram := fun data (hop : s.pfs.op = some (.bootWrite data .program)) => softReset_bootWrite hop
  have hzones : ∀ i : Fin 8, (softReset s).mtu.zones[i] =
      { s.mtu.zones[i] with result := ZoneResult.cleared, revised := false } := clearedZones_getElem s.mtu.zones
  have hsteer : ∀ i : Fin 8, (softReset s).lpc.steering[i].result.level = .unmeasured := fun i =>
    congrArg (fun z => z.result.level) (clearedZones_getElem s.lpc.steering i)
  have hslots : ∀ i : Fin 4, (softReset s).ofq.slots[i].state = .free := by
    show ∀ i : Fin 4, State.reset.ofq.slots[i].state = .free
    decide
  refine ⟨softReset s, exec_frameSent_reset h, ?_⟩
  and_intros
  all_goals first
    | rfl
    | assumption
    | exact softReset_seq s
    | exact softReset_lastResult s
    | exact softReset_live s
    | exact fun i => by simp [hzones i, ZoneResult.cleared]

theorem directoryInv_blank {s : State} (hd : s.pfs.directory = Vector.replicate 8 DirRecord.blank) (ho : s.pfs.op = none) :
    DirectoryInv s := by
  refine ⟨fun i => ?_, fun i j h k _ hi => ?_, by simp [ho]⟩
  · simp [hd, DirRecord.blank]
  · simp [hd, DirRecord.blank] at hi

/-- The banks' settings after a full reset lie in their ranges (R76). -/
theorem BankLamp.default_inRange (z : Fin 8) : (BankLamp.default z).inRange := by
  simp [BankLamp.inRange, BankLamp.default]

theorem fullReset_lampSettings (s : State) : LampSettingsInv (fullReset s) := by
  obtain ⟨h1, h2⟩ := bootValues_ceilingCode (s.pfs.bootView s.draws)
  refine ⟨BankLamp.default_inRange 0, BankLamp.default_inRange 1, ?_⟩
  simp only [fullReset, State.reset]
  omega

theorem fullReset_conditions (s : State) : ConditionsInv (fullReset s) := by
  refine ⟨?_, by simp [fullReset, State.reset], by simp [fullReset, State.reset]⟩
  simp only [fullReset]
  cases bootDefaulted (s.pfs.bootView s.draws) <;> decide

theorem fullReset_exposure (s : State) : ExposureInv (fullReset s) := by
  obtain ⟨h1, -⟩ := bootValues_ceilingCode (s.pfs.bootView s.draws)
  refine ⟨⟨rfl, rfl, rfl⟩, fun _ => rfl, lampsSafe_of_dark ⟨?_, le_refl _⟩ rfl⟩
  simp only [fullReset]
  omega

theorem fullReset_stills (s : State) : StillsInv (fullReset s) := by
  simp [StillsInv, fullReset, State.reset, openTags]

/-- Settles O60: a full reset of any state meets each invariant, and `State.reset` does by its values. -/
theorem resetMeetsInvariants : Obligations.ResetMeetsInvariants := by
  refine ⟨⟨⟨⟨rfl, rfl, rfl⟩, fun _ => rfl, lampsSafe_of_dark ⟨by decide, by decide⟩ rfl⟩,
    ⟨BankLamp.default_inRange 0, BankLamp.default_inRange 1, by decide⟩, by simp [StillsInv, State.reset, openTags],
    ⟨by decide, by simp [State.reset], by decide⟩, directoryInv_blank rfl rfl⟩, fun s t h => ?_⟩
  cases h
  exact ⟨fullReset_exposure s, fullReset_lampSettings s, fullReset_stills s, fullReset_conditions s,
    directoryInv_blank rfl rfl⟩

end Sys2Proof.Machine
end

section
namespace Sys2Proof.Machine

/-! ## The pixel arithmetic (R8, R23 to R27, R38) -/

/-- The field of a pixel word, as a quotient and a remainder of the word (R8). -/
theorem extractPixel_eq (w : Word16) :
    extractPixel .high .twelve w = w.toNat / 16 ∧ extractPixel .low .twelve w = w.toNat % 4096 ∧
    extractPixel .high .ten w = w.toNat / 64 * 4 ∧ extractPixel .low .ten w = w.toNat % 1024 * 4 := by
  have hw := w.isLt
  simp only [extractPixel, BitVec.extractLsb'_toNat, Nat.shiftRight_eq_div_pow]
  omega

theorem extractPixel_le (a : Align) (d : Depth) (w : Word16) : extractPixel a d w ≤ 4095 := by
  obtain ⟨h1, h2, h3, h4⟩ := extractPixel_eq w
  have hw := w.isLt
  cases a <;> cases d <;> omega

/-- A magnitude clamped to `lo..hi`, by the three places its value can be in. -/
theorem clampNat_cases (lo hi : Nat) (v : Int) :
    (v < lo → clampNat lo hi v = lo) ∧ (lo ≤ v → v ≤ hi → (clampNat lo hi v : Int) = v) ∧
      ((lo : Int) ≤ v → hi < v → clampNat lo hi v = hi) := by
  unfold clampNat clampInt
  split_ifs <;> omega

theorem clampNat_le {lo hi : Nat} (h : lo ≤ hi) (v : Int) : clampNat lo hi v ≤ hi := by
  unfold clampNat clampInt
  split_ifs <;> omega

theorem subtractBlackClamped_eq {p b : Nat} (h : p ≤ 4095) : subtractBlackClamped p b = p - b := by
  unfold subtractBlackClamped subtractBlack clampNat clampInt
  split_ifs <;> omega

/-- Interpolation between the nodes of a tile, with the position split into its tile and its place in it (R24). -/
theorem nodeValue_eq (table : List Nat) {fx fy : Nat} (i j : Nat) (hx : fx < 64) (hy : fy < 64) :
    nodeValue table (64 * i + fx) (64 * j + fy) =
      ((64 - fx) * (64 - fy) * table.getD (21 * j + i) 0 + fx * (64 - fy) * table.getD (21 * j + (i + 1)) 0 +
        (64 - fx) * fy * table.getD (21 * (j + 1) + i) 0 + fx * fy * table.getD (21 * (j + 1) + (i + 1)) 0 + 2048) / 4096 := by
  have h1 : (64 * i + fx) / 64 = i := by omega
  have h2 : (64 * i + fx) % 64 = fx := by omega
  have h3 : (64 * j + fy) / 64 = j := by omega
  have h4 : (64 * j + fy) % 64 = fy := by omega
  simp only [nodeValue, h1, h2, h3, h4]

/-- A sum of four values of at most `m` under weights that add up to 4096 rounds to at most `m`. -/
theorem weighted_le {w₁ w₂ w₃ w₄ v₁ v₂ v₃ v₄ m : Nat} (hw : w₁ + w₂ + w₃ + w₄ = 4096) (h₁ : v₁ ≤ m) (h₂ : v₂ ≤ m)
    (h₃ : v₃ ≤ m) (h₄ : v₄ ≤ m) : (w₁ * v₁ + w₂ * v₂ + w₃ * v₃ + w₄ * v₄ + 2048) / 4096 ≤ m := by
  have hm : w₁ * m + w₂ * m + w₃ * m + w₄ * m = 4096 * m := by rw [← hw]; ring
  have := Nat.mul_le_mul_left w₁ h₁
  have := Nat.mul_le_mul_left w₂ h₂
  have := Nat.mul_le_mul_left w₃ h₃
  have := Nat.mul_le_mul_left w₄ h₄
  omega

/-- The weights of a place in a tile add up to 4096 (R24). -/
theorem tileWeights_sum {fx fy : Nat} (hx : fx < 64) (hy : fy < 64) :
    (64 - fx) * (64 - fy) + fx * (64 - fy) + (64 - fx) * fy + fx * fy = 4096 := by
  obtain ⟨a, ha⟩ : ∃ a, fx + a = 64 := ⟨64 - fx, by omega⟩
  obtain ⟨b, hb⟩ : ∃ b, fy + b = 64 := ⟨64 - fy, by omega⟩
  have h1 : 64 - fx = a := by omega
  have h2 : 64 - fy = b := by omega
  rw [h1, h2]
  calc a * b + fx * b + a * fy + fx * fy = (fx + a) * (fy + b) := by ring
    _ = 4096 := by rw [ha, hb]

theorem nodeValue_le {table : List Nat} {m : Nat} (h : ∀ v ∈ table, v ≤ m) (x y : Nat) : nodeValue table x y ≤ m := by
  have hnode : ∀ k, table.getD k 0 ≤ m := by
    intro k
    rw [List.getD_eq_getElem?_getD]
    cases hk : table[k]? with
    | none => exact Nat.zero_le m
    | some v => exact h v (List.mem_of_getElem? hk)
  have hx := Nat.mod_lt x (by decide : 0 < 64)
  have hy := Nat.mod_lt y (by decide : 0 < 64)
  exact weighted_le (tileWeights_sum hx hy) (hnode _) (hnode _) (hnode _) (hnode _)

theorem correctedValue_le (s g : Nat) : correctedValue s g ≤ 16383 := Nat.min_le_right _ _

/-- A blend of two values of at most 16383 is at most 16383 (R27). -/
theorem fuseBlend_le {w cF cB : Nat} (hw : w ≤ 256) (hF : cF ≤ 16383) (hB : cB ≤ 16383) :
    fuseBlend w cF cB ≤ 16383 := by
  have := Nat.mul_le_mul_left w hF
  have := Nat.mul_le_mul_left (256 - w) hB
  unfold fuseBlend
  omega

/-- The stacked value of a power of two of exposures, with its quotient as a shift (R38). -/
theorem stackedValue_pow (sum : Int) (k : Nat) :
    stackedValue sum (2 ^ k) = clampNat 0 4095 ((sum + (2 ^ k / 2 : Nat)) >>> k) := by
  simp [stackedValue, Int.shiftRight_eq_div_pow]

/-- The value of one bank at finalise, by its photometric mode (R38). -/
theorem finaliseBank_eq (c : Content) (m : PhotoMode) (b : Bank) (n : Nat) (a : Accumulator) (x y : Nat) :
    finaliseBank c m b n a x y =
      if m = .bypass then stackedValue ((a.sum.getD y []).getD x 0) n
      else correctedValue (stackedValue ((a.sum.getD y []).getD x 0) n) (nodeValue (gainTable c b) x y) := by
  cases m <;> simp [finaliseBank, planeAt]

/-- Settles O54: the lemmas above, clause by clause. -/
theorem pixelArithmetic : Obligations.PixelArithmetic := by
  refine ⟨fun w => ?_, fun p b h => subtractBlackClamped_eq h, fun table m x y h => nodeValue_le h x y, fun table i j => ?_,
    fun s g => ⟨correctedValue_le s g, fun h => ?_⟩, fun s h => ?_, fun w cF cB hw hF hB => fuseBlend_le hw hF hB,
    fun cF cB => ?_, fun sum n => clampNat_le (by decide) _, fun sum h0 h1 => ?_, fun sum h => ?_,
    fun table i j fx fy hx hy => ?_, fun w cF cB _ => ?_, fun sum k _ => ?_, fun c j accF accB bt x y => ?_⟩
  · obtain ⟨h1, h2, h3, h4⟩ := extractPixel_eq w
    exact ⟨h1, h2, h3, h4, fun a d => extractPixel_le a d w⟩
  · have h := nodeValue_eq table i j (fx := 0) (fy := 0) (by decide) (by decide)
    simp only [Nat.add_zero] at h
    rw [h]
    omega
  · unfold correctedValue
    omega
  · unfold correctedValue
    omega
  · unfold fuseBlend
    omega
  · obtain ⟨-, h, -⟩ := clampNat_cases 0 4095 sum
    simpa [stackedValue] using h h0 h1
  · have h := clampNat_cases 0 4095 sum
    simp only [stackedValue, Nat.reduceDiv, Nat.cast_zero, add_zero, Nat.cast_one, Int.ediv_one]
    omega
  · simp only [nodeValue_eq table i j hx hy, Nat.shiftRight_eq_div_pow]
  · simp only [fuseBlend, Nat.shiftRight_eq_div_pow]
  · intro q
    rw [stackedValue_pow]
    obtain ⟨hlow, hmid, hhigh⟩ := clampNat_cases 0 4095 q
    exact ⟨hlow, hmid, fun h => hhigh (by show (0 : Int) ≤ q; omega) h⟩
  · intro rF rB cF cB
    refine ⟨fun hr => ?_, fun hb hr => ?_, fun hb hr => ?_⟩
    · simp only [finalisePixel, hr, finaliseBank_eq, gainTable]
      rfl
    · simp only [finalisePixel, hr, finaliseBank_eq, gainTable, hb]
      rfl
    · simp only [finalisePixel, hr, finaliseBank_eq, gainTable, weightTable, hb]
      rfl

end Sys2Proof.Machine
end

section
namespace Sys2Proof.Machine

/-! ## Rows of the corrector: buffers and accumulators -/

@[simp] theorem Photometric.lin_setLin (p : Photometric) (id : LinId) (b : LinearBuffer) : (p.setLin id b).lin id = b := by
  cases id <;> rfl

@[simp] theorem Photometric.acc_setAcc (p : Photometric) (b : Bank) (a : Accumulator) : (p.setAcc b a).acc b = a := by
  cases b <;> rfl

@[simp] theorem Photometric.acc_setLin (p : Photometric) (id : LinId) (x : LinearBuffer) (b : Bank) :
    (p.setLin id x).acc b = p.acc b := by
  cases id <;> cases b <;> rfl

@[simp] theorem Photometric.lin_setAcc (p : Photometric) (b : Bank) (a : Accumulator) (id : LinId) :
    (p.setAcc b a).lin id = p.lin id := by
  cases id <;> cases b <;> rfl

@[simp] theorem Photometric.setAcc_self (p : Photometric) (b : Bank) : p.setAcc b (p.acc b) = p := by cases b <;> rfl

/-- A row that comes next is appended (R11, R30). -/
theorem putRow_next {α : Type} (rows : List (List α)) (row : List α) : putRow rows rows.length row = rows ++ [row] := by
  simp [putRow]

/-- A row already held is replaced (R30). -/
theorem putRow_held {α : Type} {rows : List (List α)} {y : Nat} {old : List α} (h : rows[y]? = some old) (row : List α) :
    putRow rows y row = rows.set y row := by
  obtain ⟨hy, -⟩ := List.getElem?_eq_some_iff.1 h
  simp [putRow, hy]

/-- A run of a row's columns, column by column. -/
theorem take_drop_eq_map_getD (row : List Nat) {a n : Nat} (h : a + n ≤ row.length) :
    (row.drop a).take n = (List.range n).map fun k => row.getD (a + k) 0 := by
  apply List.ext_getElem
  · simp; omega
  · intro k h1 h2
    have hk : k < n := by simpa using h2
    simp [List.getElem?_eq_getElem (show a + k < row.length by omega)]

@[simp] theorem correctRow_length (c : Content) (bank : Bank) (black y : Nat) (row : List Nat) :
    (correctRow c bank black y row).length = row.length := by simp [correctRow]

theorem correctRow_getElem? (c : Content) (bank : Bank) (black y : Nat) {row : List Nat} {x p : Nat}
    (h : row[x]? = some p) : (correctRow c bank black y row)[x]? =
      some (correctedValue (subtractBlackClamped p black) (nodeValue (gainTable c bank) x y)) := by
  simp [correctRow, h]

@[simp] theorem blendRow_length (c : Content) (y : Nat) (rowF rowB : List Nat) :
    (blendRow c y rowF rowB).length = min rowF.length rowB.length := by simp [blendRow]

theorem blendRow_getElem? (c : Content) (y : Nat) {rowF rowB : List Nat} {x f g : Nat} (hf : rowF[x]? = some f)
    (hg : rowB[x]? = some g) :
    (blendRow c y rowF rowB)[x]? = some (fuseBlend (nodeValue (weightTable c) x y) f g) := by
  have hz : (rowF.zip rowB)[x]? = some (f, g) := List.getElem?_zip_eq_some.2 ⟨hf, hg⟩
  simp [blendRow, hz]

/-! ## A handed row (R11, R21, R30, R34, R67) -/

theorem handRow_eq {s : State} {r : ExposureRecord} (h : s.csq.exposure = some r) (y : Nat) (row : List Nat) :
    handRow y row s = meteringLine r y row (photometricLine r y row s) := by simp [handRow, h]

theorem handRow_none {s : State} (h : s.csq.exposure = none) (y : Nat) (row : List Nat) : handRow y row s = s := by
  simp [handRow, h]

theorem handRow_phc {s : State} {r : ExposureRecord} (h : s.csq.exposure = some r) (y : Nat) (row : List Nat) :
    (handRow y row s).phc = (photometricLine r y row s).phc := by simp [handRow_eq h]

/-- A handed row changes the corrector and the Metering Unit alone. -/
theorem handRow_blocks (y : Nat) (row : List Nat) (s : State) :
    handRow y row s = (s.setPhc (handRow y row s).phc).setMtu (handRow y row s).mtu := by
  cases h : s.csq.exposure with
  | none => rw [handRow_none h]; rfl
  | some r => rw [handRow_eq h]; apply State.ext_blocks <;> simp

/-- The dark window's rows add their columns to the dark sum (R21). -/
theorem photometricLine_dark {r : ExposureRecord} (hk : r.kind = .dark) (y : Nat) {row : List Nat} (hl : row.length = 1280)
    (s : State) :
    (384 ≤ y → y ≤ 639 → (photometricLine r y row s).phc = { s.phc with
      darkSum := s.phc.darkSum.map fun d => d + ((List.range 1024).map fun k => row.getD (128 + k) 0).sum }) ∧
    (y < 384 ∨ 639 < y → (photometricLine r y row s).phc = s.phc) := by
  have hsum : darkRowSum row = ((List.range 1024).map fun k => row.getD (128 + k) 0).sum := by
    rw [darkRowSum, take_drop_eq_map_getD row (by omega)]
  simp only [photometricLine, hk]
  refine ⟨fun h1 h2 => ?_, fun h => ?_⟩
  · rw [if_pos ⟨h1, h2⟩, State.setPhc_phc, hsum]
  · rw [if_neg (by omega)]

/-- A stream exposure's row reaches its buffer (R30). -/
theorem photometricLine_stream {r : ExposureRecord} {b : Bank} {role : Role} {id : LinId} (hk : r.kind = .lit b)
    (hp : r.purpose = .stream) (ha : r.assigned = some (role, id)) (y : Nat) (row : List Nat) (s : State) :
    (photometricLine r y row s).phc =
      s.phc.setLin id ((s.phc.lin id).takeRow s.pfs.ws.content role b r.black y row) := by
  simp [photometricLine, hk, hp, ha]

/-- A still exposure's row reaches its bank's accumulator (R34). -/
theorem photometricLine_still {r : ExposureRecord} {b : Bank} {tag : Nat} (hk : r.kind = .lit b)
    (hp : r.purpose = .still tag) (y : Nat) (row : List Nat) (s : State) :
    (photometricLine r y row s).phc = s.phc.setAcc b ((s.phc.acc b).takeRow r.black y row) := by
  simp [photometricLine, hk, hp]

/-- A row of role SINGLE or FIRST is appended to its buffer, corrected (R30). -/
theorem takeRow_append {b : LinearBuffer} (c : Content) {role : Role} (bank : Bank) (black : Nat) (row : List Nat)
    (hm : b.releaseMarked = false) (hr : role ≠ .second) :
    (b.takeRow c role bank black b.rows.length row).rows =
      b.rows ++ [correctRow c bank black b.rows.length row] := by
  cases role <;> simp_all [LinearBuffer.takeRow, putRow_next]

/-- A row of role SECOND replaces the cF row held by the blend (R30). -/
theorem takeRow_second {b : LinearBuffer} (c : Content) (bank : Bank) (black : Nat) (row : List Nat) {y : Nat}
    {rowF : List Nat} (hm : b.releaseMarked = false) (hf : b.rows[y]? = some rowF) :
    (b.takeRow c .second bank black y row).rows =
      b.rows.set y (blendRow c y rowF (correctRow c bank black y row)) := by
  simp [LinearBuffer.takeRow, hm, hf, putRow_held hf]

@[simp] theorem takeRow_content (b : LinearBuffer) (c : Content) (role : Role) (bank : Bank) (black y : Nat)
    (row : List Nat) : (b.takeRow c role bank black y row).content = b.content := by
  unfold LinearBuffer.takeRow
  cases role <;> split <;> rfl

/-- The black-subtracted value of any pixel, clamped to 0..4095 (R23). -/
theorem subtractBlackClamped_min (p b : Nat) : subtractBlackClamped p b = min (p - b) 4095 := by
  unfold subtractBlackClamped subtractBlack clampNat clampInt
  split_ifs <;> omega

/-- A measured zone takes its columns of a row of its own rows, and nothing of another (R67). -/
theorem measuredZone_takeRow (z : MeasuredZone) (black clip y : Nat) {row : List Nat} (hl : row.length = 1280)
    (h0 : z.defn.col0 ≤ z.defn.col1) (h1 : z.defn.col1 ≤ 19) :
    (z.takeRow black clip y row).index = z.index ∧ (z.takeRow black clip y row).defn = z.defn ∧
    (64 * z.defn.row0 ≤ y → y ≤ 64 * z.defn.row1 + 63 →
      let cols := (List.range (64 * (z.defn.col1 - z.defn.col0 + 1))).map fun i => row.getD (64 * z.defn.col0 + i) 0
      (z.takeRow black clip y row).sum = z.sum + (cols.map fun p => min (p - black) 4095).sum ∧
        (z.takeRow black clip y row).clipped = z.clipped + cols.countP fun p => clip ≤ p) ∧
    (y < 64 * z.defn.row0 ∨ 64 * z.defn.row1 + 63 < y → z.takeRow black clip y row = z) := by
  have hcols : zoneColumns z.defn row =
      (List.range (64 * (z.defn.col1 - z.defn.col0 + 1))).map fun i => row.getD (64 * z.defn.col0 + i) 0 :=
    take_drop_eq_map_getD row (by omega)
  unfold MeasuredZone.takeRow
  refine ⟨by split <;> rfl, by split <;> rfl, fun hy0 hy1 => ?_, fun hy => ?_⟩
  · rw [if_pos ⟨hy0, hy1⟩]
    simp only [hcols, subtractBlackClamped_min]
    exact ⟨trivial, trivial⟩
  · rw [if_neg (by omega)]

/-- The Metering Unit's measurement of a handed row: each of its zones takes it (R67). -/
theorem handRow_mtu {s : State} {r : ExposureRecord} (h : s.csq.exposure = some r) (y : Nat) (row : List Nat) :
    (s.mtu.measurement = none → (handRow y row s).mtu = s.mtu) ∧
    ∀ m, s.mtu.measurement = some m → (handRow y row s).mtu = { s.mtu with
      measurement := some { m with zones := m.zones.map fun z => z.takeRow r.black m.clipLevel y row } } := by
  rw [handRow_eq h]
  exact ⟨fun hm => by simp [meteringLine, hm], fun m hm => by simp [meteringLine, hm]⟩

/-! ## Line closes (R10) -/

/-- A line received: the leading rows waiting, and then the line itself, are handed (R10, R11). -/
theorem receiveLine_eq (y : Nat) (row : List Nat) (s : State) : receiveLine y row s =
    handRow y row (handRows 0 (List.replicate s.pxr.leading row)
      (s.setPxr { s.pxr with received := s.pxr.received + 1, lastLine := some row, leading := 0 })) := rfl

theorem closeLine_full {s : State} (h : s.pxr.openLine.length = 1280) : closeLine s =
    receiveLine (s.pxr.lineNumber - 1) s.pxr.openLine (s.setPxr { s.pxr with state := .inFrame .between }) := by
  simp [closeLine, h]

/-- A short line is filled out with its last pixel (R10). -/
theorem padLine_eq {w : List Nat} {p : Nat} (h : w.getLast? = some p) :
    padLine w = w ++ List.replicate (1280 - w.length) p := by
  simp [padLine, List.getLastD_eq_getLast?, h]

theorem closeLine_short {s : State} {p : Nat} (hp : s.pxr.openLine.getLast? = some p)
    (h : s.pxr.openLine.length < 1280) : closeLine s =
    receiveLine (s.pxr.lineNumber - 1) (s.pxr.openLine ++ List.replicate (1280 - s.pxr.openLine.length) p)
      (markRecord false false true
        (s.setPxr { s.pxr with state := .inFrame .between, patched := s.pxr.patched + 1 })) := by
  have hne : 0 < s.pxr.openLine.length := by
    cases hl : s.pxr.openLine with
    | nil => simp [hl] at hp
    | cons => simp
  simp only [closeLine]
  rw [if_neg (Nat.ne_of_lt h), if_pos hne, padLine_eq hp]
  rfl

theorem closeLine_missing {s : State} {row : List Nat} (h : s.pxr.openLine = []) (hr : s.pxr.lastLine = some row) :
    closeLine s = handRow (s.pxr.lineNumber - 1) row
      (s.setPxr { s.pxr with state := .inFrame .between, patched := s.pxr.patched + 1 }) := by
  simp [closeLine, h, hr]

theorem closeLine_leading {s : State} (h : s.pxr.openLine = []) (hr : s.pxr.lastLine = none) :
    closeLine s = s.setPxr { s.pxr with
      state := .inFrame .between, patched := s.pxr.patched + 1, leading := s.pxr.leading + 1 } := by
  simp [closeLine, h, hr]

theorem exec_lineClose_open {s : State} (h : s.pxr.state = .inFrame .inLine) :
    exec .lineClose s = .next (closeLine s) := congrArg Host.Outcome.next (closeOpenLine_open h)

/-- What a handed row does to a stream exposure's buffer (R30). -/
theorem handRow_stream {s : State} {r : ExposureRecord} {b : Bank} {role : Role} {id : LinId} {y : Nat} {row : List Nat}
    (h : s.csq.exposure = some r) (hl : row.length = 1280) (hk : r.kind = .lit b) (hp : r.purpose = .stream)
    (ha : r.assigned = some (role, id)) (hm : (s.phc.lin id).releaseMarked = false) :
    ((handRow y row s).phc.lin id).content = (s.phc.lin id).content ∧
    (role ≠ .second → y = (s.phc.lin id).rows.length →
      ∃ new, ((handRow y row s).phc.lin id).rows = (s.phc.lin id).rows ++ [new] ∧
      new.length = 1280 ∧ ∀ x p, row[x]? = some p →
        new[x]? = some (correctedValue (subtractBlackClamped p r.black)
          (nodeValue (gainTable s.pfs.ws.content b) x y))) ∧
    (∀ rowF, role = .second → (s.phc.lin id).rows[y]? = some rowF → rowF.length = 1280 →
      ∃ new, ((handRow y row s).phc.lin id).rows = (s.phc.lin id).rows.set y new ∧ new.length = 1280 ∧
        ∀ x p f, row[x]? = some p → rowF[x]? = some f →
          new[x]? = some (fuseBlend (nodeValue (weightTable s.pfs.ws.content) x y) f
            (correctedValue (subtractBlackClamped p r.black)
              (nodeValue (gainTable s.pfs.ws.content b) x y)))) := by
  simp only [handRow_phc h, photometricLine_stream hk hp ha, Photometric.lin_setLin]
  refine ⟨takeRow_content _ _ _ _ _ _ _, fun hr hy => ?_, fun rowF hr hf hfl => ?_⟩
  · subst hy
    exact ⟨_, takeRow_append _ _ _ _ hm hr, by simp [hl], fun x p hx => correctRow_getElem? _ _ _ _ hx⟩
  · subst hr
    exact ⟨_, takeRow_second _ _ _ _ hm hf, by simp [hl, hfl],
      fun x p f hx hxf => blendRow_getElem? _ _ hxf (correctRow_getElem? _ _ _ _ hx)⟩

/-- What a handed row does to a still exposure's accumulator (R34). -/
theorem handRow_still {s : State} {r : ExposureRecord} {b : Bank} {tag y : Nat} {row : List Nat}
    (h : s.csq.exposure = some r) (hk : r.kind = .lit b) (hp : r.purpose = .still tag) :
    ((s.phc.acc b).state = .receiving → y = (s.phc.acc b).pendingPlane.length →
      (handRow y row s).phc = s.phc.setAcc b { s.phc.acc b with
        pendingPlane := (s.phc.acc b).pendingPlane ++ [row.map fun (p : Nat) => (p : Int) - (r.black : Int)] }) ∧
    ((s.phc.acc b).state = .discarding → (handRow y row s).phc = s.phc) := by
  simp only [handRow_phc h, photometricLine_still hk hp]
  refine ⟨fun hs hy => ?_, fun hs => ?_⟩
  · subst hy
    simp [Accumulator.takeRow, hs, putRow_next, subtractBlack]
  · simp [Accumulator.takeRow, hs]

/-- Settles O6: a line closed by its word count (`closeLine_full` to `closeLine_leading`), and a handed row by the kind and purpose of
its exposure. -/
theorem lineCloses : Obligations.LineCloses := by
  refine ⟨fun s => ⟨fun h => congrArg Host.Outcome.next (closeOpenLine_closed h), fun h => ?_⟩,
    fun y s => ⟨rfl, fun _ _ => rfl⟩, fun y row s h => handRow_none h y row, fun s t r y row h hl ht => ?_⟩
  · rw [exec_lineClose_open h]
    refine ⟨fun hn => ?_, fun p hp hn => ?_, fun hn row hr => ?_, fun hn hr => ?_⟩
    · rw [closeLine_full hn, receiveLine_eq]; rfl
    · rw [closeLine_short hp hn, receiveLine_eq, markRecord_short]; rfl
    · rw [closeLine_missing hn hr]
    · rw [closeLine_leading hn hr]
  · subst ht
    obtain ⟨hnone, hsome⟩ := handRow_mtu h y row
    refine ⟨handRow_blocks y row s, fun hk => ?_, fun b role id hk hp ha hm => handRow_stream h hl hk hp ha hm,
      fun b tag hk hp => handRow_still h hk hp, hnone, fun m hm => ?_⟩
    · rw [handRow_phc h]
      exact photometricLine_dark hk y hl s
    · rw [hsome m hm]
      refine ⟨rfl, rfl, _, rfl, rfl, rfl, rfl, by simp, fun k z hz h0 h1 =>
        ⟨z.takeRow r.black m.clipLevel y row, by simp [hz], ?_⟩⟩
      exact measuredZone_takeRow z r.black m.clipLevel y hl h0 h1

end Sys2Proof.Machine
end

section
namespace Sys2Proof.Machine

/-! ## The ends of readouts (R12, R14, R31, R35, R101, R110) -/

/-- What rows handed to the corrector leave as it was: every accumulator but its pending plane, every buffer's content state and
release mark, and the dark results (R21, R30, R34). -/
structure RowsTaken (p q : Photometric) : Prop where
  acc : ∀ b, (q.acc b).state = (p.acc b).state ∧ (q.acc b).folded = (p.acc b).folded ∧ (q.acc b).sum = (p.acc b).sum
  lin : ∀ id, (q.lin id).releaseMarked = (p.lin id).releaseMarked
  lastDark : q.lastDark = p.lastDark
  black : q.black = p.black

theorem RowsTaken.refl (p : Photometric) : RowsTaken p p := ⟨fun _ => ⟨rfl, rfl, rfl⟩, fun _ => rfl, rfl, rfl⟩

theorem RowsTaken.trans {p q r : Photometric} (h : RowsTaken p q) (k : RowsTaken q r) : RowsTaken p r :=
  ⟨fun b =>
      let ⟨hstate, hfolded, hsum⟩ := h.acc b
      let ⟨kstate, kfolded, ksum⟩ := k.acc b
      ⟨kstate.trans hstate, kfolded.trans hfolded, ksum.trans hsum⟩,
    fun id => (k.lin id).trans (h.lin id), k.lastDark.trans h.lastDark, k.black.trans h.black⟩

theorem takeRow_releaseMarked (b : LinearBuffer) (c : Content) (role : Role) (bank : Bank) (black y : Nat)
    (row : List Nat) : (b.takeRow c role bank black y row).releaseMarked = b.releaseMarked := by
  unfold LinearBuffer.takeRow
  cases role <;> split <;> rfl

/-- A bank's accumulator replaced, seen at any bank. -/
theorem Photometric.acc_setAcc_eq (p : Photometric) (b c : Bank) (a : Accumulator) :
    (p.setAcc b a).acc c = if c = b then a else p.acc c := by
  cases b <;> cases c <;> rfl

theorem accumulator_takeRow_frame (a : Accumulator) (black y : Nat) (row : List Nat) :
    (a.takeRow black y row).state = a.state ∧ (a.takeRow black y row).folded = a.folded ∧
      (a.takeRow black y row).sum = a.sum := by
  unfold Accumulator.takeRow; split <;> exact ⟨rfl, rfl, rfl⟩

theorem photometricLine_rowsTaken (r : ExposureRecord) (y : Nat) (row : List Nat) (s : State) :
    RowsTaken s.phc (photometricLine r y row s).phc := by
  unfold photometricLine
  split
  · split
    · exact ⟨fun b => by cases b <;> exact ⟨rfl, rfl, rfl⟩, fun id => by cases id <;> rfl, rfl, rfl⟩
    · exact .refl _
  · rename_i bank _ _ _
    refine ⟨fun b => ?_, fun id => by simp, by cases bank <;> rfl, by cases bank <;> rfl⟩
    rw [State.setPhc_phc, Photometric.acc_setAcc_eq]
    split
    · rename_i hb; subst hb; exact accumulator_takeRow_frame _ _ _ _
    · exact ⟨rfl, rfl, rfl⟩
  · rename_i id _ _ _
    refine ⟨fun b => by simp, fun j => ?_, by cases id <;> rfl, by cases id <;> rfl⟩
    cases j <;> cases id <;> simp [Photometric.setLin, Photometric.lin, takeRow_releaseMarked]
  · exact .refl _

theorem handRow_rowsTaken (y : Nat) (row : List Nat) (s : State) : RowsTaken s.phc (handRow y row s).phc := by
  cases h : s.csq.exposure with
  | none => rw [handRow_none h]; exact .refl _
  | some r => rw [handRow_phc h]; exact photometricLine_rowsTaken r y row s

theorem handRows_rowsTaken (y : Nat) (rows : List (List Nat)) (s : State) : RowsTaken s.phc (handRows y rows s).phc := by
  induction rows generalizing y s with
  | nil => exact .refl _
  | cons row rows ih => exact (handRow_rowsTaken y row s).trans (ih _ _)

@[simp] theorem handRow_more (y : Nat) (row : List Nat) (s : State) :
    (handRow y row s).ofq = s.ofq ∧ (handRow y row s).hpb = s.hpb ∧ (handRow y row s).pfs = s.pfs := by
  unfold handRow; split <;> simp

@[simp] theorem handRows_more (y : Nat) (rows : List (List Nat)) (s : State) :
    (handRows y rows s).ofq = s.ofq ∧ (handRows y rows s).hpb = s.hpb ∧ (handRows y rows s).pfs = s.pfs := by
  induction rows generalizing y s with
  | nil => simp [handRows]
  | cons row rows ih => simp [handRows, ih]

/-- The part `u` in which the readout of `s` is judged: the missing rows are counted and handed, and the rest is as it was (R11,
R12). -/
structure ReadoutJudged (s u : State) : Prop where
  csq : u.csq = s.csq
  cdu : u.cdu = s.cdu
  ofq : u.ofq = s.ofq
  patched : u.pxr.patched = s.pxr.patched + (1024 - s.pxr.lineNumber)
  rows : RowsTaken s.phc u.phc

/-- The three outcomes of a readout (R12). -/
theorem endReadout_judged (s : State) : ∃ u, ReadoutJudged s u ∧
    (s.pxr.received = 0 → endReadout s = abandonExposure .empty .idle u) ∧
    (0 < s.pxr.received → s.pxr.patchLimit < s.pxr.patched + (1024 - s.pxr.lineNumber) →
      endReadout s = abandonExposure .patchLimit .idle u) ∧
    (0 < s.pxr.received → s.pxr.patched + (1024 - s.pxr.lineNumber) ≤ s.pxr.patchLimit →
      endReadout s = completeExposure u) := by
  let s₁ := s.setPxr { s.pxr with patched := s.pxr.patched + (1024 - s.pxr.lineNumber) }
  by_cases hr : s.pxr.received = 0
  · refine ⟨s₁.setPxr { s₁.pxr with leading := 0 }, ⟨rfl, rfl, rfl, rfl, .refl _⟩, fun _ => ?_, fun h => by omega,
      fun h => by omega⟩
    exact if_pos hr
  · refine ⟨handRows s.pxr.lineNumber (List.replicate (1024 - s.pxr.lineNumber) (s.pxr.lastLine.getD [])) s₁,
      ⟨by simp [s₁], by simp [s₁], by simp [s₁], by simp [s₁], handRows_rowsTaken _ _ s₁⟩, fun h => absurd h hr,
      fun _ hl => ?_, fun _ hl => ?_⟩
    · refine (if_neg hr).trans (if_pos ?_)
      simpa [s₁] using hl
    · refine (if_neg hr).trans (if_neg ?_)
      simpa [s₁] using hl

theorem exec_frameClose_between {s : State} (h : s.pxr.state = .inFrame .between) :
    exec .frameClose s = .next (pump (endReadout s)) := by
  simp [exec, execFrameClose, h, closeOpenLine]

/-! ### The corrector at an end mark -/

theorem photometricEnd_dark {r : ExposureRecord} (hk : r.kind = .dark) (c : Bool) (s : State) :
    (photometricEnd r c s).phc = s.phc.darkEnd r.number c := by simp [photometricEnd, hk]

theorem photometricEnd_still {r : ExposureRecord} {b : Bank} {tag : Nat} (hk : r.kind = .lit b)
    (hp : r.purpose = .still tag) (c : Bool) (s : State) :
    (photometricEnd r c s).phc = s.phc.setAcc b ((s.phc.acc b).endMark c) := by simp [photometricEnd, hk, hp]

theorem photometricEnd_stream {r : ExposureRecord} {b : Bank} {role : Role} {id : LinId} (hk : r.kind = .lit b)
    (hp : r.purpose = .stream) (ha : r.assigned = some (role, id)) (c : Bool) (s : State) :
    (photometricEnd r c s).phc = s.phc.setLin id ((s.phc.lin id).endMark role c) := by
  simp [photometricEnd, hk, hp, ha]

/-! ### Abandonments -/

/-- An abandonment as the sequencer's part in it, in a part `u` whose corrector has taken the end mark of the record as it ends. -/
theorem abandonExposure_parts {s : State} {r : ExposureRecord} (why : AbandonReason) (next : ReceiverState)
    (h : s.csq.exposure = some r) :
    ∃ r' u v, (r'.kind = r.kind ∧ r'.purpose = r.purpose ∧ r'.assigned = r.assigned) ∧
      abandonExposure why next s = raise .sensorFault (sequencerAbandoned r' why u) ∧
      u.csq = { s.csq with exposure := none, lastEnded := some r' } ∧ u.phc = (photometricEnd r' false v).phc ∧
      v.phc = s.phc ∧ u.ofq = s.ofq ∧ u.cdu = s.cdu := by
  let r' := { r with state := .abandoned, patchedLines := s.pxr.patched, reason := some why }
  let v := (s.setPxr (s.pxr.finish next)).setCsq { s.csq with exposure := none, lastEnded := some r' }
  refine ⟨r', meteringAbandoned (photometricEnd r' false v), v, ⟨rfl, rfl, rfl⟩, ?_, by simp [v], by simp, rfl,
    by simp [v], by simp [v]⟩
  simp only [abandonExposure, h]
  rfl

/-- A dropped active still releases its accumulators, its slot and its tag (R36, R110, R112). -/
theorem dropActive_spec (a : StillTrack) (s : State) :
    (dropActive a s).csq = { s.csq with active := none } ∧ (dropActive a s).ofq = s.ofq.free a.slot ∧
      ∀ b, (dropActive a s).phc.acc b = (s.phc.acc b).release := by
  refine ⟨by simp [dropActive], by simp [dropActive, freeSlot], fun b => ?_⟩
  cases b <;> simp [dropActive, releaseAccumulators, Photometric.acc]

theorem Output.free_state (o : Output) (i : Fin 4) : (o.free i).slots[i].state = .free := by
  simp [Output.free, Slot.blank]

/-- An accumulator released from OPEN or FOLDING is FREE with nothing folded (R36). -/
theorem Accumulator.release_blank {a : Accumulator} (h : a.state = .opened ∨ a.state = .folding) :
    a.release = Accumulator.blank := by
  rcases h with h | h <;> simp [Accumulator.release, h]

theorem Accumulator.endMark_discarding {a : Accumulator} (h : a.state = .discarding) (c : Bool) :
    a.endMark c = Accumulator.blank := by simp [Accumulator.endMark, h]

theorem Accumulator.endMark_abandoned {a : Accumulator} (h : a.state = .receiving) :
    a.endMark false = { a with state := .opened, pendingPlane := [] } := by simp [Accumulator.endMark, h]

theorem Accumulator.endMark_other {a : Accumulator} (h : a.state = .opened ∨ a.state = .folding) (c : Bool) :
    a.endMark c = a := by
  rcases h with h | h <;> simp [Accumulator.endMark, h]

/-- The sequencer at an abandonment that counts against the active still (R110). -/
theorem stillAbandoned_counts {s : State} {a : StillTrack} {why : AbandonReason} {tag : Nat} (ha : s.csq.active = some a)
    (ht : a.req.tag = tag) (hw : why = .timeout ∨ why = .patchLimit ∨ why = .empty) :
    (a.abandonments < 2 → stillAbandoned why tag s =
      s.setCsq { s.csq with active := some { a with abandonments := a.abandonments + 1 } }) ∧
    (2 ≤ a.abandonments → stillAbandoned why tag s =
      leaveStill (failActive { a with abandonments := a.abandonments + 1 } s)) := by
  simp only [stillAbandoned, ha]
  rw [if_pos ⟨ht, hw⟩]
  exact ⟨fun h => if_pos (by omega), fun h => if_neg (by omega)⟩

/-- A still's exposure abandoned with TIMEOUT, PATCH_LIMIT or EMPTY counts against it, and the third fails it (R35, R110). -/
theorem abandonExposure_still {s : State} {r : ExposureRecord} {b : Bank} {tag : Nat} {why : AbandonReason}
    {next : ReceiverState} {a : StillTrack} (h : s.csq.exposure = some r) (hk : r.kind = .lit b)
    (hp : r.purpose = .still tag) (hw : why = .timeout ∨ why = .patchLimit ∨ why = .empty)
    (ha : s.csq.active = some a) (ht : a.req.tag = tag) :
    StillExposureAbandoned b a s (abandonExposure why next s) := by
  obtain ⟨r', u, v, ⟨hk', hp', -⟩, e, hcsq, hphc, hv, hofq, hcdu⟩ := abandonExposure_parts why next h
  rw [photometricEnd_still (hk'.trans hk) (hp'.trans hp), hv] at hphc
  have hseq : sequencerAbandoned r' why u = stillAbandoned why tag u := by
    simp only [sequencerAbandoned, hp'.trans hp]
  rw [e, hseq]
  obtain ⟨hfew, hthird⟩ := stillAbandoned_counts (s := u) (why := why) (by rw [hcsq]; exact ha) ht hw
  by_cases hn : a.abandonments < 2
  · rw [hfew hn]
    refine ⟨by simp [hcsq], by simp [hcsq], by simp [hofq], fun _ => ⟨by simp, by simp [hcsq], by simp [hofq], fun hr => ?_⟩,
      fun hn' => by omega⟩
    simp [hphc, Accumulator.endMark_abandoned hr]
  · rw [hthird (by omega)]
    obtain ⟨dcsq, dofq, dacc⟩ := dropActive_spec { a with abandonments := a.abandonments + 1 } u
    refine ⟨by simp [leaveStill, enter, failActive, dcsq, hcsq], by simp [leaveStill, enter, failActive, dcsq, hcsq],
      by simp [failActive, dofq, Output.free, hofq], fun hn' => absurd hn' hn, fun _ => ⟨?_, ?_, ?_, fun c hc => ?_, fun hl => ?_⟩⟩
    · simp [leaveStill, enter, failActive, dcsq]
    · simp [leaveStill, enter, runOrIdle, failActive, dcsq, hcsq]
    · simp only [raise_frame, leaveStill_frame, failActive, dofq]
      exact Output.free_state _ _
    · have hfree : ((s.phc.setAcc b ((s.phc.acc b).endMark false)).acc c).release = Accumulator.blank := by
        rw [Photometric.acc_setAcc_eq]
        split
        · rename_i hcb
          subst hcb
          rcases hc with ⟨-, hc⟩ | hc | hc
          · simp [Accumulator.endMark_abandoned hc, Accumulator.release]
          · rw [Accumulator.endMark_other (.inl hc), Accumulator.release_blank (.inl hc)]
          · rw [Accumulator.endMark_other (.inr hc), Accumulator.release_blank (.inr hc)]
        · rename_i hcb
          exact Accumulator.release_blank (by simpa [hcb] using hc)
      simp [failActive, dacc, hphc, hfree, Accumulator.blank]
    · refine raise_keeps_latch _ _ ?_
      simp only [leaveStill_frame, failActive]
      exact raise_latched (src := .stillFailed) (by simpa [hcdu, Source.number] using hl)

/-- A DISCARDING accumulator becomes FREE at an abandonment of its exposure (R35). -/
theorem abandonExposure_discarding {s : State} {r : ExposureRecord} {b : Bank} {tag : Nat} {why : AbandonReason}
    {next : ReceiverState} (h : s.csq.exposure = some r) (hk : r.kind = .lit b) (hp : r.purpose = .still tag)
    (hd : (s.phc.acc b).state = .discarding) :
    ((abandonExposure why next s).phc.acc b).state = .free ∧ ((abandonExposure why next s).phc.acc b).folded = 0 := by
  obtain ⟨r', u, v, ⟨hk', hp', -⟩, e, -, hphc, hv, -⟩ := abandonExposure_parts why next h
  rw [photometricEnd_still (hk'.trans hk) (hp'.trans hp), hv] at hphc
  have hb : u.phc.acc b = Accumulator.blank := by rw [hphc, Photometric.acc_setAcc, Accumulator.endMark_discarding hd]
  suffices hs : (stillAbandoned why tag u).phc.acc b = Accumulator.blank by
    rw [e]
    simp [sequencerAbandoned, hp'.trans hp, hs, Accumulator.blank]
  unfold stillAbandoned
  split
  · split
    · split
      · exact hb
      · simp [failActive, dropActive_spec, hb, Accumulator.release, Accumulator.blank]
    · exact hb
  · exact hb

/-- An abandoned stream exposure leaves its buffer EMPTY and its frame discarded (R31, R101). -/
theorem abandonExposure_stream {s : State} {r : ExposureRecord} {b : Bank} {role : Role} {id : LinId} {why : AbandonReason}
    {next : ReceiverState} (h : s.csq.exposure = some r) (hk : r.kind = .lit b) (hp : r.purpose = .stream)
    (ha : r.assigned = some (role, id)) :
    let t := abandonExposure why next s
    (t.phc.lin id).content = .empty ∧ t.csq.frame = none ∧ t.csq.awaiting = s.csq.awaiting ∧
      t.csq.darkCounter = s.csq.darkCounter ∧ t.csq.state = s.csq.state := by
  obtain ⟨r', u, v, ⟨hk', hp', ha'⟩, e, hcsq, hphc, hv, -⟩ := abandonExposure_parts why next h
  rw [photometricEnd_stream (hk'.trans hk) (hp'.trans hp) (ha'.trans ha), hv] at hphc
  simp [e, sequencerAbandoned, hp'.trans hp, hcsq, hphc, LinearBuffer.endMark, LinearBuffer.blank]

/-- The sequencer's part in an abandonment leaves the dark results. -/
theorem sequencerAbandoned_darkResults (r : ExposureRecord) (why : AbandonReason) (s : State) :
    (sequencerAbandoned r why s).phc.lastDark = s.phc.lastDark ∧ (sequencerAbandoned r why s).phc.black = s.phc.black ∧
      (sequencerAbandoned r why s).phc.darkSum = s.phc.darkSum := by
  unfold sequencerAbandoned stillAbandoned
  split
  · exact ⟨rfl, rfl, rfl⟩
  · split
    · split
      · split <;> exact ⟨rfl, rfl, rfl⟩
      · exact ⟨rfl, rfl, rfl⟩
    · exact ⟨rfl, rfl, rfl⟩
  · exact ⟨rfl, rfl, rfl⟩

/-- An abandoned dark exposure leaves the last dark result and the black level (R21). -/
theorem abandonExposure_dark {s : State} {r : ExposureRecord} {why : AbandonReason} {next : ReceiverState}
    (h : s.csq.exposure = some r) (hk : r.kind = .dark) :
    let t := abandonExposure why next s
    t.phc.lastDark = s.phc.lastDark ∧ t.phc.black = s.phc.black ∧ t.phc.darkSum = none := by
  obtain ⟨r', u, v, ⟨hk', -⟩, e, -, hphc, hv, -⟩ := abandonExposure_parts why next h
  rw [photometricEnd_dark (hk'.trans hk), hv] at hphc
  simp [e, sequencerAbandoned_darkResults, hphc, Photometric.darkEnd]

end Sys2Proof.Machine
end

section
namespace Sys2Proof.Machine

/-! ### The values gathered for a picture (R102) -/

/-- The last of a picture's exposures of a bank: none when there is none of it, and the last one when there is. -/
theorem lastOfBank_spec (parts : List ExposureRecord) (b : Bank) :
    ((∀ p ∈ parts, p.kind ≠ .lit b) → lastOfBank parts b = none) ∧
    ∀ before p after, parts = before ++ p :: after → p.kind = .lit b → (∀ x ∈ after, x.kind ≠ .lit b) →
      lastOfBank parts b = some p := by
  refine ⟨fun h => ?_, fun before p after e hp ha => ?_⟩
  · simpa [lastOfBank] using h
  · have hf : after.filter (fun r => r.kind = .lit b) = [] := by simpa using ha
    simp [lastOfBank, e, hp, hf]

/-- The mismatch flag is set unless the working set's head code is the adopted head's (R116). -/
theorem mismatched_iff (s : State) :
    mismatched s = true ↔ ∀ k, s.hpb.adopted = some (.head k) → s.pfs.ws.content.head ≠ some k.val := by
  unfold mismatched adoptedCode
  split
  · rename_i k hk
    simp [hk]
  · rename_i hn
    simp only [Option.map_none, Option.isNone_none, Bool.or_true, true_iff]
    exact fun k hk => absurd hk (hn k)

/-- The model's gathering is R102's. -/
theorem gather_gatheredFrom (recipe : Recipe) (depth : Nat) (m : PhotoMode) (tag : Nat) (degraded : Bool)
    (parts : List ExposureRecord) (s : State) : GatheredFrom parts s (gather recipe depth m tag degraded parts s) := by
  obtain ⟨hF, hF'⟩ := lastOfBank_spec parts .flood
  obtain ⟨hB, hB'⟩ := lastOfBank_spec parts .beam
  refine ⟨fun h => by simp [gather, hF h], fun h => by simp [gather, hB h], fun before p after e => ⟨fun hk ha => ?_,
    fun hk ha => ?_, fun hb => ?_, fun ha => ?_⟩, rfl, ?_, by simp [gather], by simp [gather], by simp [gather],
    by simp [gather], fun i => by simp [gather], mismatched_iff s, rfl⟩
  · simp [gather, hF' before p after e hk ha]
  · simp [gather, hB' before p after e hk ha]
  · simp [gather, e, hb]
  · simp [gather, e, ha]
  · simp [gather]

/-- Gathered values speak of the zone table, the probe and the working set alone. -/
theorem GatheredFrom.congr {parts : List ExposureRecord} {s t : State} {v : PictureValues} (h : GatheredFrom parts s v)
    (hm : t.mtu = s.mtu) (hh : t.hpb = s.hpb) (hp : t.pfs = s.pfs) : GatheredFrom parts t v := by
  simpa only [GatheredFrom, hm, hh, hp] using h

/-! ### Completions -/

/-- A completion as the sequencer's part in it, in a part `u` whose corrector has taken the end mark of the record as it ends, but
for the Condition Unit. -/
theorem completeExposure_parts {s : State} {r : ExposureRecord} (h : s.csq.exposure = some r) :
    ∃ r' u v c, r' = { r with state := .complete, patchedLines := s.pxr.patched } ∧
      completeExposure s = (sequencerCompleted r' u).setCdu c ∧
      u.csq = { s.csq with exposure := none, lastEnded := some r' } ∧ u.phc = (photometricEnd r' true v).phc ∧
      v.phc = s.phc := by
  let r' : ExposureRecord := { r with state := .complete, patchedLines := s.pxr.patched }
  let v := (s.setPxr (s.pxr.finish .idle)).setCsq { s.csq with exposure := none, lastEnded := some r' }
  let u := meteringCompleted (photometricEnd r' true v)
  have e : completeExposure s =
      if 0 < s.pxr.patched then raise .sensorFault (sequencerCompleted r' u) else sequencerCompleted r' u := by
    simp only [completeExposure, h]
    rfl
  have hc : ∃ c, completeExposure s = (sequencerCompleted r' u).setCdu c := by
    rw [e]
    split
    · exact ⟨_, rfl⟩
    · exact ⟨_, rfl⟩
  obtain ⟨c, hc⟩ := hc
  exact ⟨r', u, v, c, rfl, hc, by simp [u, v], by simp [u], rfl⟩

@[simp] theorem StillTrack.complete_frame (a : StillTrack) (r : ExposureRecord) :
    (a.complete r).req = a.req ∧ (a.complete r).slot = a.slot ∧ (a.complete r).phase = a.phase ∧
    (a.complete r).abandonments = a.abandonments ∧ (a.complete r).parts = a.parts ++ [r] := ⟨rfl, rfl, rfl, rfl, rfl⟩

/-- The active still with one more exposure complete: its values are gathered at its last one (R110). -/
theorem stillCompleted_spec {s : State} {a : StillTrack} {r : ExposureRecord} {b : Bank} {tag : Nat}
    (ha : s.csq.active = some a) (ht : a.req.tag = tag) (hk : r.kind = .lit b) :
    ∃ a', stillCompleted r tag s = s.setCsq { s.csq with active := some a' } ∧ a'.req = a.req ∧ a'.slot = a.slot ∧
      a'.abandonments = a.abandonments ∧ a'.doneF = (if b = .flood then a.doneF + 1 else a.doneF) ∧
      a'.doneB = (if b = .beam then a.doneB + 1 else a.doneB) ∧ (a'.nextBank.isSome = true → a'.phase = a.phase) ∧
      (a'.nextBank = none → a'.phase = .awaitFinalise ∧ a'.values =
        some (gather a.req.recipe a.req.depth a.req.photometric a.req.tag false (a.parts ++ [r]) s)) := by
  have hF : (a.complete r).doneF = if b = .flood then a.doneF + 1 else a.doneF := by simp [StillTrack.complete, hk]
  have hB : (a.complete r).doneB = if b = .beam then a.doneB + 1 else a.doneB := by simp [StillTrack.complete, hk]
  subst ht
  simp only [stillCompleted, ha, if_true]
  cases hn : (a.complete r).nextBank with
  | none =>
    refine ⟨_, rfl, rfl, rfl, rfl, hF, hB, fun h => ?_, fun _ => ⟨rfl, rfl⟩⟩
    have : (a.complete r).nextBank.isSome = true := h
    simp [hn] at this
  | some c => exact ⟨_, rfl, rfl, rfl, rfl, hF, hB, fun _ => rfl, fun h => by simp [hn] at h⟩

/-- A completed still exposure: its accumulator goes to its fold, and the still counts it (R35, R110, R102). -/
theorem completeExposure_still {s : State} {r : ExposureRecord} {b : Bank} {tag : Nat} (h : s.csq.exposure = some r)
    (hk : r.kind = .lit b) (hp : r.purpose = .still tag) :
    let t := completeExposure s
    t.phc.acc b = (s.phc.acc b).endMark true ∧
    ∀ a, s.csq.active = some a → a.req.tag = tag →
      t.csq.state = s.csq.state ∧ ∃ a', t.csq.active = some a' ∧ a'.req = a.req ∧ a'.slot = a.slot ∧
        a'.abandonments = a.abandonments ∧ a'.doneF = (if b = .flood then a.doneF + 1 else a.doneF) ∧
        a'.doneB = (if b = .beam then a.doneB + 1 else a.doneB) ∧ (a'.nextBank.isSome = true → a'.phase = a.phase) ∧
        (a'.nextBank = none → a'.phase = .awaitFinalise ∧ ∃ v, a'.values = some v ∧ v.tag = tag ∧
          v.recipe = a.req.recipe ∧ v.depth = a.req.depth ∧ v.photometric = a.req.photometric ∧ v.last = r.number ∧
          v.black = r.black ∧ v.degraded = false ∧
          GatheredFrom (a.parts ++ [{ r with state := .complete, patchedLines := s.pxr.patched }]) t v) := by
  obtain ⟨r', u, v, c, hr, e, hcsq, hphc, hv⟩ := completeExposure_parts h
  have hk' : r'.kind = .lit b := hr ▸ hk
  have hp' : r'.purpose = .still tag := hr ▸ hp
  rw [photometricEnd_still hk' hp', hv] at hphc
  have hseq : sequencerCompleted r' u = stillCompleted r' tag u := by simp only [sequencerCompleted, hp']
  rw [hseq] at e
  rw [← hr]
  intro t
  have et : t = _ := e
  refine ⟨by simp [et, hphc], fun a ha ht => ?_⟩
  obtain ⟨a', e', h1, h2, h3, h4, h5, h6, h7⟩ := stillCompleted_spec (s := u) (by rw [hcsq]; exact ha) ht hk'
  rw [e'] at et
  refine ⟨by simp [et, hcsq], a', by simp [et], h1, h2, h3, h4, h5, h6, fun hn => ?_⟩
  obtain ⟨h7, h8⟩ := h7 hn
  refine ⟨h7, _, h8, ht, rfl, rfl, rfl, by simp [gather, hr], by simp [gather, hr], rfl, ?_⟩
  exact (gather_gatheredFrom _ _ _ _ _ _ u).congr (by simp [et]) (by simp [et]) (by simp [et])

/-- A buffer marked for release is EMPTY after a completed end mark (R32). -/
theorem completeExposure_released {s : State} {r : ExposureRecord} {b : Bank} {role : Role} {id : LinId}
    (h : s.csq.exposure = some r) (hk : r.kind = .lit b) (hp : r.purpose = .stream) (ha : r.assigned = some (role, id))
    (hm : (s.phc.lin id).releaseMarked = true) : ((completeExposure s).phc.lin id).content = .empty := by
  obtain ⟨r', u, v, c, hr, e, -, hphc, hv⟩ := completeExposure_parts h
  rw [photometricEnd_stream (b := b) (role := role) (id := id) (hr ▸ hk) (hr ▸ hp) (hr ▸ ha), hv] at hphc
  simp [e, hphc, LinearBuffer.endMark, hm, LinearBuffer.blank]

/-! ### Claims over a pump and over the rows of a readout -/

theorem StillExposureAbandoned.pump {b : Bank} {a : StillTrack} {s t : State} (h : StillExposureAbandoned b a s t) :
    StillExposureAbandoned b a s (pump t) := by
  simpa only [StillExposureAbandoned, pump_frame, pump_latches] using h

theorem StillExposureAbandoned.of_judged {b : Bank} {a : StillTrack} {s u t : State} (j : ReadoutJudged s u)
    (h : StillExposureAbandoned b a u t) : StillExposureAbandoned b a s t := by
  obtain ⟨hst, hfo, hsu⟩ : (∀ c, (u.phc.acc c).state = (s.phc.acc c).state) ∧
      (∀ c, (u.phc.acc c).folded = (s.phc.acc c).folded) ∧ ∀ c, (u.phc.acc c).sum = (s.phc.acc c).sum := by
    simpa only [forall_and] using j.rows.acc
  simpa only [StillExposureAbandoned, j.csq, j.ofq, j.cdu, hst, hfo, hsu] using h

/-! ### READOUT_TIMEOUT -/

theorem exec_readoutTimeout_running {s : State} (h : s.pxr.readoutTimer.isSome = true) :
    exec .readoutTimeout s = .next (pump (abandonExposure .timeout (abandonedState s.pxr.state) s)) := by
  obtain ⟨n, hn⟩ := Option.isSome_iff_exists.1 h
  simp [exec, execReadoutTimeout, hn]

/-- Settles O11: the abandonment with TIMEOUT of the exposure in flight, by its kind and purpose. -/
theorem readoutTimeoutAbandons : Obligations.ReadoutTimeoutAbandons := by
  intro s
  refine ⟨fun h => by simp [exec, execReadoutTimeout, h], fun r ht hx => ⟨_, exec_readoutTimeout_running ht, ?_⟩⟩
  obtain ⟨hpxr, hnone, hlast, hmeter, hlatch⟩ :=
    abandonExposure_spec (why := .timeout) (next := abandonedState s.pxr.state) hx
  simp only [pump_frame, pump_latches]
  refine ⟨fun h => by rw [hpxr, h]; rfl, fun sub h => by rw [hpxr, h]; rfl, fun h => by rw [hpxr, h]; rfl,
    by rw [hpxr]; rfl, hnone, hmeter, hlast, hlatch,
    fun b tag hk hp => ⟨fun hd => abandonExposure_discarding hx hk hp hd, fun a ha htag => ?_⟩,
    fun b role id hk hp ha => abandonExposure_stream hx hk hp ha, fun hk => abandonExposure_dark hx hk⟩
  exact (abandonExposure_still hx hk hp (.inl rfl) ha htag).pump

end Sys2Proof.Machine
end

section
namespace Sys2Proof.Machine

/-! ### The line number at the end of a readout

No unit that takes a row or an end mark reads the receiver's line number, so the number commutes with each of them. -/

/-- The state with the receiver's line number set. -/
def State.atLine (n : Nat) (s : State) : State := s.setPxr { s.pxr with lineNumber := n }

theorem atLine_self (s : State) : s.atLine s.pxr.lineNumber = s := rfl

theorem atLine_atLine (m n : Nat) (s : State) : (s.atLine m).atLine n = s.atLine n := rfl

/-- A part of a step that neither reads nor writes the line number. -/
def LineBlind (f : State → State) : Prop := ∀ n s, f (s.atLine n) = (f s).atLine n

theorem LineBlind.comp {f g : State → State} (hf : LineBlind f) (hg : LineBlind g) : LineBlind (fun s => f (g s)) :=
  fun n s => (congrArg f (hg n s)).trans (hf n (g s))

theorem photometricLine_blind (r : ExposureRecord) (y : Nat) (row : List Nat) : LineBlind (photometricLine r y row) := by
  intro n s
  unfold photometricLine
  split
  · split <;> rfl
  all_goals rfl

theorem meteringLine_blind (r : ExposureRecord) (y : Nat) (row : List Nat) : LineBlind (meteringLine r y row) := by
  intro n s
  cases h : s.mtu.measurement with
  | none => simp only [meteringLine, State.atLine, State.setPxr_mtu, h]
  | some m =>
    simp only [meteringLine, State.atLine, State.setPxr_mtu, h]
    rfl

theorem handRow_blind (y : Nat) (row : List Nat) : LineBlind (handRow y row) := by
  intro n s
  cases h : s.csq.exposure with
  | none => simp only [handRow, State.atLine, State.setPxr_csq, h]
  | some r =>
    simp only [handRow, State.atLine, State.setPxr_csq, h]
    exact ((meteringLine_blind r y row).comp (photometricLine_blind r y row)) n s

theorem handRows_blind (y : Nat) (rows : List (List Nat)) : LineBlind (handRows y rows) := by
  induction rows generalizing y with
  | nil => exact fun _ _ => rfl
  | cons row rows ih => exact (ih (y + 1)).comp (handRow_blind y row)

theorem photometricEnd_blind (r : ExposureRecord) (c : Bool) : LineBlind (photometricEnd r c) := by
  intro n s
  unfold photometricEnd
  split <;> rfl

theorem meteringCompleted_blind : LineBlind meteringCompleted := by
  intro n s
  cases h : s.mtu.measurement with
  | none => simp only [meteringCompleted, State.atLine, State.setPxr_mtu, h]
  | some m =>
    simp only [meteringCompleted, State.atLine, State.setPxr_mtu, h]
    rfl

theorem sequencerCompleted_blind (r : ExposureRecord) : LineBlind (sequencerCompleted r) := by
  intro n s
  unfold sequencerCompleted
  split
  · cases hf : s.csq.frame with
    | none => simp only [streamCompleted, State.atLine, State.setPxr_csq, hf]
    | some f =>
      simp only [streamCompleted, State.atLine, State.setPxr_csq, hf]
      split <;> rfl
  · rename_i tag _
    cases ha : s.csq.active with
    | none => simp only [stillCompleted, State.atLine, State.setPxr_csq, ha]
    | some a =>
      simp only [stillCompleted, State.atLine, State.setPxr_csq, ha]
      split <;> rfl
  · rfl

theorem sequencerAbandoned_blind (r : ExposureRecord) (why : AbandonReason) : LineBlind (sequencerAbandoned r why) := by
  intro n s
  unfold sequencerAbandoned
  split
  · rfl
  · rename_i tag _
    cases ha : s.csq.active with
    | none => simp only [stillAbandoned, State.atLine, State.setPxr_csq, ha]
    | some a =>
      simp only [stillAbandoned, State.atLine, State.setPxr_csq, ha]
      split
      · split <;> rfl
      · rfl
  · rfl

theorem raise_blind (src : Source) : LineBlind (raise src) := fun _ _ => rfl

/-- The record `r` released at its end, the receiver entering `next`. -/
def State.released (next : ReceiverState) (r : ExposureRecord) (s : State) : State :=
  (s.setPxr (s.pxr.finish next)).setCsq { s.csq with exposure := none, lastEnded := some r }

/-- The completed end mark of the record `r` at the corrector, the Metering Unit and the sequencer. -/
def takeCompletion (r : ExposureRecord) (s : State) : State :=
  sequencerCompleted r (meteringCompleted (photometricEnd r true s))

/-- The abandoned end mark of the record `r` at the corrector, the Metering Unit and the sequencer. -/
def takeAbandonment (r : ExposureRecord) (why : AbandonReason) (s : State) : State :=
  sequencerAbandoned r why (meteringAbandoned (photometricEnd r false s))

theorem completeExposure_eq {s : State} {r : ExposureRecord} (h : s.csq.exposure = some r) :
    completeExposure s =
      let r' := { r with state := .complete, patchedLines := s.pxr.patched }
      let t := takeCompletion r' (s.released .idle r')
      if 0 < s.pxr.patched then raise .sensorFault t else t := by
  simp only [completeExposure, h]
  rfl

theorem abandonExposure_eq {s : State} {r : ExposureRecord} (why : AbandonReason) (next : ReceiverState)
    (h : s.csq.exposure = some r) :
    abandonExposure why next s =
      let r' := { r with state := .abandoned, patchedLines := s.pxr.patched, reason := some why }
      raise .sensorFault (takeAbandonment r' why (s.released next r')) := by
  simp only [abandonExposure, h]
  rfl

theorem completeExposure_blind : LineBlind completeExposure := by
  intro n s
  cases h : s.csq.exposure with
  | none => simp only [completeExposure, State.atLine, State.setPxr_csq, h]
  | some r =>
    have hr := fun r' : ExposureRecord => ((sequencerCompleted_blind r').comp
      (meteringCompleted_blind.comp (photometricEnd_blind r' true))) n (s.released .idle r')
    rw [completeExposure_eq h, completeExposure_eq (s := s.atLine n) h]
    dsimp only
    change (if 0 < s.pxr.patched then _ else _) = _
    split
    · exact congrArg (raise .sensorFault) (hr _)
    · exact hr _

theorem abandonExposure_blind (why : AbandonReason) (next : ReceiverState) : LineBlind (abandonExposure why next) := by
  intro n s
  cases h : s.csq.exposure with
  | none => simp only [abandonExposure, State.atLine, State.setPxr_csq, h]
  | some r =>
    have hm : LineBlind meteringAbandoned := fun _ _ => rfl
    have hr := fun r' : ExposureRecord => ((sequencerAbandoned_blind r' why).comp
      (hm.comp (photometricEnd_blind r' false))) n (s.released next r')
    rw [abandonExposure_eq why next h, abandonExposure_eq (s := s.atLine n) why next h]
    exact congrArg (raise .sensorFault) (hr _)

theorem judgeReadout_blind : LineBlind judgeReadout := by
  intro n s
  change (if s.pxr.patchLimit < s.pxr.patched then _ else _) = _
  unfold judgeReadout
  split
  · exact abandonExposure_blind .patchLimit .idle n s
  · exact completeExposure_blind n s

theorem pump_blind : LineBlind pump := by
  intro n s
  cases ht : s.cml.tx with
  | some x => simp only [pump, State.atLine, State.setPxr_cml, ht]
  | none =>
    cases hn : s.cdu.noticePending with
    | true =>
      simp only [pump, State.atLine, State.setPxr_cml, State.setPxr_cdu, ht, hn, if_true]
      rfl
    | false =>
      simp only [pump, State.atLine, State.setPxr_cml, State.setPxr_cdu, ht, hn, Bool.false_eq_true, if_false]
      cases s.cml.replies <;> rfl

theorem endReadout_received {s : State} {row : List Nat} (hr : 0 < s.pxr.received) (hl : s.pxr.lastLine = some row) :
    endReadout s = judgeReadout (handRows s.pxr.lineNumber (List.replicate (1024 - s.pxr.lineNumber) row)
      (s.setPxr { s.pxr with patched := s.pxr.patched + (1024 - s.pxr.lineNumber) })) := by
  refine (if_neg (Nat.pos_iff_ne_zero.1 hr)).trans ?_
  simp [hl]

/-- The end of a readout is that of the readout whose missing rows are counted and handed, but for the line number. -/
theorem endReadout_handed {s : State} {row : List Nat} (hr : 0 < s.pxr.received) (hl : s.pxr.lastLine = some row) :
    endReadout s = (endReadout (handRows s.pxr.lineNumber (List.replicate (1024 - s.pxr.lineNumber) row)
      (s.setPxr { s.pxr with lineNumber := 1024, patched := s.pxr.patched + (1024 - s.pxr.lineNumber) }))).atLine
        s.pxr.lineNumber := by
  let v := s.setPxr { s.pxr with patched := s.pxr.patched + (1024 - s.pxr.lineNumber) }
  let rows := List.replicate (1024 - s.pxr.lineNumber) row
  have hw : handRows s.pxr.lineNumber rows (v.atLine 1024) = (handRows s.pxr.lineNumber rows v).atLine 1024 :=
    handRows_blind _ _ 1024 v
  have hv : (handRows s.pxr.lineNumber rows v).pxr = v.pxr := by simp
  have hrec : 0 < ((handRows s.pxr.lineNumber rows v).atLine 1024).pxr.received := by
    simpa [State.atLine, hv, v] using hr
  have hlast : ((handRows s.pxr.lineNumber rows v).atLine 1024).pxr.lastLine = some row := by
    simpa [State.atLine, hv, v] using hl
  have hself : (handRows s.pxr.lineNumber rows v).atLine s.pxr.lineNumber = handRows s.pxr.lineNumber rows v := by
    have hline : s.pxr.lineNumber = (handRows s.pxr.lineNumber rows v).pxr.lineNumber := by simp [v]
    exact (congrArg (State.atLine · _) hline).trans (atLine_self _)
  calc endReadout s = judgeReadout (handRows s.pxr.lineNumber rows v) := endReadout_received hr hl
    _ = (judgeReadout ((handRows s.pxr.lineNumber rows v).atLine 1024)).atLine s.pxr.lineNumber := by
        rw [judgeReadout_blind, atLine_atLine, ← judgeReadout_blind, hself]
    _ = (endReadout ((handRows s.pxr.lineNumber rows v).atLine 1024)).atLine s.pxr.lineNumber := by
        rw [endReadout_received hrec hlast]; rfl
    _ = _ := by rw [← hw]; rfl

/-! ### FRAME_CLOSE -/

theorem exec_frameClose_inLine {s : State} (h : s.pxr.state = .inFrame .inLine) :
    exec .frameClose s = exec .frameClose (closeLine s) := by
  rw [exec_frameClose_between (closeLine_state s)]
  simp [exec, execFrameClose, h, closeOpenLine]

/-- The outcome of a readout, with what it leaves of the receiver, the record, the measurement and SENSOR_FAULT (R12, R17). -/
theorem endReadout_spec {s : State} {r : ExposureRecord} (h : s.csq.exposure = some r) :
    let t := endReadout s
    t.pxr.state = .idle ∧ t.pxr.readoutTimer = none ∧ t.csq.exposure = none ∧ t.mtu.measurement = none ∧
    (s.pxr.received = 0 → t.csq.lastEnded = some { r with
      state := .abandoned, patchedLines := s.pxr.patched + (1024 - s.pxr.lineNumber), reason := some .empty }) ∧
    (0 < s.pxr.received → s.pxr.patchLimit < s.pxr.patched + (1024 - s.pxr.lineNumber) →
      t.csq.lastEnded = some { r with
        state := .abandoned, patchedLines := s.pxr.patched + (1024 - s.pxr.lineNumber), reason := some .patchLimit }) ∧
    (0 < s.pxr.received → s.pxr.patched + (1024 - s.pxr.lineNumber) ≤ s.pxr.patchLimit →
      t.csq.lastEnded = some { r with
        state := .complete, patchedLines := s.pxr.patched + (1024 - s.pxr.lineNumber) }) ∧
    (s.cdu.riseEn.getLsbD 8 = true →
      s.pxr.received = 0 ∨ 0 < s.pxr.patched + (1024 - s.pxr.lineNumber) → t.cdu.latches.getLsbD 8 = true) := by
  obtain ⟨u, j, hempty, hlimit, hdone⟩ := endReadout_judged s
  have hu : u.csq.exposure = some r := by rw [j.csq]; exact h
  have ab := fun why => abandonExposure_spec (why := why) (next := .idle) hu
  have co := completeExposure_spec hu
  simp only [j.cdu, j.patched] at ab co
  intro t
  by_cases hr : s.pxr.received = 0
  · obtain ⟨h1, h2, h3, h4, h5⟩ := ab .empty
    simp only [t, hempty hr, h1]
    exact ⟨rfl, rfl, h2, h4, fun _ => h3, fun hp => by omega, fun hp => by omega, fun he _ => h5 he⟩
  have hr' : 0 < s.pxr.received := Nat.pos_of_ne_zero hr
  by_cases hp : s.pxr.patchLimit < s.pxr.patched + (1024 - s.pxr.lineNumber)
  · obtain ⟨h1, h2, h3, h4, h5⟩ := ab .patchLimit
    simp only [t, hlimit hr' hp, h1]
    exact ⟨rfl, rfl, h2, h4, fun hz => absurd hz hr, fun _ _ => h3, fun _ hle => by omega, fun he _ => h5 he⟩
  · obtain ⟨h1, h2, h3, h4, h5⟩ := co
    simp only [t, hdone hr' (Nat.le_of_not_lt hp), h1]
    exact ⟨rfl, rfl, h2, h4, fun hz => absurd hz hr, fun _ hlt => absurd hlt hp, fun _ _ => h3,
      fun he hz => h5 he (hz.resolve_left hr)⟩

/-- A readout that is abandoned, for its reason EMPTY or PATCH_LIMIT (R12). -/
theorem endReadout_abandons {s u : State}
    (he : s.pxr.received = 0 → endReadout s = abandonExposure .empty .idle u)
    (hl : 0 < s.pxr.received → s.pxr.patchLimit < s.pxr.patched + (1024 - s.pxr.lineNumber) →
      endReadout s = abandonExposure .patchLimit .idle u)
    (h : s.pxr.received = 0 ∨ s.pxr.patchLimit < s.pxr.patched + (1024 - s.pxr.lineNumber)) :
    ∃ why, (why = .timeout ∨ why = .patchLimit ∨ why = .empty) ∧ endReadout s = abandonExposure why .idle u := by
  by_cases hr : s.pxr.received = 0
  · exact ⟨.empty, by simp, he hr⟩
  · exact ⟨.patchLimit, by simp, hl (Nat.pos_of_ne_zero hr) (h.resolve_left hr)⟩

theorem accumulator_endMark_completed {a : Accumulator} (h : a.state = .receiving) :
    a.endMark true = { a with state := .folding } := by simp [Accumulator.endMark, h]

/-- A completed readout of a still's exposure (R35, R110, R102). -/
theorem endReadout_still {s : State} {r : ExposureRecord} {b : Bank} {tag : Nat} (hx : s.csq.exposure = some r)
    (hk : r.kind = .lit b) (hp : r.purpose = .still tag) (hr : 0 < s.pxr.received)
    (hle : s.pxr.patched + (1024 - s.pxr.lineNumber) ≤ s.pxr.patchLimit) :
    let t := endReadout s
    ((s.phc.acc b).state = .receiving → (t.phc.acc b).state = .folding ∧
      (t.phc.acc b).folded = (s.phc.acc b).folded ∧ (t.phc.acc b).sum = (s.phc.acc b).sum) ∧
    ∀ a, s.csq.active = some a → a.req.tag = tag →
      t.csq.state = s.csq.state ∧ ∃ a', t.csq.active = some a' ∧ a'.req = a.req ∧ a'.slot = a.slot ∧
        a'.abandonments = a.abandonments ∧ a'.doneF = (if b = .flood then a.doneF + 1 else a.doneF) ∧
        a'.doneB = (if b = .beam then a.doneB + 1 else a.doneB) ∧ (a'.nextBank.isSome = true → a'.phase = a.phase) ∧
        (a'.nextBank = none → a'.phase = .awaitFinalise ∧ ∃ v, a'.values = some v ∧ v.tag = tag ∧
          v.recipe = a.req.recipe ∧ v.depth = a.req.depth ∧ v.photometric = a.req.photometric ∧ v.last = r.number ∧
          v.black = r.black ∧ v.degraded = false ∧ GatheredFrom
            (a.parts ++ [{ r with state := .complete, patchedLines := s.pxr.patched + (1024 - s.pxr.lineNumber) }]) t v) := by
  obtain ⟨u, j, -, -, hdone⟩ := endReadout_judged s
  obtain ⟨jst, jfo, jsu⟩ := j.rows.acc b
  obtain ⟨hacc, hact⟩ := completeExposure_still (s := u) (by rw [j.csq]; exact hx) hk hp
  rw [← hdone hr hle] at hacc hact
  refine ⟨fun hrec => ?_, fun a ha ht => ?_⟩
  · rw [hacc, accumulator_endMark_completed (jst.trans hrec)]
    exact ⟨rfl, jfo, jsu⟩
  · have hact := hact a (by rw [j.csq]; exact ha) ht
    rwa [j.csq, j.patched] at hact

/-- A DISCARDING accumulator becomes FREE at either end mark (R35). -/
theorem endReadout_discarding {s : State} {r : ExposureRecord} {b : Bank} {tag : Nat} (hx : s.csq.exposure = some r)
    (hk : r.kind = .lit b) (hp : r.purpose = .still tag) (hd : (s.phc.acc b).state = .discarding) :
    ((endReadout s).phc.acc b).state = .free ∧ ((endReadout s).phc.acc b).folded = 0 := by
  obtain ⟨u, j, hempty, hlimit, hdone⟩ := endReadout_judged s
  have hu : u.csq.exposure = some r := by rw [j.csq]; exact hx
  have hdu := (j.rows.acc b).1.trans hd
  by_cases hab : s.pxr.received = 0 ∨ s.pxr.patchLimit < s.pxr.patched + (1024 - s.pxr.lineNumber)
  · obtain ⟨why, -, e⟩ := endReadout_abandons hempty hlimit hab
    rw [e]
    exact abandonExposure_discarding hu hk hp hdu
  · obtain ⟨hacc, -⟩ := completeExposure_still hu hk hp
    rw [hdone (by omega) (by omega), hacc, Accumulator.endMark_discarding hdu]
    exact ⟨rfl, rfl⟩

/-- An abandoned readout of a stream exposure (R31, R101). -/
theorem endReadout_stream {s : State} {r : ExposureRecord} {b : Bank} {role : Role} {id : LinId}
    (hx : s.csq.exposure = some r) (hk : r.kind = .lit b) (hp : r.purpose = .stream) (ha : r.assigned = some (role, id))
    (hab : s.pxr.received = 0 ∨ s.pxr.patchLimit < s.pxr.patched + (1024 - s.pxr.lineNumber)) :
    let t := endReadout s
    (t.phc.lin id).content = .empty ∧ t.csq.frame = none ∧ t.csq.awaiting = s.csq.awaiting ∧
      t.csq.darkCounter = s.csq.darkCounter ∧ t.csq.state = s.csq.state := by
  obtain ⟨u, j, hempty, hlimit, -⟩ := endReadout_judged s
  obtain ⟨why, -, e⟩ := endReadout_abandons hempty hlimit hab
  have hst := abandonExposure_stream (s := u) (why := why) (next := .idle) (by rw [j.csq]; exact hx) hk hp ha
  rwa [j.csq, ← e] at hst

/-- A buffer marked for release is EMPTY after either end mark (R32). -/
theorem endReadout_released {s : State} {r : ExposureRecord} {b : Bank} {role : Role} {id : LinId}
    (hx : s.csq.exposure = some r) (hk : r.kind = .lit b) (hp : r.purpose = .stream) (ha : r.assigned = some (role, id))
    (hm : (s.phc.lin id).releaseMarked = true) : ((endReadout s).phc.lin id).content = .empty := by
  obtain ⟨u, j, -, -, hdone⟩ := endReadout_judged s
  by_cases hab : s.pxr.received = 0 ∨ s.pxr.patchLimit < s.pxr.patched + (1024 - s.pxr.lineNumber)
  · obtain ⟨hempty, -⟩ := endReadout_stream hx hk hp ha hab
    exact hempty
  · rw [hdone (by omega) (by omega)]
    exact completeExposure_released (by rw [j.csq]; exact hx) hk hp ha ((j.rows.lin id).trans hm)

/-- Settles O9: the judgement of a readout, then its effect on a still, a stream and a dark exposure, and the handing of the
trailing rows. -/
theorem frameCloseJudgesReadout : Obligations.FrameCloseJudgesReadout := by
  refine ⟨⟨fun s r hx => ⟨fun hs => ?_, fun hs => ?_⟩, fun s r b tag hx hk hp hs => ?_⟩,
    fun s r b role id hx hk hp ha hs => ?_, fun s r hx hk hs hab => ?_, fun s row hs hr hl hn => ?_⟩
  · exact ⟨_, exec_lineClose_open hs, closeLine_state s, by simp [closeLine_exposure, hx], exec_frameClose_inLine hs⟩
  · refine ⟨_, exec_frameClose_between hs, ?_⟩
    simpa only [pump_frame, pump_latches] using endReadout_spec hx
  · refine ⟨_, exec_frameClose_between hs, ?_⟩
    simp only [pump_frame]
    refine ⟨fun hd => endReadout_discarding hx hk hp hd, fun hr hle => ?_, fun hab a ha ht => ?_⟩
    · obtain ⟨hacc, hact⟩ := endReadout_still hx hk hp hr hle
      refine ⟨hacc, fun a ha ht => ?_⟩
      obtain ⟨hst, a', h1, h2, h3, h4, h5, h6, h7, h8⟩ := hact a ha ht
      refine ⟨hst, a', h1, h2, h3, h4, h5, h6, h7, fun hn => ?_⟩
      obtain ⟨hph, v, k1, k2, k3, k4, k5, k6, k7, k8, k9⟩ := h8 hn
      exact ⟨hph, v, k1, k2, k3, k4, k5, k6, k7, k8, k9.congr (by simp) (by simp) (by simp)⟩
    · obtain ⟨u, j, hempty, hlimit, -⟩ := endReadout_judged s
      obtain ⟨why, hw, e⟩ := endReadout_abandons hempty hlimit hab
      rw [e]
      exact ((abandonExposure_still (by rw [j.csq]; exact hx) hk hp hw (by rw [j.csq]; exact ha) ht).of_judged j).pump
  · refine ⟨_, exec_frameClose_between hs, ?_⟩
    simp only [pump_frame]
    exact ⟨endReadout_released hx hk hp ha, endReadout_stream hx hk hp ha⟩
  · obtain ⟨u, j, hempty, hlimit, -⟩ := endReadout_judged s
    obtain ⟨why, -, e⟩ := endReadout_abandons hempty hlimit hab
    have hd := abandonExposure_dark (s := u) (why := why) (next := .idle) (by rw [j.csq]; exact hx) hk
    rw [j.rows.lastDark, j.rows.black, ← e] at hd
    exact ⟨_, exec_frameClose_between hs, by simpa only [pump_frame] using hd⟩
  · refine ⟨_, _, exec_frameClose_between hs, exec_frameClose_between ?_, ?_⟩
    · simpa using hs
    · exact (congrArg pump (endReadout_handed hr hl)).trans (pump_blind _ _)

end Sys2Proof.Machine
end

section
namespace Sys2Proof.Machine

/-! ## What each trigger starts (R4, R29, R66, R86, R97 to R101, R109) -/

/-- The zone measured at index `i`, if it is (R66). -/
def measuredZone (defs : Vector ZoneDef 8) (bank : Bank) (i : Fin 8) : Option MeasuredZone :=
  if defs[i].enabled ∧ defs[i].bank = bank then some { index := i, defn := defs[i], sum := 0, clipped := 0 } else none

theorem measuredZones_eq (defs : Vector ZoneDef 8) (bank : Bank) :
    measuredZones defs bank = (List.finRange 8).filterMap (measuredZone defs bank) := rfl

theorem measuredZone_some {defs : Vector ZoneDef 8} {bank : Bank} {i : Fin 8} {z : MeasuredZone} :
    measuredZone defs bank i = some z ↔
      (defs[i].enabled = true ∧ defs[i].bank = bank) ∧ { index := i, defn := defs[i], sum := 0, clipped := 0 } = z := by
  simp only [measuredZone, Option.ite_none_right_eq_some, Option.some.injEq]

theorem mem_measuredZones {defs : Vector ZoneDef 8} {bank : Bank} {z : MeasuredZone} :
    z ∈ measuredZones defs bank ↔ defs[z.index].enabled = true ∧ defs[z.index].bank = bank ∧
      z.defn = defs[z.index] ∧ z.sum = 0 ∧ z.clipped = 0 := by
  simp only [measuredZones_eq, List.mem_filterMap, List.mem_finRange, true_and, measuredZone_some]
  constructor
  · rintro ⟨i, ⟨he, hb⟩, rfl⟩
    exact ⟨he, hb, rfl, rfl, rfl⟩
  · rintro ⟨he, hb, hd, hs, hc⟩
    exact ⟨z.index, ⟨he, hb⟩, by cases z; simp_all⟩

theorem measuredZones_nodup (defs : Vector ZoneDef 8) (bank : Bank) :
    ((measuredZones defs bank).map MeasuredZone.index).Nodup := by
  have hsub : ∀ is : List (Fin 8), ((is.filterMap (measuredZone defs bank)).map MeasuredZone.index).Sublist is := by
    intro is
    induction is with
    | nil => simp
    | cons i is ih =>
      cases h : measuredZone defs bank i with
      | none => simpa [h] using ih.cons i
      | some z =>
        obtain ⟨-, rfl⟩ := measuredZone_some.1 h
        simpa [h] using ih.cons_cons i
  exact (hsub (List.finRange 8)).nodup (List.nodup_finRange 8)

theorem measurementOpened_of {number : Word32} {b : Bank} {s t : State}
    (h : t.mtu = s.mtu.trigger number (.lit b) .stream) : MeasurementOpened number b s t := by
  refine ⟨_, by rw [h]; rfl, rfl, rfl, rfl, measuredZones_nodup _ _, fun z => ?_⟩
  simp [mem_measuredZones]

theorem marksCleared_of {number : Word32} {kind : Kind} {purpose : Purpose} {s t : State}
    (h : t.mtu = s.mtu.trigger number kind purpose) : MarksCleared s t :=
  ⟨by rw [h]; rfl, fun i => by simp [h, Metering.trigger]⟩

theorem receiverTriggered_of {time : Nat} {s t : State} (h : t.pxr = s.pxr.trigger time) : ReceiverTriggered time s t := by
  rw [ReceiverTriggered, h]
  exact ⟨rfl, rfl, rfl, rfl, rfl, rfl, rfl, rfl, fun hs => by simp [Receiver.trigger, hs],
    fun hs => by simp [Receiver.trigger, hs]⟩

/-- The two banks at a stream trigger of bank `b`: its last lit is the exposure, and the other bank stands (R86). -/
theorem Lamps.bank_light_stream (l : Lamps) (b c : Bank) (number : Word32) (requested time : Nat) :
    (l.light b number requested time true).bank c =
      if c = b then { l.bank b with lastLit := some { number, used := (l.used b requested time).1 } } else l.bank c := by
  cases b <;> cases c <;> rfl

theorem Lamps.light_lit (l : Lamps) (b : Bank) (number : Word32) (requested time : Nat) (stream : Bool) :
    (l.light b number requested time stream).lit =
      if (l.used b requested time).1 = 0 then none else some (b, (l.used b requested time).1) := by
  simp

theorem Lamps.light_still (l : Lamps) (b : Bank) (number : Word32) (requested time : Nat) :
    (l.light b number requested time false).flood = l.flood ∧ (l.light b number requested time false).beam = l.beam :=
  ⟨rfl, rfl⟩

theorem exec_trigger {s : State} {plan : TriggerPlan} (h : triggerPlan s = some plan) :
    exec .trigger s = .next (carryTrigger plan s) := by
  simp only [exec, execTrigger, h]

/-- The effective recipe of a stream frame, and its degraded mark (R101). -/
theorem effectiveRecipe_eq (req : Recipe) (fb : Bool) :
    effectiveRecipe req fb =
      let eff : Recipe := if req = .flood ∨ fb = true then req else .flood
      (eff, decide (eff ≠ req)) := by
  unfold effectiveRecipe
  split
  · simp
  · rename_i h
    have hne : Recipe.flood ≠ req := fun e => h (.inl e.symm)
    simp [hne]

theorem firstBank_eq (r : Recipe) : firstBank r = if r = .beam then .beam else .flood := by cases r <;> rfl

/-! ### The trigger chosen (R98) -/

theorem triggerPlan_boundary {s : State} (hr : triggerReady s = true) (hs : s.csq.state = .run)
    (hf : s.csq.frame = none) : triggerPlan s = boundaryTrigger s := by
  simp [triggerPlan, hr, hs, hf]

theorem triggerPlan_frame {s : State} {f : StreamFrame} (hr : triggerReady s = true) (hs : s.csq.state = .run)
    (hf : s.csq.frame = some f) : triggerPlan s = secondTrigger f s := by
  simp [triggerPlan, hr, hs, hf]

theorem triggerPlan_still {s : State} {a : StillTrack} (hr : triggerReady s = true) (hs : s.csq.state = .still)
    (ha : s.csq.active = some a) : triggerPlan s = stillTrigger a s := by
  simp [triggerPlan, hr, hs, ha]

theorem boundaryTrigger_first {s : State} {req : Recipe} {id : LinId} (hi : s.csq.intervalTimer = none)
    (hw : s.csq.switchTarget = none) (hst : stillCanStart s = false)
    (hd : s.phc.darkEvery = 0 ∨ s.csq.darkCounter < s.phc.darkEvery) (hc : s.lpc.cutoff = false)
    (hp : s.csq.paced = true → s.ofq.streamWaiting = false) (hq : s.csq.requestedRecipe = some req)
    (he : s.phc.emptyLin = some id) : boundaryTrigger s = some (.first id) := by
  have hdark : darkDue s = false := by
    simp only [darkDue, Bool.and_eq_false_iff, decide_eq_false_iff_not]
    omega
  have hpaced : (s.csq.paced && s.ofq.streamWaiting) = false := by
    cases h : s.csq.paced <;> simp_all
  simp [boundaryTrigger, hi, hw, hst, hdark, hc, hpaced, hq, he]

/-- The record of a stream exposure of bank `b` in role `role` (R86, R97). -/
def streamRecord (b : Bank) (role : Role) (id : LinId) (s : State) : ExposureRecord :=
  triggeredRecord (.lit b) .stream (s.lpc.bank b).expo (s.lpc.bank b).level s.phc.black (some (role, id)) s

/-- A stream exposure's trigger, block by block (R4, R29, R66, R86, R97). -/
theorem streamExposure_spec (b : Bank) (role : Role) (id : LinId) (s : State) :
    let t := streamExposure b role id s
    t.csq = { s.csq with exposure := some (streamRecord b role id s), nextExposure := s.csq.nextExposure + 1 } ∧
    t.phc = s.phc.setLin id ((s.phc.lin id).assign role) ∧ t.pxr = s.pxr.trigger (s.lpc.bank b).expo ∧
    t.mtu = s.mtu.trigger s.csq.nextExposure (.lit b) .stream ∧
    t.lpc = s.lpc.light b s.csq.nextExposure (s.lpc.bank b).level (s.lpc.bank b).expo true := by
  refine ⟨?_, rfl, rfl, rfl, rfl⟩
  cases id <;> exact startExposure_csq _ _ _ _ _ _ _

/-- Settles O14: the trigger is the start of an exposure of the frame's first bank into the first EMPTY buffer. -/
theorem streamTriggerOpensFrame : Obligations.StreamTriggerOpensFrame := by
  intro s k req id hup hx hk hrec hs hf hi hw hst hd hc hp hq he eff b limit
  have hready := (triggerReady_iff s).2 ⟨hup, hx, ⟨k, hk⟩, hrec⟩
  have hplan : triggerPlan s = some (.first id) := by
    rw [triggerPlan_boundary hready hs hf]
    exact boundaryTrigger_first hi hw hst hd hc hp hq he
  let role : Role := if eff = .fuse then .first else .single
  let frame : StreamFrame := { recipe := eff, degraded := decide (eff ≠ req), buffer := id, parts := [] }
  let u := restartInterval (s.setCsq { s.csq with frame := some frame })
  have ht : carryTrigger (.first id) s = streamExposure b role id u := by
    have hr : effectiveRecipe (s.csq.requestedRecipe.getD .flood) s.pfs.ws.content.beam.isSome =
        (eff, decide (eff ≠ req)) := by rw [hq]; exact effectiveRecipe_eq _ _
    simp only [carryTrigger, hr, firstBank_eq]
    rfl
  obtain ⟨hcsq, hphc, hpxr, hmtu, hlpc⟩ := streamExposure_spec b role id u
  obtain ⟨htimer, -, -, -, -, -, -, -, hidle, hskip⟩ := receiverTriggered_of (t := streamExposure b role id u) hpxr
  refine ⟨_, streamRecord b role id u, (exec_trigger hplan).trans (congrArg _ ht), by rw [hcsq]; rfl, by rw [hcsq]; rfl,
    by rw [hcsq]; rfl, by rw [hcsq], rfl, rfl, rfl, rfl, rfl, rfl, rfl, rfl, rfl, rfl, rfl, rfl, rfl, ?_,
    htimer, by rw [hpxr]; rfl, by rw [hpxr]; rfl, by rw [hpxr]; rfl, hidle, hskip, ?_, ?_, measurementOpened_of hmtu,
    marksCleared_of hmtu, receiverTriggered_of hpxr⟩
  · rw [hphc]; simp [LinearBuffer.assign]
  · rw [hlpc, Lamps.light_lit]; rfl
  · rw [hlpc, Lamps.bank_light_stream, if_pos rfl]; rfl

theorem triggerPlan_second {s : State} {f : StreamFrame} (hr : triggerReady s = true) (hs : s.csq.state = .run)
    (hf : s.csq.frame = some f) (hc : s.lpc.cutoff = false) (hh : (s.phc.lin f.buffer).content = .half) :
    triggerPlan s = some .second := by
  rw [triggerPlan_frame hr hs hf]
  exact if_pos ⟨hc, hh⟩

theorem triggerPlan_stillNext {s : State} {a : StillTrack} {b : Bank} (hr : triggerReady s = true)
    (hs : s.csq.state = .still) (ha : s.csq.active = some a) (hb : a.nextBank = some b) (hc : s.lpc.cutoff = false)
    (ho : (s.phc.acc b).state = .opened) : triggerPlan s = some (.still b) := by
  rw [triggerPlan_still hr hs ha]
  simp [stillTrigger, hb, hc, ho]

/-- The frozen level and time of the active still's bank (R88). -/
def StillTrack.frozen (a : StillTrack) : Bank → Nat × Nat
  | .flood => (a.levelF, a.expoF)
  | .beam => (a.levelB, a.expoB)

theorem carryTrigger_still {s : State} {a : StillTrack} (b : Bank) (ha : s.csq.active = some a) :
    carryTrigger (.still b) s = startExposure (.lit b) (.still a.req.tag) (a.frozen b).2 (a.frozen b).1 a.black none
      (s.setPhc (s.phc.setAcc b (s.phc.acc b).receive)) := by
  cases b <;> simp only [carryTrigger, ha] <;> rfl

/-- The order of a still's exposures (R109). -/
theorem nextBank_order (a : StillTrack) :
    (a.req.recipe = .flood → a.nextBank = if a.doneF < a.req.depth then some .flood else none) ∧
    (a.req.recipe = .beam → a.nextBank = if a.doneB < a.req.depth then some .beam else none) ∧
    (a.req.recipe = .fuse → a.doneF = a.doneB → a.nextBank = if a.doneF < a.req.depth then some .flood else none) ∧
    (a.req.recipe = .fuse → a.doneF = a.doneB + 1 → a.nextBank = some .beam) := by
  refine ⟨fun h => ?_, fun h => ?_, fun h hd => ?_, fun h hd => ?_⟩ <;> simp only [StillTrack.nextBank, h]
  · rw [if_neg (by omega)]
  · exact if_pos (by omega)

/-- Settles O16: the order of a still's exposures, and the start of the exposure that each untimed trigger makes. -/
theorem secondAndStillTriggers : Obligations.SecondAndStillTriggers := by
  refine ⟨nextBank_order, fun s k hup hx hk hrec hc => ?_⟩
  have hready := (triggerReady_iff s).2 ⟨hup, hx, ⟨k, hk⟩, hrec⟩
  refine ⟨fun f hs hf hh => ?_, fun a b hs ha hb ho => ?_⟩
  · have ht : carryTrigger .second s = streamExposure .beam .second f.buffer s := by simp only [carryTrigger, hf]
    obtain ⟨hcsq, hphc, hpxr, hmtu, hlpc⟩ := streamExposure_spec .beam .second f.buffer s
    have hbank := Lamps.bank_light_stream s.lpc .beam
    refine ⟨_, streamRecord .beam .second f.buffer s,
      (exec_trigger (triggerPlan_second hready hs hf hc hh)).trans (congrArg _ ht), by rw [hcsq], rfl, rfl, rfl, rfl, rfl,
      rfl, rfl, ?_, ?_, by rw [hcsq]; exact hf, rfl, rfl, rfl, rfl, rfl, rfl, ?_, ?_, ?_, measurementOpened_of hmtu,
      marksCleared_of hmtu, receiverTriggered_of hpxr, by rw [hcsq], by rw [hcsq]⟩
    · rw [hphc]; simp [LinearBuffer.assign]
    · rw [hphc]; simp [LinearBuffer.assign]
    · rw [hlpc, Lamps.light_lit]; rfl
    · rw [hlpc]; exact hbank .beam _ _ _
    · rw [hlpc]; exact hbank .flood _ _ _
  · let u := s.setPhc (s.phc.setAcc b (s.phc.acc b).receive)
    let r := triggeredRecord (.lit b) (.still a.req.tag) (a.frozen b).2 (a.frozen b).1 a.black none u
    let t := startExposure (.lit b) (.still a.req.tag) (a.frozen b).2 (a.frozen b).1 a.black none u
    have ht : carryTrigger (.still b) s = t := carryTrigger_still b ha
    have hcsq : t.csq = { s.csq with exposure := some r, nextExposure := s.csq.nextExposure + 1 } := startExposure_csq ..
    have hlpc : t.lpc = s.lpc.light b s.csq.nextExposure (a.frozen b).1 (a.frozen b).2 false := rfl
    have hphc : t.phc = s.phc.setAcc b (s.phc.acc b).receive := rfl
    have hmtu : t.mtu = s.mtu.trigger s.csq.nextExposure (.lit b) (.still a.req.tag) := rfl
    refine ⟨t, r, (exec_trigger (triggerPlan_stillNext hready hs ha hb hc ho)).trans (congrArg _ ht), by rw [hcsq], rfl,
      rfl, rfl, rfl, by cases b <;> rfl, by cases b <;> rfl, rfl, by simp [hphc, Accumulator.receive],
      by simp [hphc, Accumulator.receive], by rw [hlpc]; rfl, by rw [hlpc]; rfl, by rw [hcsq]; exact ha,
      by cases b <;> rfl, rfl, rfl, rfl, rfl, rfl, ?_, by rw [hmtu]; rfl, marksCleared_of hmtu, receiverTriggered_of rfl,
      by rw [hcsq], by rw [hcsq]⟩
    rw [hlpc, Lamps.light_lit]
    rfl

end Sys2Proof.Machine
end

section
namespace Sys2Proof.Machine

/-! ## The end of start-up (R95, R146) -/

theorem finRange_find?_some {n : Nat} {p : Fin n → Bool} {i : Fin n} :
    (List.finRange n).find? p = some i ↔ p i = true ∧ ∀ j, j < i → ¬p j = true := by
  rw [List.find?_eq_some_iff_getElem]
  refine and_congr_right fun _ => ⟨fun ⟨m, hm, he, hb⟩ j hj => ?_, fun hb => ⟨i, by simp, by simp, fun j hj => ?_⟩⟩
  · have hi : (i : Nat) = m := by rw [← he]; simp
    simpa using hb j (by omega)
  · simpa using hb ⟨j, by omega⟩ hj

/-- Slot `i` is VALID and bound to the head code `k` (R146). -/
def Store.boundTo (p : Store) (k : Fin 12) (i : Fin 8) : Prop :=
  p.directory[i].state = .valid ∧ ∃ h, p.directory[i].header = some h ∧ h.head = some k.val

theorem boundSlot_spec (p : Store) (k : Fin 12) :
    (∀ i, p.boundSlot k = some i ↔ p.boundTo k i ∧ ∀ j, j < i → ¬p.boundTo k j) ∧
      (p.boundSlot k = none ↔ ∀ i, ¬p.boundTo k i) := by
  have hb : ∀ i, (decide (p.directory[i].state = .valid) && p.directory[i].header.any fun h => h.head = some k.val) =
      true ↔ p.boundTo k i := by
    intro i
    simp [Store.boundTo, Option.any_eq_true]
  have e : p.boundSlot k = (List.finRange 8).find? fun i =>
      decide (p.directory[i].state = .valid) && p.directory[i].header.any fun h => h.head = some k.val := rfl
  refine ⟨fun i => ?_, ?_⟩
  · rw [e, finRange_find?_some, hb]
    simp only [hb]
  · rw [e, List.find?_eq_none]
    simp only [List.mem_finRange, true_implies, hb]

theorem boundSlot_congr {p q : Store} (h : p.directory = q.directory) (k : Fin 12) : p.boundSlot k = q.boundSlot k := by
  simp only [Store.boundSlot, h]

/-- What the later of the scan and the adoption does in `u`, with the state `c` adopted: the load of the lowest bound slot begins,
or start-up ends without one (R95). -/
structure StartUpChosen (c : Classification) (u t : State) : Prop where
  chosen : t.csq.loadChosen = true
  directory : t.pfs.directory = u.pfs.directory
  load : ∀ k i, c = .head k → u.pfs.boundSlot k = some i →
    t.csq.state = .starting ∧ t.pxr = u.pxr ∧ t.pfs = { u.pfs with op := some (.load i .verify) }
  ends : (∀ k, c = .head k → u.pfs.boundSlot k = none) → t.pfs = u.pfs ∧ StartUpEnds u t

theorem endStartUp_loadChosen (s : State) : (endStartUp s).csq.loadChosen = s.csq.loadChosen := by
  unfold endStartUp
  dsimp only
  split <;> rfl

theorem beginLoad_valid {i : Fin 8} {s : State} (h : s.pfs.directory[i].state = .valid) :
    beginLoad i s = s.setPfs { s.pfs with op := some (.load i .verify) } := if_pos h

theorem startUpProgress_waits {s : State} (h : s.csq.scanDone = false ∨ s.hpb.adopted = none) : startUpProgress s = s := by
  refine if_neg fun ⟨_, hd, _, ha⟩ => ?_
  rcases h with h | h <;> simp_all

theorem startUpProgress_chosen {s : State} {c : Classification} (hs : s.csq.state = .starting)
    (hd : s.csq.scanDone = true) (hl : s.csq.loadChosen = false) (ha : s.hpb.adopted = some c) :
    StartUpChosen c s (startUpProgress s) := by
  let u := s.setCsq { s.csq with loadChosen := true }
  have hgo : startUpProgress s = match (adoptedCode u).bind u.pfs.boundSlot with
      | some i => beginLoad i u
      | none => endStartUp u := if_pos ⟨hs, hd, hl, by simp [ha]⟩
  have hcode : ∀ k, adoptedCode u = some k ↔ c = .head k := by
    intro k
    simp only [adoptedCode, u, State.setCsq_hpb, ha]
    cases c <;> simp
  cases hb : (adoptedCode u).bind u.pfs.boundSlot with
  | some i =>
    obtain ⟨k, hk, hi⟩ := Option.bind_eq_some_iff.1 hb
    have hi : s.pfs.boundSlot k = some i := hi
    obtain ⟨⟨hv, -⟩, -⟩ := ((boundSlot_spec s.pfs k).1 i).1 hi
    have ht : startUpProgress s = u.setPfs { s.pfs with op := some (.load i .verify) } := by
      rw [hgo, hb]
      exact beginLoad_valid hv
    rw [ht]
    refine ⟨rfl, rfl, fun k' i' hc hi' => ?_, fun hn => ?_⟩
    · obtain rfl : k = k' := by simpa [hk] using (hcode k').2 hc
      obtain rfl : i = i' := by simpa [hi] using hi'
      exact ⟨hs, rfl, rfl⟩
    · simp [hn k ((hcode k).1 hk)] at hi
  | none =>
    have ht : startUpProgress s = endStartUp u := by rw [hgo, hb]
    rw [ht]
    refine ⟨endStartUp_loadChosen u, by simp [u], fun k i hc hi => ?_, fun _ => ⟨by simp [u], ?_⟩⟩
    · have hi : u.pfs.boundSlot k = some i := hi
      simp [(hcode k).2 hc, hi] at hb
    · simpa [StartUpEnds, u] using endStartUp_ends u

/-- A start-up choice seen from a state that agrees with the one it was made in, and after the link has gone on. -/
theorem StartUpChosen.congr {c : Classification} {u u' t : State} (h : StartUpChosen c u t) (hpfs : u'.pfs = u.pfs)
    (hpxr : u'.pxr = u.pxr) (hlpc : u'.lpc = u.lpc) (hreq : u'.csq.streamRequested = u.csq.streamRequested)
    (hrec : u'.csq.requestedRecipe = u.csq.requestedRecipe) (hauto : u'.csq.autostart = u.csq.autostart) :
    StartUpChosen c u' (pump t) := by
  refine ⟨by simpa using h.chosen, by simpa [hpfs] using h.directory, by simpa [hpfs, hpxr] using h.load, fun hn => ?_⟩
  rw [hpfs] at hn
  obtain ⟨h1, h2⟩ := h.ends hn
  refine ⟨by simpa [hpfs] using h1, ?_⟩
  have hc : HaltCauseHolds (pump t) ↔ HaltCauseHolds t := HaltCauseHolds.congr (by simp) (by simp)
  simpa only [StartUpEnds, pump_frame, hc, hpxr, hreq, hrec, hauto, hlpc] using h2

/-! ### The adoption -/

/-- A head change tells the sequencer nothing before the start-up load is chosen (R95). -/
theorem reportHeadChange_starting {s : State} (hs : s.csq.state = .starting) (hl : s.csq.loadChosen = false)
    (last : Option (Fin 12)) (c : Classification) : ∃ d, reportHeadChange last c s = s.setCdu d := by
  unfold reportHeadChange
  split
  · split
    · exact ⟨s.cdu, rfl⟩
    · refine ⟨(s.cdu.raise .headChanged), ?_⟩
      simp [headChangeReported, raise, hs, hl]
  · exact ⟨s.cdu, rfl⟩

/-- An adoption in start-up, before the load is chosen, goes on to start-up's choice in a state that differs only in the probe, the
Condition Unit and the link. -/
theorem adopt_starting {s : State} (hs : s.csq.state = .starting) (hl : s.csq.loadChosen = false) (c : Classification) :
    ∃ u, adopt c s = startUpProgress u ∧ u.csq = s.csq ∧ u.pxr = s.pxr ∧ u.pfs = s.pfs ∧ u.lpc = s.lpc ∧
      u.hpb.adopted = some c := by
  obtain ⟨d, hd⟩ := reportHeadChange_starting (s := s.setHpb (s.hpb.adopt c)) hs hl s.hpb.lastHead c
  let v := report .headPresent (headPresent ((s.setHpb (s.hpb.adopt c)).setCdu d)) ((s.setHpb (s.hpb.adopt c)).setCdu d)
  have hfor : haltFor .headLost v = v := by simp [haltFor, v, hs]
  have hexit : haltExit v = v := by simp [haltExit, v, hs]
  refine ⟨pump v, ?_, by simp [v], by simp [v], by simp [v], by simp [v], by simp [v, Probe.adopt]⟩
  have e : adopt c s = startUpProgress (pump (haltExit
      (if headPresent s && !headPresent v then haltFor .headLost v else v))) := by
    simp only [adopt, hd]
    rfl
  rw [e, hfor, ite_self, hexit]

theorem exec_idConversionDone_adopts {s : State} {r : Nat} {c : Classification} (hv : s.hpb.conv = .convertingId)
    (hr : classify r = c) (hc : s.hpb.candidate = some c) (ha : s.hpb.adopted ≠ some c) :
    ∃ p, exec (.idConversionDone r) s = .next (pump (adopt c (s.setHpb p))) := by
  refine ⟨{ s.hpb.release with latestId := some r, latestClass := some (classify r) }, ?_⟩
  have hcand : s.hpb.release.candidate = some c := by unfold Probe.release; split <;> exact hc
  have hadopt : s.hpb.release.adopted ≠ some c := by unfold Probe.release; split <;> exact ha
  simp [exec, execIdConversionDone, hv, hr, useClassification, hcand, hadopt]

/-- Settles O32: the lookup, the scan's end, and the adoption. -/
theorem startUpEndsAfterScanAndAdoption : Obligations.StartUpEndsAfterScanAndAdoption := by
  refine ⟨boundSlot_spec, fun s hs hl ho => ⟨fun hd => ?_, fun r c hv hr hc ha => ?_⟩⟩
  · let u := (s.setPfs { s.pfs with directory := scanDirectory s.pfs.slots }).setCsq { s.csq with scanDone := true }
    have he : exec .startupScanDone s = .next (pump (startUpProgress u)) := by
      simp only [exec, execStartupScanDone]
      exact if_pos ⟨hs, hd⟩
    refine ⟨_, he, by simp [u], fun hn => ?_, fun c hc => ?_⟩
    · rw [startUpProgress_waits (s := u) (.inr hn)]
      simpa [u, ho] using ⟨hs, hl⟩
    · obtain ⟨hch, hdir, hload, hend⟩ :=
        (startUpProgress_chosen (s := u) hs rfl hl hc).congr (u' := u) rfl rfl rfl rfl rfl rfl
      have hb : ∀ k, (pump (startUpProgress u)).pfs.boundSlot k = u.pfs.boundSlot k := fun k => boundSlot_congr hdir k
      simp only [hb]
      refine ⟨hch, fun k i hk hi => ?_, fun hn => ?_⟩
      · obtain ⟨h1, h2, h3⟩ := hload k i hk hi
        exact ⟨h1, h2, by rw [h3]⟩
      · obtain ⟨h1, h2⟩ := hend hn
        exact ⟨by rw [h1]; exact ho, h2⟩
  · obtain ⟨p, he⟩ := exec_idConversionDone_adopts hv hr hc ha
    obtain ⟨u, hu, hcsq, hpxr, hpfs, hlpc, hadopt⟩ := adopt_starting (s := s.setHpb p) hs hl c
    rw [hu] at he
    refine ⟨_, he, by simpa using hadopt, fun hd => ?_, fun hd => ?_⟩
    · have hw : startUpProgress u = u := startUpProgress_waits (.inl (by rw [hcsq]; exact hd))
      simp [hw, hcsq, hpxr, hpfs, hs, hl]
    · have h := startUpProgress_chosen (s := u) (by rw [hcsq]; exact hs) (by rw [hcsq]; exact hd) (by rw [hcsq]; exact hl)
        hadopt
      obtain ⟨h1, -, h2, h3⟩ := h.congr (u' := s) hpfs.symm hpxr.symm hlpc.symm (by rw [hcsq]; rfl) (by rw [hcsq]; rfl)
        (by rw [hcsq]; rfl)
      exact ⟨h1, h2, h3⟩

end Sys2Proof.Machine
end

section
namespace Sys2Proof.Machine

/-! ## PSET (R181) -/

theorem Param.ofCode_code (p : Param) : Param.ofCode (byte p.code) = some p := by cases p <;> rfl

theorem fromLe32s_word32Bytes (v : Word32) : fromLe32s (word32Bytes v) = v.toInt := by
  rw [fromLe32s, fromLe_word32Bytes, BitVec.ofNat_toNat, BitVec.setWidth_eq]

theorem toInt_ne {v w : Word32} (h : v ≠ w) : v.toInt ≠ w.toInt := fun e => h (BitVec.eq_of_toInt_eq e)

/-- The clamp of a magnitude as a number. -/
theorem clampNat_cast (lo hi : Nat) (v : Int) : (clampNat lo hi v : Int) = clampInt lo hi v := by
  unfold clampNat clampInt
  split
  · simp
  · split <;> omega

/-- ALIGN and DEPTH in a quiescent part are settings like any other (R8). -/
theorem storeQuiescent_open {α : Type} {choice : Option α} {v : Int} {put : α → State → State} {s : State}
    (h : quiescent s = true) : storeQuiescent choice v put s = storeChoice choice v put s :=
  if_neg fun ⟨_, hn⟩ => by simp [h] at hn

/-- With a value of its set, ALIGN or DEPTH is refused with BAD_STATE unless the part is quiescent (R8). -/
theorem storeQuiescent_busy {α : Type} {choice : Option α} {v : Int} {put : α → State → State} {s : State}
    (h : quiescent s = false) (hc : choice.isSome = true) : storeQuiescent choice v put s = refuse .badState s :=
  if_pos ⟨hc, h⟩

/-- Any other value is refused in every state (R8). -/
theorem storeQuiescent_none {α : Type} {choice : Option α} {v : Int} {put : α → State → State} {s : State}
    (h : choice = none) : storeQuiescent choice v put s = refuse .badParam s := by
  subst h
  exact if_neg fun ⟨hs, _⟩ => by simp at hs

/-- A PSET with a value of four bytes, of a parameter other than LABEL, in style WRITE, goes to the parameter's owner. -/
theorem psetOwner_word {p : Param} {code bank : Byte} (hc : Param.ofCode code = some p) (hl : p ≠ .label)
    (hb : p.perBank = true → (bankOfByte bank).isSome = true) (v : Word32) (u : State) :
    psetOwner (code :: bank :: 0 :: word32Bytes v) u =
      writeParam p ((bankOfByte bank).getD .flood) .write (word32Bytes v) u := by
  have hw : psetWidthOk (byte p.code) (word32Bytes v).length = true := by
    simp [psetWidthOk, Param.ofCode_code, hl, word32Bytes, le32]
  have hbank : ¬(p.perBank = true ∧ (bankOfByte bank).isNone = true) := fun ⟨h, hn⟩ => by
    have := hb h
    simp_all
  have hstyle : ¬(UpdateStyle.write ≠ .write ∧ p.isMask = false) := fun h => h.1 rfl
  have hof : UpdateStyle.ofByte 0 = some .write := rfl
  simp only [psetOwner, hc, checkPset, hof]
  rw [if_neg hbank, if_neg hstyle, if_pos hw]

theorem lengthOk_psetWord {p : Param} {code : Byte} (hc : Param.ofCode code = some p) (hl : p ≠ .label) (bank : Byte)
    (v : Word32) : lengthOk ⟨0x04, code :: bank :: 0 :: word32Bytes v⟩ = true := by
  simp [lengthOk, psetLengthOk, psetWidthOk, hc, hl, word32Bytes, le32]

section
variable {p : Param} {code bank : Byte} {v : Word32} {s : State}

/-- The answer to a PSET of one number, from what the parameter's owner answers (R176, R181). -/
theorem answers_pset {s' : State} {st : Status} {data : List Byte}
    (hs : Served (.pset (code :: bank :: 0 :: word32Bytes v)) s) (hc : Param.ofCode code = some p) (hl : p ≠ .label)
    (hb : p.perBank = true → (bankOfByte bank).isSome = true)
    (ho : ∀ l, (writeParam p ((bankOfByte bank).getD .flood) .write (word32Bytes v) (s.setCml l)).1 = ⟨st, data⟩ ∧
      outsideLink (writeParam p ((bankOfByte bank).getD .flood) .write (word32Bytes v) (s.setCml l)).2 = outsideLink s') :
    Answers (.pset (code :: bank :: 0 :: word32Bytes v)) 0x04 st data s s' := by
  obtain ⟨⟨q, hq, ht⟩, hup⟩ := hs
  cases hq
  refine ⟨_, rfl, serve_answered (r := ⟨st, data⟩) ht rfl (lengthOk_psetWord hc hl bank v) (.inl hup) fun hold => ?_⟩
  rw [psetOwner_word hc hl hb]
  exact ho _

/-- A PSET that the parameter's owner refuses. -/
theorem answers_pset_refused {st : Status} (hs : Served (.pset (code :: bank :: 0 :: word32Bytes v)) s)
    (hc : Param.ofCode code = some p) (hl : p ≠ .label) (hb : p.perBank = true → (bankOfByte bank).isSome = true)
    (hw : ∀ l, writeParam p ((bankOfByte bank).getD .flood) .write (word32Bytes v) (s.setCml l) =
      refuse st (s.setCml l)) : Answers (.pset (code :: bank :: 0 :: word32Bytes v)) 0x04 st [] s s :=
  answers_pset hs hc hl hb fun l => by rw [hw]; exact ⟨rfl, rfl⟩

/-- A magnitude is clamped, stored and answered with the stored value. -/
theorem answersStored_pset {lo hi : Nat} {put : Nat → State → State}
    (hs : Served (.pset (code :: bank :: 0 :: word32Bytes v)) s) (hc : Param.ofCode code = some p) (hl : p ≠ .label)
    (hb : p.perBank = true → (bankOfByte bank).isSome = true)
    (hw : ∀ l, writeParam p ((bankOfByte bank).getD .flood) .write (word32Bytes v) (s.setCml l) =
      storeClamped lo hi (fromLe32s (word32Bytes v)) put (s.setCml l))
    (hp : ∀ n l, outsideLink (put n (s.setCml l)) = outsideLink (put n s)) :
    AnswersStored (.pset (code :: bank :: 0 :: word32Bytes v)) v.toInt (clampNat lo hi v.toInt) s
      (put (clampNat lo hi v.toInt) s) := by
  refine answers_pset hs hc hl hb fun l => ?_
  rw [hw, fromLe32s_word32Bytes, storeClamped, answerStored, clampNat_cast]
  exact ⟨rfl, hp _ l⟩

/-- A value of a set is stored and answered as it is; any other is refused. -/
theorem answers_pset_choice {α : Type} {choice : Option α} {put : α → State → State}
    (hs : Served (.pset (code :: bank :: 0 :: word32Bytes v)) s) (hc : Param.ofCode code = some p) (hl : p ≠ .label)
    (hb : p.perBank = true → (bankOfByte bank).isSome = true)
    (hw : ∀ l, writeParam p ((bankOfByte bank).getD .flood) .write (word32Bytes v) (s.setCml l) =
      storeChoice choice (fromLe32s (word32Bytes v)) put (s.setCml l))
    (hp : ∀ a l, outsideLink (put a (s.setCml l)) = outsideLink (put a s)) :
    (∀ a, choice = some a →
      Answers (.pset (code :: bank :: 0 :: word32Bytes v)) 0x04 .ok (le32s v.toInt) s (put a s)) ∧
    (choice = none → Answers (.pset (code :: bank :: 0 :: word32Bytes v)) 0x04 .badParam [] s s) := by
  refine ⟨fun a ha => answers_pset hs hc hl hb fun l => ?_, fun ha => answers_pset hs hc hl hb fun l => ?_⟩
  · rw [hw, ha, fromLe32s_word32Bytes]
    exact ⟨rfl, hp a l⟩
  · rw [hw, ha]
    exact ⟨rfl, rfl⟩

/-- The answers to a PSET of a setting coded 0 and 1. -/
theorem answers_pset_twoWay {α : Type} {zero one : α} {put : α → State → State}
    (hs : Served (.pset (code :: bank :: 0 :: word32Bytes v)) s) (hc : Param.ofCode code = some p) (hl : p ≠ .label)
    (hb : p.perBank = true → (bankOfByte bank).isSome = true)
    (hw : ∀ l, writeParam p ((bankOfByte bank).getD .flood) .write (word32Bytes v) (s.setCml l) =
      storeChoice (twoWay zero one (fromLe32s (word32Bytes v))) (fromLe32s (word32Bytes v)) put (s.setCml l))
    (hp : ∀ a l, outsideLink (put a (s.setCml l)) = outsideLink (put a s)) :
    (v = 0 → Answers (.pset (code :: bank :: 0 :: word32Bytes v)) 0x04 .ok [0, 0, 0, 0] s (put zero s)) ∧
    (v = 1 → Answers (.pset (code :: bank :: 0 :: word32Bytes v)) 0x04 .ok [1, 0, 0, 0] s (put one s)) ∧
    (v ≠ 0 → v ≠ 1 → Answers (.pset (code :: bank :: 0 :: word32Bytes v)) 0x04 .badParam [] s s) := by
  obtain ⟨hsome, hnone⟩ := answers_pset_choice hs hc hl hb hw hp
  rw [fromLe32s_word32Bytes] at hsome hnone
  refine ⟨?_, ?_, fun h0 h1 => hnone ?_⟩
  · rintro rfl
    exact hsome zero rfl
  · rintro rfl
    exact hsome one rfl
  · exact (if_neg (toInt_ne h0)).trans (if_neg (toInt_ne h1))

end

/-! ### The checks that come before the owner's -/

/-- The first two checks of R181: a style above 2, a bank byte above 1 for a per-bank parameter, and SET or CLEAR for a parameter
that is no mask are refused. -/
theorem checkPset_refuses {p : Param} {bank style : Byte}
    (h : 2 < style.toNat ∨ (p.perBank = true ∧ 1 < bank.toNat) ∨ (p ≠ .riseEn ∧ p ≠ .fallEn ∧ 0 < style.toNat))
    (value : List Byte) (u : State) : checkPset p bank style value u = refuse .badParam u := by
  have hbank : 1 < bank.toNat → bankOfByte bank = none := fun hb => by
    unfold bankOfByte
    split
    · omega
    · omega
    · rfl
  have hstyle : ∀ st, UpdateStyle.ofByte style = some st → style.toNat ≤ 2 ∧ (0 < style.toNat → st ≠ .write) := by
    intro st hst
    unfold UpdateStyle.ofByte at hst
    split at hst <;> cases hst <;> simp_all
  have hmask : p ≠ .riseEn → p ≠ .fallEn → p.isMask = false := by cases p <;> simp [Param.isMask]
  unfold checkPset
  split
  · rename_i st hst
    obtain ⟨hle, hst⟩ := hstyle st hst
    split
    · rfl
    · rename_i hnb
      split
      · rfl
      · rename_i hns
        exfalso
        rcases h with h | ⟨hb, h⟩ | ⟨hr, hf, h⟩
        · omega
        · exact hnb ⟨hb, by simp [hbank h]⟩
        · exact hns ⟨hst h, hmask hr hf⟩
  · rfl

/-- The checks of R181 that refuse a PSET body before its parameter's owner sees it. -/
def PsetRefused (code bank style : Byte) : Prop :=
  Param.ofCode code = none ∨ 2 < style.toNat ∨ ∃ p, Param.ofCode code = some p ∧
    ((p.perBank = true ∧ 1 < bank.toNat) ∨ (p ≠ .riseEn ∧ p ≠ .fallEn ∧ 0 < style.toNat))

theorem psetOwner_refuses {code bank style : Byte} (h : PsetRefused code bank style) (value : List Byte) (u : State) :
    psetOwner (code :: bank :: style :: value) u = refuse .badParam u := by
  cases hc : Param.ofCode code with
  | none => simp only [psetOwner, hc]
  | some p =>
    simp only [psetOwner, hc]
    refine checkPset_refuses ?_ value u
    rcases h with h | h | ⟨q, hq, h⟩
    · simp [hc] at h
    · exact .inl h
    · obtain rfl : p = q := by simpa [hc] using hq
      exact .inr h

/-- A PSET of one parameter is the PSET of its body. -/
theorem servePset_eq (p : Param) (bank style : Byte) (value : List Byte) (s : State) :
    servePset p bank style value s =
      serve ⟨0x04, byte p.code :: bank :: style :: value⟩ (psetOwner (byte p.code :: bank :: style :: value)) s := by
  have ho : psetOwner (byte p.code :: bank :: style :: value) = checkPset p bank style value := by
    funext u
    simp only [psetOwner, Param.ofCode_code]
  rw [ho]
  rfl

/-- Every PSET command serves its body. -/
theorem exec_pset {i : Instr} {body : List Byte} (hw : i.wellFormed = true) (hq : requestOf i = some ⟨0x04, body⟩)
    (s : State) : exec i s = .next (serve ⟨0x04, body⟩ (psetOwner body) s) := by
  cases i with
  | pset b => cases hq; rfl
  | psetLevel _ _ _ | psetMin _ _ _ | psetMax _ _ _ | psetExpo _ _ _ | psetMode _ _ _ | psetSteer _ _ _
  | psetCeiling _ _ _ | psetDerateStart _ _ _ | psetCutoff _ _ _ | psetSendMode _ _ _ | psetRiseEn _ _ _
  | psetFallEn _ _ _ | psetNoticeEn _ _ _ | psetOutWidth _ _ _ | psetOutHeight _ _ _ | psetBankSet _ _ _
  | psetHasTone _ _ _ | psetProfileId _ _ _ | psetHeadBind _ _ _ | psetLabel _ _ _ =>
    cases hq
    exact congrArg Host.Outcome.next (servePset_eq _ _ _ _ s)
  | badKind kind b =>
    cases hq
    simp [Instr.wellFormed, knownKind, requestKinds] at hw
  | _ => simp [requestOf] at hq

/-- Settles O53: the plain parameters one by one, and the checks common to every PSET. -/
theorem psetPlainParameters : Obligations.PsetPlainParameters := by
  refine ⟨fun s bank v => ?_, fun i s code bank style value hw hq hl hs h => ?_⟩
  · have plain : ∀ {p : Param}, p.perBank = false → p.perBank = true → (bankOfByte bank).isSome = true := by
      intro p h h'
      simp [h] at h'
    refine ⟨fun hs => ?_, fun hs => ?_, fun hs => ?_, fun hs => ?_, fun hs => ?_, fun hs => ?_, fun hs => ?_, fun hs => ?_,
      fun hs => ?_, fun hm hs => ?_, fun hm hs => ?_, fun b hb hs => ?_, fun hs => ?_, fun hs => ?_, fun hs => ?_, fun hs => ?_,
      fun hs => ?_, fun hq hs => ?_, fun hq hs => ?_, fun hq => ⟨fun hv hs => ?_, fun hv hs => ?_, fun h0 h1 hs => ?_,
      fun h0 h1 hs => ?_⟩⟩
    · exact answersStored_pset (p := .readoutTimeout) (put := fun n s => s.setPxr { s.pxr with readoutTimeout := n })
        hs rfl (by decide) (plain rfl) (fun _ => rfl) fun _ _ => rfl
    · exact answersStored_pset (p := .patchLimit) (put := fun n s => s.setPxr { s.pxr with patchLimit := n })
        hs rfl (by decide) (plain rfl) (fun _ => rfl) fun _ _ => rfl
    · exact answersStored_pset (p := .darkEvery) (put := fun n s => s.setPhc { s.phc with darkEvery := n })
        hs rfl (by decide) (plain rfl) (fun _ => rfl) fun _ _ => rfl
    · exact answersStored_pset (p := .clipLevel) (put := fun n s => s.setMtu { s.mtu with clipLevel := n })
        hs rfl (by decide) (plain rfl) (fun _ => rfl) fun _ _ => rfl
    · exact answersStored_pset (p := .fill) (put := fun n s => s.setRme { s.rme with fill := n })
        hs rfl (by decide) (plain rfl) (fun _ => rfl) fun _ _ => rfl
    · exact answersStored_pset (p := .deadband) (put := fun n s => s.setLpc { s.lpc with deadband := n })
        hs rfl (by decide) (plain rfl) (fun _ => rfl) fun _ _ => rfl
    · exact answersStored_pset (p := .interval) (put := fun n s => s.setCsq { s.csq with interval := n })
        hs rfl (by decide) (plain rfl) (fun _ => rfl) fun _ _ => rfl
    · exact answersStored_pset (p := .sendPeriod) (put := fun n s => s.setOfq { s.ofq with sendPeriod := n })
        hs rfl (by decide) (plain rfl) (fun _ => rfl) fun _ _ => rfl
    · exact answersStored_pset (p := .probePeriod) (put := fun n s => s.setHpb { s.hpb with probePeriod := n })
        hs rfl (by decide) (plain rfl) (fun _ => rfl) fun _ _ => rfl
    · have hm : ∀ l, (s.setCml l).phc.blackMode ≠ .auto := fun l h => by
        have h : s.phc.blackMode = .auto := h
        simp [hm] at h
      exact answersStored_pset (p := .blackLevel) (put := fun n s => s.setPhc { s.phc with black := n })
        hs rfl (by decide) (plain rfl)
        (fun l => if_neg (hm l)) fun _ _ => rfl
    · exact answers_pset_refused (p := .blackLevel) hs rfl (by decide) (plain rfl) fun _ => if_pos hm
    · have hbank : bankOfByte bank = some b := by cases b <;> simp [hb, bankCode, byte, bankOfByte]
      exact answersStored_pset (p := .target)
        (put := fun n s => s.setLpc (s.lpc.setBank b { s.lpc.bank b with target := n })) hs rfl (by decide)
        (fun _ => by rw [hbank]; rfl) (fun _ => by rw [hbank]; rfl) fun _ _ => rfl
    · exact answers_pset_twoWay (p := .blackMode) (put := fun m s => s.setPhc { s.phc with blackMode := m })
        hs rfl (by decide) (plain rfl) (fun _ => rfl) fun _ _ => rfl
    · exact answers_pset_twoWay (p := .paced) (put := fun on s => s.setCsq { s.csq with paced := on })
        hs rfl (by decide) (plain rfl) (fun _ => rfl) fun _ _ => rfl
    · exact answers_pset_twoWay (p := .autoswitch) (put := fun on s => s.setCsq { s.csq with autoswitch := on })
        hs rfl (by decide) (plain rfl) (fun _ => rfl) fun _ _ => rfl
    · exact answers_pset_twoWay (p := .policy) (put := fun p s => s.setOfq { s.ofq with policy := p })
        hs rfl (by decide) (plain rfl) (fun _ => rfl) fun _ _ => rfl
    · exact answers_pset_twoWay (p := .streamFormat) (put := fun f s => s.setOfq { s.ofq with streamFormat := f })
        hs rfl (by decide) (plain rfl) (fun _ => rfl) fun _ _ => rfl
    · exact answers_pset_twoWay (p := .align) (put := fun a s => s.setPxr { s.pxr with align := a }) hs rfl
        (by decide) (plain rfl) (fun _ => storeQuiescent_open hq) fun _ _ => rfl
    · obtain ⟨hsome, hnone⟩ := answers_pset_choice (p := .depth)
        (put := fun d s => s.setPxr { s.pxr with depth := d }) hs rfl (by decide) (plain rfl)
        (fun _ => storeQuiescent_open hq) fun _ _ => rfl
      rw [fromLe32s_word32Bytes] at hsome hnone
      refine ⟨?_, ?_, fun h12 h10 => hnone ((if_neg (toInt_ne h12)).trans (if_neg (toInt_ne h10)))⟩
      · rintro rfl
        exact hsome .twelve rfl
      · rintro rfl
        exact hsome .ten rfl
    · refine answers_pset_refused (p := .align) hs rfl (by decide) (plain rfl) fun l => storeQuiescent_busy hq ?_
      rw [fromLe32s_word32Bytes]
      rcases hv with rfl | rfl <;> rfl
    · refine answers_pset_refused (p := .depth) hs rfl (by decide) (plain rfl) fun l => storeQuiescent_busy hq ?_
      rw [fromLe32s_word32Bytes]
      rcases hv with rfl | rfl <;> rfl
    · refine answers_pset_refused (p := .align) hs rfl (by decide) (plain rfl) fun l => storeQuiescent_none ?_
      rw [fromLe32s_word32Bytes]
      exact (if_neg (toInt_ne h0)).trans (if_neg (toInt_ne h1))
    · refine answers_pset_refused (p := .depth) hs rfl (by decide) (plain rfl) fun l => storeQuiescent_none ?_
      rw [fromLe32s_word32Bytes]
      exact (if_neg (toInt_ne h0)).trans (if_neg (toInt_ne h1))
  · obtain ⟨⟨q, hq', ht⟩, hup⟩ := hs
    rw [hq] at hq'
    cases hq'
    refine ⟨_, exec_pset hw hq s, serve_answered (r := ⟨.badParam, []⟩) ht rfl hl (.inl hup) fun hold => ?_⟩
    rw [psetOwner_refuses h]
    exact ⟨rfl, rfl⟩

end Sys2Proof.Machine
end

section
namespace Sys2Proof.Machine

/-! ## STIL (R107) -/

theorem optionalField_present {α : Type} {present : Bool} {v : Nat} (h : present = true → v ≤ 1) (zero one : α) :
    optionalField present v zero one = some (if present = true ∧ v = 1 then one else zero) := by
  cases present with
  | false => simp [optionalField]
  | true =>
    have hv : v = 0 ∨ v = 1 := by have := h rfl; omega
    rcases hv with rfl | rfl <;> simp [optionalField]

theorem optionalField_refused {α : Type} {present : Bool} {v : Nat} (h : present = true) (hv : 1 < v) (zero one : α) :
    optionalField present v zero one = none := by
  simp [optionalField, h, Nat.ne_of_gt hv, Nat.ne_of_gt (Nat.zero_lt_of_lt hv)]

theorem byte_toNat {n : Nat} (h : n < 256) : (byte n).toNat = n := by
  simp only [byte, BitVec.toNat_ofNat]
  omega

theorem byte_toNat_eq_one (b : Byte) : b.toNat = 1 ↔ b = 1 := by
  rw [← BitVec.toNat_inj]
  rfl

/-- The 15 bytes of a STIL body (R107). -/
def rawStil (tag recipe depth mask geometry photometric format : Byte) (k : Crop) : List Byte :=
  [tag, recipe, depth, mask, geometry, photometric, format] ++ le16 k.x0 ++ le16 k.y0 ++ le16 k.w ++ le16 k.h

/-- A crop whose numbers fit their two bytes. -/
def Crop.fits (k : Crop) : Prop := k.x0 < 65536 ∧ k.y0 < 65536 ∧ k.w < 65536 ∧ k.h < 65536

theorem le16_toNat {n : Nat} (h : n < 65536) : (byte n).toNat + 256 * (byte (n / 256)).toNat = n := by
  simp only [byte, BitVec.toNat_ofNat]
  omega

/-- The still request record that a STIL body carries (R107): an absent field takes its default. -/
def carriedStill (recipe : Recipe) (tag depth mask geometry photometric format : Byte) (k : Crop) : StillRequest :=
  { tag := tag.toNat, recipe, depth := depth.toNat,
    geometry := if mask.getLsbD 0 = true ∧ geometry = 1 then .sensor else .corrected,
    photometric := if mask.getLsbD 1 = true ∧ photometric = 1 then .bypass else .apply,
    format := if mask.getLsbD 2 = true ∧ format = 1 then .linear16 else .toned8,
    crop := if mask.getLsbD 3 = true then some k else none }

section
variable {c : Content} {tag recipe depth mask geometry photometric format : Byte} {k : Crop}

theorem bodyAt_rawStil :
    let body := rawStil tag recipe depth mask geometry photometric format k
    bodyAt body 0 = tag.toNat ∧ bodyAt body 1 = recipe.toNat ∧ bodyAt body 2 = depth.toNat ∧
      bodyAt body 3 = mask.toNat ∧ bodyAt body 4 = geometry.toNat ∧ bodyAt body 5 = photometric.toNat ∧
      bodyAt body 6 = format.toNat := ⟨rfl, rfl, rfl, rfl, rfl, rfl, rfl⟩

theorem bodyCrop_rawStil (hk : k.fits) :
    bodyCrop (rawStil tag recipe depth mask geometry photometric format k) = k := by
  obtain ⟨hx, hy, hw, hh⟩ := hk
  cases k
  simp only [bodyCrop, bodyAt16, Crop.mk.injEq]
  exact ⟨le16_toNat hx, le16_toNat hy, le16_toNat hw, le16_toNat hh⟩

/-- A body with a known recipe and optional fields of two values is read by the remaining checks alone. -/
theorem readStill_eq {r : Recipe} (hk : k.fits) (hr : recipeOf recipe.toNat = some r)
    (hg : mask.getLsbD 0 = true → geometry.toNat ≤ 1) (hp : mask.getLsbD 1 = true → photometric.toNat ≤ 1)
    (hf : mask.getLsbD 2 = true → format.toNat ≤ 1) :
    let q := carriedStill r tag depth mask geometry photometric format k
    readStill c (rawStil tag recipe depth mask geometry photometric format k) =
      if 1 ≤ tag.toNat ∧ mask.toNat < 16 ∧ depthOk depth.toNat ∧ ¬(q.photometric = .bypass ∧ r = .fuse) ∧
          ¬(q.crop.isSome ∧ q.geometry = .sensor) ∧ q.crop.all (cropOk c) then some q else none := by
  obtain ⟨h0, h1, h2, h3, h4, h5, h6⟩ := bodyAt_rawStil (tag := tag) (recipe := recipe) (depth := depth) (mask := mask)
    (geometry := geometry) (photometric := photometric) (format := format) (k := k)
  intro q
  simp only [readStill, bodyCrop_rawStil hk, h0, h1, h2, h3, h4, h5, h6, BitVec.testBit_toNat, hr,
    optionalField_present hg, optionalField_present hp, optionalField_present hf, byte_toNat_eq_one, Option.bind_eq_bind,
    Option.bind_some]
  rfl

theorem recipeOf_eq_some {n : Nat} {r : Recipe} : recipeOf n = some r ↔ n = r.code := by
  constructor
  · intro h
    unfold recipeOf at h
    split at h <;> cases h <;> rfl
  · rintro rfl
    cases r <;> rfl

theorem depthOk_iff {n : Nat} : depthOk n = true ↔ n ∈ [1, 2, 4, 8, 16] := by simp [depthOk, or_assoc]

theorem cropOk_iff {k : Crop} : cropOk c k = true ↔
    ¬(k.x0 % 16 ≠ 0 ∨ k.y0 % 16 ≠ 0 ∨ k.w % 16 ≠ 0 ∨ k.h % 16 ≠ 0 ∨ k.w < 64 ∨ k.h < 64 ∨ c.width < k.x0 + k.w ∨
      c.height < k.y0 + k.h) := by
  simp [cropOk, and_assoc]

theorem readStill_refused (hk : k.fits) (h : stilRefused c tag recipe depth mask geometry photometric format k) :
    readStill c (rawStil tag recipe depth mask geometry photometric format k) = none := by
  obtain ⟨h0, h1, h2, h3, h4, h5, h6⟩ := bodyAt_rawStil (tag := tag) (recipe := recipe) (depth := depth) (mask := mask)
    (geometry := geometry) (photometric := photometric) (format := format) (k := k)
  cases hr : recipeOf recipe.toNat with
  | none => simp only [readStill, h1, hr]; rfl
  | some r =>
    by_cases hg : mask.getLsbD 0 = true ∧ 1 < geometry.toNat
    · simp only [readStill, h1, h3, h4, hr, BitVec.testBit_toNat, optionalField_refused hg.1 hg.2]
      rfl
    have hg' : mask.getLsbD 0 = true → geometry.toNat ≤ 1 := fun hm => by simpa [hm] using hg
    by_cases hp : mask.getLsbD 1 = true ∧ 1 < photometric.toNat
    · simp only [readStill, h1, h3, h4, h5, hr, BitVec.testBit_toNat, optionalField_present hg',
        optionalField_refused hp.1 hp.2]
      rfl
    have hp' : mask.getLsbD 1 = true → photometric.toNat ≤ 1 := fun hm => by simpa [hm] using hp
    by_cases hf : mask.getLsbD 2 = true ∧ 1 < format.toNat
    · simp only [readStill, h1, h3, h4, h5, h6, hr, BitVec.testBit_toNat, optionalField_present hg',
        optionalField_present hp', optionalField_refused hf.1 hf.2]
      rfl
    have hf' : mask.getLsbD 2 = true → format.toNat ≤ 1 := fun hm => by simpa [hm] using hf
    rw [readStill_eq hk hr hg' hp' hf']
    refine if_neg fun ⟨htag, hmask, hdepth, hbypass, hsensor, hcrop⟩ => ?_
    have hcode := recipeOf_eq_some.1 hr
    rcases h with h | h | h | h | h | h | h | h | ⟨hm, hph, hrec⟩ | ⟨hm3, hm0, hgeo⟩ | ⟨hm3, hbad⟩
    · simp [h] at htag
    · omega
    · simp only [h] at hcode
      cases r <;> cases hcode
    · cases r <;> simp only [Recipe.code] at hcode <;> omega
    · exact h (depthOk_iff.1 hdepth)
    · exact hg h
    · exact hp h
    · exact hf h
    · refine hbypass ⟨by simp [carriedStill, hm, hph], ?_⟩
      simp only [hrec] at hcode
      cases r
      · cases hcode
      · cases hcode
      · rfl
    · exact hsensor ⟨by simp [carriedStill, hm3], by simp [carriedStill, hm0, hgeo]⟩
    · have hok : cropOk c k = true := by simpa [carriedStill, hm3] using hcrop
      exact cropOk_iff.1 hok hbad

theorem readStill_accepted {r : Recipe} (hk : k.fits)
    (h : ¬stilRefused c tag (byte r.code) depth mask geometry photometric format k) :
    readStill c (rawStil tag (byte r.code) depth mask geometry photometric format k) =
      some (carriedStill r tag depth mask geometry photometric format k) := by
  have hcode : (byte r.code).toNat = r.code := by cases r <;> rfl
  have hfuse : r = .fuse → byte r.code = 3 := by rintro rfl; rfl
  simp only [stilRefused, not_or] at h
  obtain ⟨htag, hmask, -, -, hdepth, hg, hp, hf, hbypass, hsensor, hcrop⟩ := h
  have hle : ∀ {m : Bool} {n : Nat}, ¬(m = true ∧ 1 < n) → m = true → n ≤ 1 := fun h hm => by simpa [hm] using h
  rw [readStill_eq hk (recipeOf_eq_some.2 hcode) (hle hg) (hle hp) (hle hf)]
  refine if_pos ⟨?_, by omega, depthOk_iff.2 (not_not.1 hdepth), ?_, ?_, ?_⟩
  · refine Nat.pos_of_ne_zero fun h => htag ?_
    rw [← BitVec.toNat_inj]
    exact h
  · rintro ⟨hb, hr⟩
    simp only [carriedStill, ite_eq_left_iff, reduceCtorEq, imp_false, not_not] at hb
    exact hbypass ⟨hb.1, hb.2, hfuse hr⟩
  · rintro ⟨hs, hgeo⟩
    simp only [carriedStill, Option.isSome_ite, ite_eq_left_iff, reduceCtorEq, imp_false, not_not] at hs hgeo
    exact hsensor ⟨hs, hgeo.1, hgeo.2⟩
  · simp only [carriedStill]
    split
    · rename_i hm
      exact cropOk_iff.2 fun hbad => hcrop ⟨hm, hbad⟩
    · rfl

end

/-- The crop a STIL body carries for a request: zeros when it has none. -/
def StillRequest.cropField (q : StillRequest) : Crop := q.crop.getD { x0 := 0, y0 := 0, w := 0, h := 0 }

/-- The presence mask of a request's body: every optional field but an absent crop. -/
def StillRequest.mask (q : StillRequest) : Byte := if q.crop.isSome then 15 else 7

theorem stilBody_eq (q : StillRequest) : stilBody q =
    rawStil (byte q.tag) (byte q.recipe.code) (byte q.depth) q.mask (byte q.geometry.code) (byte q.photometric.code)
      (byte q.format.code) q.cropField := by
  unfold stilBody rawStil StillRequest.mask StillRequest.cropField
  cases q.crop <;> rfl

theorem StillRequest.mask_bits (q : StillRequest) : q.mask.toNat < 16 ∧ q.mask.getLsbD 0 = true ∧
    q.mask.getLsbD 1 = true ∧ q.mask.getLsbD 2 = true ∧ q.mask.getLsbD 3 = q.crop.isSome := by
  unfold StillRequest.mask
  cases q.crop with
  | none => decide
  | some k =>
    simp only [Option.isSome_some, if_true]
    decide

/-- The body of a valid request is read back as the request (R107). -/
theorem readStill_stilBody {c : Content} {q : StillRequest} (hv : q.valid c) : readStill c (stilBody q) = some q := by
  obtain ⟨htag, htag', hdepth, hbypass, hcrop⟩ := hv
  obtain ⟨hm, hm0, hm1, hm2, hm3⟩ := q.mask_bits
  have ht : (byte q.tag).toNat = q.tag := byte_toNat (by omega)
  have hd : (byte q.depth).toNat = q.depth := byte_toNat (by simp at hdepth; omega)
  have hg : byte q.geometry.code = 1 ↔ q.geometry = .sensor := by cases q.geometry <;> decide
  have hp : byte q.photometric.code = 1 ↔ q.photometric = .bypass := by cases q.photometric <;> decide
  have hf : byte q.format.code = 1 ↔ q.format = .linear16 := by cases q.format <;> decide
  have hr : byte q.recipe.code = 3 ↔ q.recipe = .fuse := by cases q.recipe <;> decide
  have hfits : q.cropField.fits := by
    unfold StillRequest.cropField Crop.fits
    cases h : q.crop with
    | none => simp
    | some k =>
      obtain ⟨-, -, -, -, -, -, -, hw, hh, hcw, hch⟩ := hcrop k h
      simp only [Option.getD_some]
      omega
  rw [stilBody_eq, readStill_accepted hfits]
  · have hgeo : (if q.geometry = .sensor then Geometry.sensor else .corrected) = q.geometry := by cases q.geometry <;> rfl
    have hpho : (if q.photometric = .bypass then PhotoMode.bypass else .apply) = q.photometric := by
      cases q.photometric <;> rfl
    have hfor : (if q.format = .linear16 then PixelFormat.linear16 else .toned8) = q.format := by cases q.format <;> rfl
    have hcr : (if q.crop.isSome = true then some q.cropField else none) = q.crop := by
      unfold StillRequest.cropField
      cases q.crop <;> rfl
    simp only [carriedStill, ht, hd, hm0, hm1, hm2, hm3, hg, hp, hf, true_and, hgeo, hpho, hfor, hcr]
  · simp only [stilRefused, hm0, hm1, hm2, hm3, hd, hg, hp, hr, true_and]
    rintro (h | h | h | h | h | h | h | h | h | ⟨hs, hgeo⟩ | ⟨hs, hbad⟩)
    · simp [h] at ht
      omega
    · omega
    · cases hq : q.recipe <;> simp [hq, Recipe.code, byte] at h
    · cases hq : q.recipe <;> simp [hq, Recipe.code, byte] at h
    · exact h hdepth
    · cases hq : q.geometry <;> simp [hq, Geometry.code, byte] at h
    · cases hq : q.photometric <;> simp [hq, PhotoMode.code, byte] at h
    · cases hq : q.format <;> simp [hq, PixelFormat.code, byte] at h
    · exact hbypass h
    · obtain ⟨k, hk⟩ := Option.isSome_iff_exists.1 hs
      obtain ⟨hc, -⟩ := hcrop k hk
      simp [hc] at hgeo
    · obtain ⟨k, hk⟩ := Option.isSome_iff_exists.1 hs
      obtain ⟨-, hx, hy, hw, hh, hw', hh', hcw, hch, -, -⟩ := hcrop k hk
      simp only [StillRequest.cropField, hk, Option.getD_some] at hbad
      omega

/-! ### STIL's answers -/

/-- The owner's answer to a body that is read as the request `q`: NO_BANK, DUPLICATE, FULL or OK, in this order (R107). -/
theorem stilOwner_read {body : List Byte} {q : StillRequest} {u : State} (hr : readStill u.pfs.ws.content body = some q) :
    (q.recipe ≠ .flood → u.pfs.ws.content.beam = none → stilOwner body u = refuse .noBank u) ∧
    (q.recipe = .flood ∨ u.pfs.ws.content.beam.isSome = true →
      (q.tag ∈ openTags u.csq → stilOwner body u = refuse .duplicate u) ∧
      (q.tag ∉ openTags u.csq → 4 ≤ u.csq.queue.length → stilOwner body u = refuse .full u) ∧
      (q.tag ∉ openTags u.csq → u.csq.queue.length < 4 →
        stilOwner body u = accept [] (u.setCsq { u.csq with queue := u.csq.queue ++ [q] }))) := by
  have owner : stilOwner body u =
      if needsBeam q.recipe ∧ u.pfs.ws.content.beam.isNone then refuse .noBank u
      else if q.tag ∈ openTags u.csq then refuse .duplicate u
      else if 4 ≤ u.csq.queue.length then refuse .full u
      else accept [] (u.setCsq { u.csq with queue := u.csq.queue ++ [q] }) := by
    simp only [stilOwner, hr]
  rw [owner]
  refine ⟨fun hq hb => if_pos ⟨by simpa [needsBeam] using hq, by simp [hb]⟩, fun hb => ?_⟩
  have hbank : ¬(needsBeam q.recipe ∧ u.pfs.ws.content.beam.isNone) := by
    rintro ⟨hn, hnone⟩
    rcases hb with hb | hb
    · simp [needsBeam, hb] at hn
    · simp_all
  rw [if_neg hbank]
  exact ⟨fun hd => if_pos hd, fun hd hf => (if_neg hd).trans (if_pos hf),
    fun hd hf => (if_neg hd).trans (if_neg (Nat.not_le.2 hf))⟩

theorem stil_answered {s s' : State} {body : List Byte} {st : Status} (hs : Served (.stil body) s)
    (hl : body.length = 15) (ho : ∀ l, (stilOwner body (s.setCml l)).1 = ⟨st, []⟩ ∧
      outsideLink (stilOwner body (s.setCml l)).2 = outsideLink s') : Answers (.stil body) 0x12 st [] s s' := by
  obtain ⟨⟨p, hp, ht⟩, hup⟩ := hs
  cases hp
  exact ⟨_, rfl, serve_answered (r := ⟨st, []⟩) ht rfl (by simp [lengthOk, hl]) (.inl hup) fun _ => ho _⟩

/-- STIL of a body that is read as the request `q` (R107). -/
theorem stil_answers {s : State} {body : List Byte} {q : StillRequest} (hs : Served (.stil body) s)
    (hl : body.length = 15) (hr : readStill s.pfs.ws.content body = some q) :
    (q.recipe ≠ .flood → s.pfs.ws.content.beam = none → Answers (.stil body) 0x12 .noBank [] s s) ∧
    (q.recipe = .flood ∨ s.pfs.ws.content.beam.isSome = true →
      (q.tag ∈ openTags s.csq → Answers (.stil body) 0x12 .duplicate [] s s) ∧
      (q.tag ∉ openTags s.csq → 4 ≤ s.csq.queue.length → Answers (.stil body) 0x12 .full [] s s) ∧
      (q.tag ∉ openTags s.csq → s.csq.queue.length < 4 →
        Answers (.stil body) 0x12 .ok [] s (s.setCsq { s.csq with queue := s.csq.queue ++ [q] }))) := by
  have owner := fun l => stilOwner_read (body := body) (q := q) (u := s.setCml l) hr
  refine ⟨fun hq hb => stil_answered hs hl fun l => ?_, fun hb => ⟨fun hd => stil_answered hs hl fun l => ?_,
    fun hd hf => stil_answered hs hl fun l => ?_, fun hd hf => stil_answered hs hl fun l => ?_⟩⟩
  · obtain ⟨hnoBank, -⟩ := owner l
    rw [hnoBank hq hb]
    exact ⟨rfl, rfl⟩
  all_goals
    obtain ⟨-, h⟩ := owner l
    obtain ⟨hduplicate, hfull, hqueued⟩ := h hb
  · rw [hduplicate hd]
    exact ⟨rfl, rfl⟩
  · rw [hfull hd hf]
    exact ⟨rfl, rfl⟩
  · rw [hqueued hd hf]
    exact ⟨rfl, rfl⟩

theorem stil_refused {s : State} {body : List Byte} (hs : Served (.stil body) s) (hl : body.length = 15)
    (hr : readStill s.pfs.ws.content body = none) : Answers (.stil body) 0x12 .badParam [] s s := by
  refine stil_answered hs hl fun l => ?_
  simp only [stilOwner, State.setCml_pfs, hr]
  exact ⟨rfl, rfl⟩

theorem length_stilBody (q : StillRequest) : (stilBody q).length = 15 := by
  rw [stilBody_eq]
  rfl

/-! ## SCAN (R112) -/

/-- What CANCELLED leaves when it abandons the exposure `r` of a still before its end, the lamp off: it does not count against the
still (R16, R87, R110, R112). -/
structure ExposureCancelled (r : ExposureRecord) (s v : State) : Prop where
  pxr : v.pxr = s.pxr.finish (abandonedState s.pxr.state)
  lit : v.lpc.lit = none
  ofq : v.ofq = s.ofq
  csq : ∃ e, v.csq = { s.csq with exposure := none, lastEnded := e }
  lastEnded : v.csq.lastEnded =
    some { r with state := .abandoned, patchedLines := s.pxr.patched, reason := some .cancelled }
  latch : s.cdu.riseEn.getLsbD 8 = true → v.cdu.latches.getLsbD 8 = true
  acc : ∀ b, v.phc.acc b = s.phc.acc b ∨ v.phc.acc b = (s.phc.acc b).endMark false
  own : ∀ b, r.kind = .lit b → v.phc.acc b = (s.phc.acc b).endMark false

theorem stillAbandoned_cancelled (tag : Nat) (s : State) : stillAbandoned .cancelled tag s = s := by
  unfold stillAbandoned
  split
  · exact if_neg fun ⟨_, h⟩ => by simp at h
  · rfl

theorem sequencerAbandon_cancelled {s : State} {r : ExposureRecord} {tag : Nat} (h : s.csq.exposure = some r)
    (hp : r.purpose = .still tag) : ExposureCancelled r s (sequencerAbandon .cancelled s) := by
  have hv : sequencerAbandon .cancelled s = abandonExposure .cancelled (abandonedState s.pxr.state) (lampOff s) :=
    if_neg (by simp [h])
  have hl : (lampOff s).csq.exposure = some r := h
  obtain ⟨hpxr, -, hlast, -, hlatch⟩ :=
    abandonExposure_spec (why := .cancelled) (next := abandonedState s.pxr.state) hl
  obtain ⟨r', u, w, ⟨hk', hp', -⟩, e, hcsq, hphc, hw, hofq, -⟩ :=
    abandonExposure_parts .cancelled (abandonedState s.pxr.state) hl
  have hseq : sequencerAbandoned r' .cancelled u = u := by
    simp only [sequencerAbandoned, hp'.trans hp, stillAbandoned_cancelled]
  have hacc : ∀ b, (sequencerAbandon .cancelled s).phc.acc b = (photometricEnd r' false w).phc.acc b := fun b => by
    rw [hv, e, hseq, ← hphc]
    rfl
  have hw' : w.phc = s.phc := hw
  obtain ⟨-, -, -, hend⟩ := photometricEnd_abandoned r' w
  rw [hw'] at hend
  rw [← hv] at hpxr hlast hlatch e
  rw [hseq] at e
  refine ⟨hpxr, by rw [hv]; simp [lampOff], by rw [e]; exact hofq, ⟨some r', by rw [e]; exact hcsq⟩, hlast, hlatch,
    fun b => ?_, fun b hk => ?_⟩
  · rw [hacc]
    exact (hend b).imp (fun ⟨h, _⟩ => h) id
  · rw [hacc, photometricEnd_still (hk'.trans hk) (hp'.trans hp), Photometric.acc_setAcc, hw']

/-- An OPEN or FOLDING accumulator is FREE once released, whether or not an abandonment came before (R35, R36). -/
theorem release_of_acc {a a' : Accumulator} (h : a' = a ∨ a' = a.endMark false)
    (hs : a.state = .opened ∨ a.state = .folding) : a'.release = Accumulator.blank := by
  have h : a' = a := h.elim id fun h => h.trans (Accumulator.endMark_other hs false)
  rw [h, Accumulator.release_blank hs]

theorem cancellable_iff {tag : Nat} {s : State} : cancellable tag s = true ↔
    s.pxr.exposureTimer.isSome = true ∧ ∃ r, s.csq.exposure = some r ∧ r.purpose = .still tag := by
  simp [cancellable, Option.any_eq_true]

/-- The part in which the active still is dropped: its exposure, where it can be, is cancelled first. -/
theorem cancelActive_from (a : StillTrack) (s : State) : ∃ v, cancelActive a s = leaveStill (dropActive a v) ∧
    (cancellable a.req.tag s = false → v = s) ∧
    ∀ r, cancellable a.req.tag s = true → s.csq.exposure = some r → ExposureCancelled r s v := by
  refine ⟨_, rfl, fun h => by simp [h], fun r h hx => ?_⟩
  obtain ⟨-, r', hx', hp⟩ := cancellable_iff.1 h
  obtain rfl : r = r' := by simpa [hx] using hx'
  rw [if_pos h]
  exact sequencerAbandon_cancelled hx hp

/-- What is common to every cancellation of the active still: nothing else of the sequencer or of the output changes, and the
accumulators are as they were or as their exposure's end mark leaves them. -/
structure StillKept (s v : State) : Prop where
  csq : ∃ x e, v.csq = { s.csq with exposure := x, lastEnded := e }
  ofq : v.ofq = s.ofq
  acc : ∀ b, v.phc.acc b = s.phc.acc b ∨ v.phc.acc b = (s.phc.acc b).endMark false

theorem cancelActive_kept (a : StillTrack) (s : State) {v : State} (hn : cancellable a.req.tag s = false → v = s)
    (hc : ∀ r, cancellable a.req.tag s = true → s.csq.exposure = some r → ExposureCancelled r s v) : StillKept s v := by
  cases h : cancellable a.req.tag s with
  | false =>
    obtain rfl := hn h
    exact ⟨⟨_, _, rfl⟩, rfl, fun _ => .inl rfl⟩
  | true =>
    obtain ⟨-, r, hx, -⟩ := cancellable_iff.1 h
    obtain ⟨-, -, hofq, ⟨e, hcsq⟩, -, -, hacc, -⟩ := hc r h hx
    exact ⟨⟨none, e, hcsq⟩, hofq, hacc⟩

/-- The cancellation of the active still `a`, block by block (R112). -/
theorem cancelActive_spec (a : StillTrack) (s : State) :
    let t := cancelActive a s
    t.csq.active = none ∧ t.csq.queue = s.csq.queue ∧ t.csq.later = s.csq.later ∧
    t.csq.state = (if s.csq.streamRequested then .run else .idle) ∧ t.ofq.slots[a.slot].state = .free ∧
    t.ofq.frameCounter = s.ofq.frameCounter ∧
    (∀ b, (s.phc.acc b).state = .opened ∨ (s.phc.acc b).state = .folding → (t.phc.acc b).state = .free) ∧
    (∀ r, s.csq.exposure = some r → r.purpose = .still a.req.tag → s.pxr.exposureTimer.isSome = true →
      t.csq.exposure = none ∧ t.lpc.lit = none ∧ t.pxr.exposureTimer = none ∧
      t.csq.lastEnded = some { r with state := .abandoned, patchedLines := s.pxr.patched, reason := some .cancelled } ∧
      (s.pxr.state = .exposing → t.pxr.state = .idle) ∧ (s.pxr.state = .skip .exposing → t.pxr.state = .skip .none) ∧
      (s.cdu.riseEn.getLsbD 8 = true → t.cdu.latches.getLsbD 8 = true) ∧
      ∀ b, r.kind = .lit b → (s.phc.acc b).state = .receiving → (t.phc.acc b).state = .free ∧ (t.phc.acc b).folded = 0) ∧
    (s.pxr.exposureTimer = none → t.csq.exposure = s.csq.exposure ∧ t.pxr = s.pxr ∧
      ∀ b, (s.phc.acc b).state = .receiving → (t.phc.acc b).state = .discarding) := by
  obtain ⟨v, hv, hnot, hcancel⟩ := cancelActive_from a s
  obtain ⟨⟨x, e, hcsq⟩, hofq, hacc⟩ := cancelActive_kept a s hnot hcancel
  obtain ⟨dcsq, dofq, dacc⟩ := dropActive_spec a v
  rw [hv]
  refine ⟨by simp [leaveStill, enter, dcsq], by simp [leaveStill, enter, dcsq, hcsq],
    by simp [leaveStill, enter, dcsq, hcsq], by simp [leaveStill, enter, runOrIdle, dcsq, hcsq], ?_,
    by simp [dofq, Output.free, hofq], fun b hb => ?_, fun r hx hp ht => ?_, fun ht => ?_⟩
  · simp only [leaveStill_frame, dofq]
    exact Output.free_state _ _
  · simp [dacc, release_of_acc (hacc b) hb, Accumulator.blank]
  · have hc : cancellable a.req.tag s = true := cancellable_iff.2 ⟨ht, r, hx, hp⟩
    obtain ⟨hpxr, hlit, -, ⟨e', hcsq'⟩, hlast, hlatch, -, hown⟩ := hcancel r hc hx
    have tpxr : (leaveStill (dropActive a v)).pxr = s.pxr.finish (abandonedState s.pxr.state) := by simp [dropActive, hpxr]
    refine ⟨by simp [leaveStill, enter, dcsq, hcsq'], by simp [dropActive, hlit], by rw [tpxr]; rfl, ?_,
      fun hs => by rw [tpxr, hs]; rfl, fun hs => by rw [tpxr, hs]; rfl, fun hr => by simpa [dropActive] using hlatch hr,
      fun b hk hrec => ?_⟩
    · simp [leaveStill, enter, dcsq, hlast]
    · have : (v.phc.acc b).release = Accumulator.blank := by
        rw [hown b hk, Accumulator.endMark_abandoned hrec]
        rfl
      simp [dacc, this, Accumulator.blank]
  · have hc : cancellable a.req.tag s = false := by simp [cancellable, ht]
    obtain rfl := hnot hc
    refine ⟨by simp [leaveStill, enter, dcsq], by simp [dropActive], fun b hb => ?_⟩
    simp [dacc, Accumulator.release, hb]

/-! ### SCAN's answers -/

theorem activeTagged_eq_some {tag : Nat} {q : Sequencer} {a : StillTrack} :
    activeTagged tag q = some a ↔ q.active = some a ∧ a.req.tag = tag := by
  simp [activeTagged, Option.filter_eq_some_iff]

theorem activeTagged_eq_none {tag : Nat} {q : Sequencer} (h : ∀ a, q.active = some a → a.req.tag ≠ tag) :
    activeTagged tag q = none := by
  cases ha : activeTagged tag q with
  | none => rfl
  | some a =>
    obtain ⟨ha, ht⟩ := activeTagged_eq_some.1 ha
    exact absurd ht (h a ha)

theorem mem_openTags {tag : Nat} {q : Sequencer} : tag ∈ openTags q ↔ tag ∈ q.queue.map StillRequest.tag ∨
    (∃ a, q.active = some a ∧ a.req.tag = tag) ∨ tag ∈ q.later.map fun a => a.req.tag := by
  simp [openTags, Option.mem_toList]

section
variable {tag : Nat} {s : State}

theorem bodyAt_byte (ht : tag < 256) : bodyAt [byte tag] 0 = tag := byte_toNat ht

theorem scan_answered {s' : State} {st : Status} (hs : Served (.scan [byte tag]) s)
    (ho : ∀ l, (scanOwner [byte tag] (s.setCml l)).1 = ⟨st, []⟩ ∧
      outsideLink (scanOwner [byte tag] (s.setCml l)).2 = outsideLink s') : Answers (.scan [byte tag]) 0x13 st [] s s' := by
  obtain ⟨⟨p, hp, ht⟩, hup⟩ := hs
  cases hp
  exact ⟨_, rfl, serve_answered (r := ⟨st, []⟩) ht rfl rfl (.inl hup) fun _ => ho _⟩

/-- SCAN of a still that is not active: out of the queue, TOO_LATE, or NOT_FOUND (R112). -/
theorem scanOwner_inactive {u : State} (ht : tag < 256) (h : ∀ a, u.csq.active = some a → a.req.tag ≠ tag) :
    (tag ∈ u.csq.queue.map StillRequest.tag → scanOwner [byte tag] u =
      accept [] (u.setCsq { u.csq with queue := u.csq.queue.filter fun q => q.tag ≠ tag })) ∧
    (tag ∉ u.csq.queue.map StillRequest.tag → tag ∈ u.csq.later.map (fun a => a.req.tag) →
      scanOwner [byte tag] u = refuse .tooLate u) ∧
    (tag ∉ u.csq.queue.map StillRequest.tag → tag ∉ u.csq.later.map (fun a => a.req.tag) →
      scanOwner [byte tag] u = refuse .notFound u) := by
  simp only [scanOwner, bodyAt_byte ht, activeTagged_eq_none h]
  exact ⟨fun hq => if_pos hq, fun hq hl => (if_neg hq).trans (if_pos hl), fun hq hl => (if_neg hq).trans (if_neg hl)⟩

theorem scanOwner_active {u : State} {a : StillTrack} (ht : tag < 256) (ha : u.csq.active = some a)
    (h : a.req.tag = tag) : scanOwner [byte tag] u = accept [] (cancelActive a u) := by
  simp only [scanOwner, bodyAt_byte ht, activeTagged_eq_some.2 ⟨ha, h⟩]

/-- SCAN of the active still completes with an OK and the still cancelled, in a part that differs in the link alone. -/
theorem scan_active {a : StillTrack} (hs : Served (.scan [byte tag]) s) (ht : tag < 256) (ha : s.csq.active = some a)
    (h : a.req.tag = tag) : ∃ t u, exec (.scan [byte tag]) s = .next t ∧ newestReply t = some (replyFrame 0x13 .ok []) ∧
      (∃ l, u = cancelActive a (s.setCml l)) ∧ t.csq = u.csq ∧ t.ofq = u.ofq ∧ t.phc = u.phc ∧ t.pxr = u.pxr ∧
      t.lpc = u.lpc ∧ t.cdu.latches = u.cdu.latches := by
  obtain ⟨⟨p, hp, hq⟩, hup⟩ := hs
  cases hp
  obtain ⟨hold, e⟩ := serve_eq (owner := scanOwner [byte tag]) hq rfl rfl (.inl hup)
  let u := cancelActive a (s.setCml { s.cml with holding := hold })
  have ho : scanOwner [byte tag] (s.setCml { s.cml with holding := hold }) = accept [] u := scanOwner_active ht ha h
  refine ⟨_, u, congrArg Host.Outcome.next e, ?_, ⟨_, rfl⟩, ?_⟩
  · rw [newestReply_composed, ho]
    rfl
  · rw [ho]
    simp only [pump_frame, pump_latches]
    exact ⟨rfl, rfl, rfl, rfl, rfl, rfl⟩

end

/-- Settles O44: STIL of a valid request, SCAN, STIL of a refused body, and STIL of any other body. -/
theorem stillsQueuedAndCancelled : Obligations.StillsQueuedAndCancelled := by
  refine ⟨fun s => ⟨fun q hv hs => stil_answers hs (length_stilBody q) (readStill_stilBody hv), fun tag ht hs => ?_⟩,
    fun s tag recipe depth mask geometry photometric format k hx hy hw hh hr hs => ?_,
    fun s tag depth mask geometry photometric format recipe k hx hy hw hh hr hs => ?_⟩
  · have owner := fun l => scanOwner_inactive (u := s.setCml l) ht
    refine ⟨fun hn => scan_answered hs fun l => ?_, fun ha hq => scan_answered hs fun l => ?_,
      fun ha hq hl => scan_answered hs fun l => ?_, fun a ha htag => ?_⟩
    · simp only [mem_openTags, not_or, not_exists, not_and] at hn
      obtain ⟨hq, ha, hl⟩ := hn
      obtain ⟨-, -, hnone⟩ := owner l ha
      rw [hnone hq hl]
      exact ⟨rfl, rfl⟩
    · obtain ⟨hqueue, -⟩ := owner l ha
      rw [hqueue hq]
      exact ⟨rfl, rfl⟩
    · obtain ⟨-, hlate, -⟩ := owner l ha
      rw [hlate hq hl]
      exact ⟨rfl, rfl⟩
    · obtain ⟨t, u, he, hreply, ⟨l, hu⟩, hcsq, hofq, hphc, hpxr, hlpc, hlatch⟩ := scan_active hs ht ha htag
      obtain ⟨h1, h2, h3, h4, h5, h6, hacc, hcut, hlate⟩ := cancelActive_spec a (s.setCml l)
      rw [← hu] at h1 h2 h3 h4 h5 h6 hacc hcut hlate
      rw [htag] at hcut
      refine ⟨t, he, hreply, ?_⟩
      rw [hcsq, hofq, hphc, hpxr, hlpc, hlatch]
      refine ⟨h1, h2, h3, h4, h5, h6, hacc .flood, hacc .beam, hcut, fun hn => ?_⟩
      obtain ⟨hx, hp, hd⟩ := hlate hn
      exact ⟨hx, hp, hd .flood, hd .beam⟩
  · exact stil_refused hs rfl (readStill_refused ⟨hx, hy, hw, hh⟩ hr)
  · exact stil_answers hs rfl (readStill_accepted ⟨hx, hy, hw, hh⟩ hr)

end Sys2Proof.Machine
end

section
namespace Sys2Proof.Machine

/-! ## Readouts that complete (R12, R21, R22, R31, R101, R102) -/

theorem photometricLine_setPxr (r : ExposureRecord) (y : Nat) (row : List Nat) (p : Receiver) (s : State) :
    photometricLine r y row (s.setPxr p) = (photometricLine r y row s).setPxr p := by
  unfold photometricLine
  split
  · split <;> rfl
  all_goals rfl

theorem meteringLine_setPxr (r : ExposureRecord) (y : Nat) (row : List Nat) (p : Receiver) (s : State) :
    meteringLine r y row (s.setPxr p) = (meteringLine r y row s).setPxr p := by
  cases h : s.mtu.measurement with
  | none => simp only [meteringLine, State.setPxr_mtu, h]
  | some m =>
    simp only [meteringLine, State.setPxr_mtu, h]
    rfl

theorem handRow_setPxr (y : Nat) (row : List Nat) (p : Receiver) (s : State) :
    handRow y row (s.setPxr p) = (handRow y row s).setPxr p := by
  cases h : s.csq.exposure with
  | none => rw [handRow_none h, handRow_none (s := s.setPxr p) h]
  | some r =>
    rw [handRow_eq h, handRow_eq (s := s.setPxr p) h, photometricLine_setPxr, meteringLine_setPxr]

/-- No unit that takes a row reads the receiver. -/
theorem handRows_setPxr (y : Nat) (rows : List (List Nat)) (p : Receiver) (s : State) :
    handRows y rows (s.setPxr p) = (handRows y rows s).setPxr p := by
  induction rows generalizing y s with
  | nil => rfl
  | cons row rows ih => simp only [handRows, handRow_setPxr, ih]

/-- The part with the rows that a readout misses at its end handed as copies of the last received line (R11, R12). -/
def handMissing (s : State) : State :=
  handRows s.pxr.lineNumber (List.replicate (1024 - s.pxr.lineNumber) (s.pxr.lastLine.getD [])) s

theorem handMissing_whole {s : State} (h : s.pxr.lineNumber = 1024) : handMissing s = s := by
  simp [handMissing, h, handRows]

/-- A readout within PATCH_LIMIT is the completion of its exposure with the missing rows handed and counted (R12). -/
theorem endReadout_completes {s : State} (hr : 0 < s.pxr.received)
    (hle : s.pxr.patched + (1024 - s.pxr.lineNumber) ≤ s.pxr.patchLimit) :
    endReadout s = completeExposure
      ((handMissing s).setPxr { s.pxr with patched := s.pxr.patched + (1024 - s.pxr.lineNumber) }) := by
  have hjudge : endReadout s = judgeReadout
      ((handMissing s).setPxr { s.pxr with patched := s.pxr.patched + (1024 - s.pxr.lineNumber) }) :=
    (if_neg (Nat.pos_iff_ne_zero.1 hr)).trans (congrArg judgeReadout (handRows_setPxr _ _ _ s))
  exact hjudge.trans (if_neg (Nat.not_lt.2 hle))

theorem darkEnd_lin (p : Photometric) (number : Word32) (completed : Bool) :
    (p.darkEnd number completed).lin0 = p.lin0 ∧ (p.darkEnd number completed).lin1 = p.lin1 := by
  cases completed <;> exact ⟨rfl, rfl⟩

/-- A completed dark exposure is its end mark at the corrector (R21, R22). -/
theorem completeExposure_dark {s : State} {r : ExposureRecord} (h : s.csq.exposure = some r) (hk : r.kind = .dark) :
    (completeExposure s).phc = s.phc.darkEnd r.number true := by
  obtain ⟨r', u, v, c, hr, e, -, hphc, hv⟩ := completeExposure_parts h
  rw [photometricEnd_dark (hr ▸ hk), hv] at hphc
  simp [e, hphc, hr]

/-- Settles O13: the readout is whole, so its completion is the dark end mark with the sum as it stands. -/
theorem darkExposureCompletes : Obligations.DarkExposureCompletes := by
  intro s r sum hs hn hr hp hx hk hsum
  have hphc : (pump (endReadout s)).phc = s.phc.darkEnd r.number true := by
    simp only [pump_frame]
    rw [endReadout_completes hr (by omega), handMissing_whole hn]
    exact completeExposure_dark (s := s.setPxr _) hx hk
  obtain ⟨hlin0, hlin1⟩ := darkEnd_lin s.phc r.number true
  refine ⟨_, exec_frameClose_between hs, ?_⟩
  rw [hphc]
  refine ⟨?_, fun hm => ?_, fun hm => ?_, rfl, hlin0, hlin1⟩
  · simp [Photometric.darkEnd, hsum, darkMean]
  · simp [Photometric.darkEnd, hsum, hm, darkMean]
  · simp [Photometric.darkEnd, hm]

/-- A buffer at the completed end mark of its exposure, with no mark for release: its rows stand, and it is HALF or WHOLE by
the exposure's role (R31). -/
theorem LinearBuffer.endMark_completed {b : LinearBuffer} (h : b.releaseMarked = false) (role : Role) :
    b.endMark role true = { b with content := if role = .first then .half else .whole } := by
  cases role <;> simp [LinearBuffer.endMark, h]

section
variable {s : State} {r : ExposureRecord} {f : StreamFrame} {role : Role} {id : LinId}

theorem streamCompleted_first (hf : s.csq.frame = some f) (ha : r.assigned = some (.first, id)) :
    streamCompleted r s = s.setCsq { s.csq with frame := some { f with parts := f.parts ++ [r] } } := by
  simp only [streamCompleted, hf, ha]

theorem streamCompleted_last (hf : s.csq.frame = some f) (ha : r.assigned = some (role, id)) (hr : role ≠ .first) :
    streamCompleted r s = s.setCsq { s.csq with
      frame := none, darkCounter := min (s.csq.darkCounter + 1) 255,
      awaiting := s.csq.awaiting ++
        [⟨f.buffer, .stream, gather f.recipe 1 .apply 0 f.degraded (f.parts ++ [r]) s⟩] } := by
  cases role with
  | first => exact absurd rfl hr
  | single => simp only [streamCompleted, hf, ha]
  | second => simp only [streamCompleted, hf, ha]

/-- A completed stream exposure: its buffer at the end mark, and its frame going on (FIRST) or handed off with the values
gathered for it (R31, R101, R102). -/
theorem completeExposure_stream {b : Bank} (hx : s.csq.exposure = some r) (hk : r.kind = .lit b)
    (hp : r.purpose = .stream) (ha : r.assigned = some (role, id)) (hf : s.csq.frame = some f)
    (hm : (s.phc.lin id).releaseMarked = false) :
    let t := completeExposure s
    let r' := { r with state := .complete, patchedLines := s.pxr.patched }
    t.phc.lin id = { s.phc.lin id with content := if role = .first then .half else .whole } ∧
    (role = .first → t.csq.awaiting = s.csq.awaiting ∧ t.csq.darkCounter = s.csq.darkCounter ∧
      t.csq.frame = some { f with parts := f.parts ++ [r'] }) ∧
    (role ≠ .first → t.csq.frame = none ∧ t.csq.darkCounter = min (s.csq.darkCounter + 1) 255 ∧
      ∃ v, t.csq.awaiting = s.csq.awaiting ++ [{ buffer := f.buffer, kind := .stream, values := v }] ∧
        v.recipe = f.recipe ∧ v.depth = 1 ∧ v.photometric = .apply ∧ v.tag = 0 ∧ v.degraded = f.degraded ∧
        v.last = r.number ∧ v.black = r.black ∧ GatheredFrom (f.parts ++ [r']) t v) := by
  obtain ⟨r', u, v, c, hr, e, hcsq, hphc, hv⟩ := completeExposure_parts hx
  have ha' : r'.assigned = some (role, id) := hr ▸ ha
  have hp' : r'.purpose = .stream := hr ▸ hp
  rw [photometricEnd_stream (b := b) (hr ▸ hk) hp' ha', hv] at hphc
  have hseq : sequencerCompleted r' u = streamCompleted r' u := by simp only [sequencerCompleted, hp']
  have hfu : u.csq.frame = some f := by rw [hcsq]; exact hf
  rw [hseq] at e
  rw [e, ← hr]
  refine ⟨by simp [hphc, LinearBuffer.endMark_completed hm], fun hrole => ?_, fun hrole => ?_⟩
  · subst hrole
    simp [streamCompleted_first hfu ha', hcsq]
  · rw [streamCompleted_last hfu ha' hrole]
    refine ⟨rfl, by simp [hcsq], _, by simp [hcsq]; rfl, rfl, rfl, rfl, rfl, rfl, by simp [gather, hr],
      by simp [gather, hr], ?_⟩
    exact (gather_gatheredFrom ..).congr rfl rfl rfl

end

/-- Settles O12: the completed end mark of a stream exposure, in the part with the missing rows handed and counted. -/
theorem streamExposureCompletes : Obligations.StreamExposureCompletes := by
  intro s r f b role id hs hr hle hx hk hp ha hf hb hm
  have hcsq : (handMissing s).csq = s.csq := by simp [handMissing]
  obtain ⟨hlin, hfirst, hlast⟩ := completeExposure_stream
    (s := (handMissing s).setPxr { s.pxr with patched := s.pxr.patched + (1024 - s.pxr.lineNumber) })
    (by simpa [hcsq] using hx) hk hp ha (by simpa [hcsq] using hf)
    (((handRows_rowsTaken _ _ s).lin id).trans hm)
  simp only [← endReadout_completes hr hle, State.setPxr_phc, State.setPxr_csq, State.setPxr_pxr, hcsq] at hlin hfirst hlast
  refine ⟨_, exec_frameClose_between hs, ?_⟩
  simp only [pump_frame, hlin]
  refine ⟨rfl, fun hn => by rw [handMissing_whole hn], fun hrole => ⟨if_pos hrole, hfirst hrole⟩, fun hrole => ?_⟩
  obtain ⟨hframe, hdark, v, hwait, hrec, hdep, hpho, htag, hdeg, hnum, hblk, hgath⟩ := hlast hrole
  exact ⟨if_neg hrole, hframe, hdark, _, hwait, hb, rfl, hrec, hdep, hpho, htag, hdeg, hnum, hblk,
    hgath.congr (by simp) (by simp) (by simp)⟩

end Sys2Proof.Machine
end

section
namespace Sys2Proof.Machine

/-! ## The dark trigger (R21, R98, R103) -/

theorem boundaryTrigger_dark {s : State} (hi : s.csq.intervalTimer = none) (hw : s.csq.switchTarget = none)
    (hst : stillCanStart s = false) (hd : darkDue s = true) : boundaryTrigger s = some .dark := by
  simp [boundaryTrigger, hi, hw, hst, hd]

/-- A dark exposure's trigger, block by block (R4, R21, R66, R97, R99, R103). -/
theorem carryTrigger_dark (s : State) :
    let t := carryTrigger .dark s
    t.csq = { s.csq with
      darkCounter := 0, intervalTimer := some s.csq.interval, nextExposure := s.csq.nextExposure + 1,
      exposure := some (triggeredRecord .dark .darkReference s.lpc.flood.expo 0 s.phc.black none s) } ∧
    t.phc = { s.phc with darkSum := some 0 } ∧ t.lpc = s.lpc ∧ t.pxr = s.pxr.trigger s.lpc.flood.expo ∧
    t.mtu = s.mtu.trigger s.csq.nextExposure .dark .darkReference := ⟨rfl, rfl, rfl, rfl, rfl⟩

/-- Settles O15: at a boundary with a dark due the trigger chosen is the dark one. -/
theorem darkTriggerRules : Obligations.DarkTriggerRules := by
  intro s k hup hx hk hrec hs hf hi hw hst hpos hle
  have hready := (triggerReady_iff s).2 ⟨hup, hx, ⟨k, hk⟩, hrec⟩
  have hdue : darkDue s = true := by simp [darkDue, hpos, hle]
  have hplan : triggerPlan s = some .dark :=
    (triggerPlan_boundary hready hs hf).trans (boundaryTrigger_dark hi hw hst hdue)
  obtain ⟨hcsq, hphc, hlpc, hpxr, hmtu⟩ := carryTrigger_dark s
  refine ⟨_, _, exec_trigger hplan, by rw [hcsq], rfl, rfl, rfl, rfl, rfl, rfl, rfl, rfl, by rw [hcsq], by rw [hcsq],
    by rw [hcsq], by rw [hcsq]; exact hf, by rw [hphc], by rw [hphc], by rw [hphc], hlpc, by rw [hpxr]; rfl, rfl, rfl,
    rfl, rfl, rfl, by rw [hmtu]; rfl, marksCleared_of hmtu, receiverTriggered_of hpxr⟩

end Sys2Proof.Machine
end

section
namespace Sys2Proof.Machine

/-! ## The start of a still (R33, R88, R100, R108, R125) -/

/-- The still can start: the conditions of R108 met. -/
theorem stillCanStart_of {s : State} {q : StillRequest} {rest : List StillRequest} {claim : Fin 4 × Bool}
    (hF : s.phc.accF.state = .free) (hB : s.phc.accB.state = .free) (hq : s.csq.queue = q :: rest)
    (hc : s.ofq.stillClaim = some claim) : stillCanStart s = true := by
  simp [stillCanStart, hF, hB, hq, hc]

/-- STILL_START at the choice with a still that can start: it fails for want of bank B, or starts (R100, R108). -/
theorem exec_stillStart {s : State} {q : StillRequest} {rest : List StillRequest} {claim : Fin 4 × Bool}
    (ho : choiceOpen s = true) (hw : s.csq.switchTarget = none) (hst : stillCanStart s = true)
    (hq : s.csq.queue = q :: rest) (hc : s.ofq.stillClaim = some claim) :
    exec .stillStart s =
      if needsBeam q.recipe = true ∧ s.pfs.ws.content.beam.isNone = true then
        .next (pump (raise .stillFailed (s.setCsq { s.csq with queue := rest })))
      else .next (pump (startStill q rest claim s)) := by
  simp only [exec, execStillStart, ho, hw, hst, hq, hc, Option.isNone_none, and_self, if_true]

/-- A reserved slot is RESERVED with the picture's kind and the next frame number, and is no longer in the ready order
(R123). -/
theorem Output.reserve_spec (o : Output) (i : Fin 4) (kind : PictureKind) :
    (o.reserve i kind).slots[i].state = .reserved ∧ (o.reserve i kind).slots[i].number = o.frameCounter ∧
    (o.reserve i kind).slots[i].kind = kind ∧ (o.reserve i kind).frameCounter = o.frameCounter + 1 ∧
    i ∉ (o.reserve i kind).readyOrder := by
  simp [Output.reserve]

theorem reserveSlot_ofq (claim : Fin 4 × Bool) (kind : PictureKind) (s : State) :
    (reserveSlot claim kind s).ofq = s.ofq.reserve claim.1 kind := by
  unfold reserveSlot; split <;> simp

/-- A READY stream frame discarded for the slot raises FRAME_DROPPED (R124, R125). -/
theorem reserveSlot_dropped {claim : Fin 4 × Bool} {s : State} (kind : PictureKind) (hd : claim.2 = true)
    (hl : s.cdu.riseEn.getLsbD 9 = true) : (reserveSlot claim kind s).cdu.latches.getLsbD 9 = true := by
  simp only [reserveSlot, hd, if_true]
  exact raise_latched (src := .frameDropped) hl

/-- A still's start, block by block (R33, R88, R108, R125). -/
theorem startStill_spec (q : StillRequest) (rest : List StillRequest) (claim : Fin 4 × Bool) (s : State) :
    let t := startStill q rest claim s
    t.csq = { s.csq with state := .still, queue := rest, active := some (startedStill q claim.1 s) } ∧
    t.phc = { s.phc with accF := Accumulator.claimed, accB := Accumulator.claimed } ∧
    t.ofq = s.ofq.reserve claim.1 (.still q.tag) ∧
    (claim.2 = true → s.cdu.riseEn.getLsbD 9 = true → t.cdu.latches.getLsbD 9 = true) :=
  ⟨by simp [startStill], by simp [startStill], by simp [startStill, reserveSlot_ofq],
    fun hd hl => reserveSlot_dropped (s := s.setPhc _) _ hd hl⟩

/-- Settles O19: the still fails when it needs bank B and the bank set is F, and otherwise starts. -/
theorem stillStarts : Obligations.StillStarts := by
  intro s q rest claim ho hw hF hB hq hc
  have hexec := exec_stillStart ho hw (stillCanStart_of hF hB hq hc) hq hc
  by_cases hfail : q.recipe ≠ .flood ∧ s.pfs.ws.content.beam = none
  · obtain ⟨hr, hbeam⟩ := hfail
    refine ⟨_, hexec.trans (if_pos ⟨by simpa [needsBeam] using hr, by simp [hbeam]⟩), by simp, by simp,
      fun _ _ => ⟨by simp, by simp, by simp, by simp, fun hl => ?_⟩, fun h => ?_⟩
    · rw [pump_latches]
      exact raise_latched (src := .stillFailed) hl
    · simp [hr, hbeam] at h
  · obtain ⟨hcsq, hphc, hofq, hdrop⟩ := startStill_spec q rest claim s
    obtain ⟨hstate, hnumber, hkind, hcount, hready⟩ := s.ofq.reserve_spec claim.1 (.still q.tag)
    refine ⟨_, hexec.trans (if_neg fun ⟨hr, hbeam⟩ => hfail ⟨by simpa [needsBeam] using hr, by simpa using hbeam⟩), ?_⟩
    simp only [pump_frame, pump_latches, hcsq, hphc, hofq, true_and]
    exact ⟨fun hr hbeam => absurd ⟨hr, hbeam⟩ hfail, fun _ =>
      ⟨⟨_, rfl, rfl, rfl, rfl, rfl, rfl, rfl, rfl, rfl, rfl, rfl, rfl⟩, rfl, rfl, rfl, rfl,
        hstate, hnumber, hkind, hcount, hready, hdrop⟩⟩

end Sys2Proof.Machine
end

section
namespace Sys2Proof.Machine

/-! ## Folds and finalise (R35, R37, R38, R39, R111) -/

/-- The recipe that makes no use of a bank. -/
def recipeWithout : Bank → Recipe
  | .flood => .beam
  | .beam => .flood

/-- An accumulator is ready for finalise when, if the recipe uses its bank, it is OPEN with every exposure folded (R37). -/
theorem accReady_of {a : StillTrack} {x : Accumulator} {b : Bank}
    (h : a.req.recipe ≠ recipeWithout b → x.state = .opened ∧ x.folded = a.req.depth) : accReady a b x = true := by
  cases b <;> cases hr : a.req.recipe <;> simp_all [accReady, recipeWithout]

theorem exec_finaliseStart {s : State} {a : StillTrack} {id : LinId} (ha : s.csq.active = some a)
    (he : s.phc.emptyLin = some id) (hp : a.phase = .awaitFinalise) (hF : accReady a .flood s.phc.accF = true)
    (hB : accReady a .beam s.phc.accB = true) : exec .finaliseStart s = .next (startFinalise a id s) := by
  simp only [exec, execFinaliseStart, ha, he]
  exact if_pos ⟨hp, hF, hB⟩

/-- The start of finalise, block by block (R37, R111). -/
theorem startFinalise_spec (a : StillTrack) (id : LinId) (s : State) :
    let t := startFinalise a id s
    t.phc.lin id = { content := .writing, rows := [], releaseMarked := false } ∧
    t.phc.accF = { s.phc.accF with state := .finalising } ∧ t.phc.accB = { s.phc.accB with state := .finalising } ∧
    t.phc.finalise = some
      { buffer := id, recipe := a.req.recipe, depth := a.req.depth, photometric := a.req.photometric } ∧
    t.csq = { s.csq with
      active := none, later := s.csq.later ++ [{ a with phase := .finalising }],
      state := if s.csq.streamRequested then .run else .idle } := by
  cases id <;> exact ⟨rfl, rfl, rfl, rfl, rfl⟩

/-- The linear frame of finalise, pixel by pixel (R38). -/
theorem finaliseRows_spec (c : Content) (j : FinaliseJob) (accF accB : Accumulator) :
    (finaliseRows c j accF accB).length = 1024 ∧ ∀ x y, x < 1280 → y < 1024 →
      ((finaliseRows c j accF accB).getD y []).getD x 0 = finalisePixel c j accF accB x y := by
  refine ⟨by simp [finaliseRows], fun x y hx hy => ?_⟩
  simp [finaliseRows, hx, hy]

/-- The part after finalise completes (R38, R39, R102, R111). -/
def finalised (j : FinaliseJob) (s : State) : State :=
  (s.setPhc { s.phc.setLin j.buffer
      { content := .whole, rows := finaliseRows s.pfs.ws.content j s.phc.accF s.phc.accB, releaseMarked := false } with
    accF := Accumulator.blank, accB := Accumulator.blank, finalise := none }).setCsq
    { s.csq with
      awaiting := s.csq.awaiting ++ finalisedWaiting j.buffer s.csq.later,
      later := movePhase .finalising .awaitRender s.csq.later }

theorem exec_finaliseComplete {s : State} {j : FinaliseJob} (h : s.phc.finalise = some j) :
    exec .finaliseComplete s = .next (finalised j s) := by
  simp only [exec, execFinaliseComplete, h]
  rfl

/-- The buffer of a completed finalise is WHOLE with the linear frame (R38, R39). -/
theorem finalised_lin (j : FinaliseJob) (s : State) :
    ((finalised j s).phc.lin j.buffer).content = .whole ∧
      ((finalised j s).phc.lin j.buffer).rows = finaliseRows s.pfs.ws.content j s.phc.accF s.phc.accB := by
  cases h : j.buffer <;> simp [finalised, h, Photometric.lin, Photometric.setLin]

theorem finalisedWaiting_of {later : List StillTrack} {a : StillTrack} {v : PictureValues} (id : LinId)
    (ha : (later.find? fun x => x.phase = .finalising) = some a) (hv : a.values = some v) :
    finalisedWaiting id later = [{ buffer := id, kind := .still a.req.tag, values := v }] := by
  simp [finalisedWaiting, ha, hv]

/-- Settles O20: a fold's completion, the start of finalise, and its completion. -/
theorem foldsAndFinalise : Obligations.FoldsAndFinalise := by
  refine ⟨fun b s => ⟨fun h => if_pos h, fun h => if_neg h⟩, fun s => ⟨fun a id ha hp he hF hB => ?_, fun j hj => ?_⟩⟩
  · obtain ⟨hlin, haccF, haccB, hjob, hcsq⟩ := startFinalise_spec a id s
    refine ⟨_, exec_finaliseStart ha he hp (accReady_of hF) (accReady_of hB), ?_⟩
    simp [hlin, haccF, haccB, hjob, hcsq]
  · obtain ⟨hwhole, hrows⟩ := finalised_lin j s
    obtain ⟨hheight, hpixel⟩ := finaliseRows_spec s.pfs.ws.content j s.phc.accF s.phc.accB
    rw [← hrows] at hheight hpixel
    exact ⟨_, exec_finaliseComplete hj, hwhole, hheight, hpixel, rfl, rfl, rfl, rfl, rfl,
      fun a v ha hv => congrArg (s.csq.awaiting ++ ·) (finalisedWaiting_of _ ha hv), rfl⟩

end Sys2Proof.Machine
end


section
namespace Sys2Proof.Machine

/-! ## The start of a render (R42, R43, R44, R124) -/

/-- A crop that lies in the working set's W × H is kept (R43). -/
theorem keptCrop_inside {c : Content} {k : Crop} (hw : k.x0 + k.w ≤ c.width) (hh : k.y0 + k.h ≤ c.height) :
    keptCrop c (some k) = some k := if_pos ⟨hw, hh⟩

/-- A crop that reaches past the working set's W × H is dropped (R43). -/
theorem keptCrop_outside {c : Content} {k : Crop} (h : c.width < k.x0 + k.w ∨ c.height < k.y0 + k.h) :
    keptCrop c (some k) = none := if_neg (by omega)

@[simp] theorem startRender_rme (w : Waiting) (j : RenderJob) (s : State) :
    (startRender w j s).rme = { s.rme with job := some j } := rfl

@[simp] theorem startRender_csq (w : Waiting) (j : RenderJob) (s : State) : (startRender w j s).csq = s.csq := rfl

@[simp] theorem startRender_cdu (w : Waiting) (j : RenderJob) (s : State) : (startRender w j s).cdu = s.cdu := rfl

@[simp] theorem startRender_frameCounter (w : Waiting) (j : RenderJob) (s : State) :
    (startRender w j s).ofq.frameCounter = s.ofq.frameCounter := rfl

@[simp] theorem startRender_readyOrder (w : Waiting) (j : RenderJob) (s : State) :
    (startRender w j s).ofq.readyOrder = s.ofq.readyOrder := rfl

/-- The header of the slot rendered into takes the picture's form and values (R44). -/
theorem startRender_dest (w : Waiting) (j : RenderJob) (s : State) :
    (startRender w j s).ofq.slots[j.dest] =
      { s.ofq.slots[j.dest] with form := some (formOf s.pfs.ws j), values := some w.values, pixels := [] } := by
  simp [startRender]

theorem startRender_slot_of_ne (w : Waiting) (s : State) {j : RenderJob} {k : Fin 4} (h : k ≠ j.dest) :
    (startRender w j s).ofq.slots[k] = s.ofq.slots[k] := by
  simp [startRender, Fin.val_inj, h.symm]

@[simp] theorem takeWaiting_ofq (s : State) : (takeWaiting s).ofq = s.ofq := rfl
@[simp] theorem takeWaiting_pfs (s : State) : (takeWaiting s).pfs = s.pfs := rfl
@[simp] theorem takeWaiting_rme (s : State) : (takeWaiting s).rme = s.rme := rfl
@[simp] theorem takeWaiting_cdu (s : State) : (takeWaiting s).cdu = s.cdu := rfl

theorem takeWaiting_awaiting {s : State} {w : Waiting} {rest : List Waiting} (h : s.csq.awaiting = w :: rest) :
    (takeWaiting s).csq.awaiting = rest := by simp [takeWaiting, h]

/-- Reserving a slot leaves the other slots (R123). -/
theorem Output.reserve_slot_of_ne (o : Output) (kind : PictureKind) {i k : Fin 4} (h : k ≠ i) :
    (o.reserve i kind).slots[k] = o.slots[k] := by
  simp [Output.reserve, Fin.val_inj, h.symm]

/-- A WHOLE buffer that is released is EMPTY at once (R32). -/
theorem LinearBuffer.release_whole {b : LinearBuffer} (h : b.content = .whole) : b.release.content = .empty := by
  simp [LinearBuffer.release, h, LinearBuffer.blank]

/-- The job of a stream frame's render into slot `i` (R42). -/
def streamJob (w : Waiting) (i : Fin 4) (s : State) : RenderJob :=
  startJob s.pfs.ws.content w.buffer i .stream .corrected s.ofq.streamFormat none s.rme.fill

/-- The job of a tracked still's render into its own slot (R42, R111). -/
def stillJob (w : Waiting) (a : StillTrack) (s : State) : RenderJob :=
  startJob s.pfs.ws.content w.buffer a.slot (.still a.req.tag) a.req.geometry a.req.format a.req.crop s.rme.fill

/-- What a still's job is filled with, whatever its geometry (R42). -/
theorem stillJob_spec (w : Waiting) (a : StillTrack) (s : State) :
    let j := stillJob w a s
    j.source = w.buffer ∧ j.dest = a.slot ∧ j.kind = .still a.req.tag ∧ j.geometry = a.req.geometry ∧
      j.format = a.req.format ∧ j.fill = s.rme.fill ∧ j.nextRow = 0 := by
  cases hg : a.req.geometry <;> simp [stillJob, startJob, hg]

/-- A SENSOR job has the sensor's size and no crop (R43, R51). -/
theorem stillJob_sensor (w : Waiting) {a : StillTrack} (s : State) (hg : a.req.geometry = .sensor) :
    (stillJob w a s).width = 1280 ∧ (stillJob w a s).height = 1024 ∧ (stillJob w a s).crop = none := by
  simp [stillJob, startJob, hg, Config.sensorWidth, Config.sensorHeight]

/-- A CORRECTED job has the size of the crop it keeps, else the working set's (R43). -/
theorem stillJob_corrected (w : Waiting) {a : StillTrack} (s : State) (hg : a.req.geometry = .corrected) :
    let kept := keptCrop s.pfs.ws.content a.req.crop
    (stillJob w a s).crop = kept ∧ (stillJob w a s).width = (kept.map Crop.w).getD s.pfs.ws.content.width ∧
      (stillJob w a s).height = (kept.map Crop.h).getD s.pfs.ws.content.height := by
  simp [stillJob, startJob, hg]

/-- The part with a tracked still's buffer taken from those awaiting render, the still RENDERING (R102, R111). -/
def renderingStill (a : StillTrack) (s : State) : State :=
  (takeWaiting s).setCsq { (takeWaiting s).csq with later := setPhase a.req.tag .rendering s.csq.later }

/-- RENDER_START with a slot for the stream frame: the slot is reserved and the render starts (R124). -/
theorem exec_renderStart_claimed {s : State} {w : Waiting} {rest : List Waiting} {claim : Fin 4 × Bool}
    (hj : s.rme.job = none) (ha : s.csq.awaiting = w :: rest) (hk : w.kind = .stream)
    (hc : s.ofq.streamClaim = some claim) :
    exec .renderStart s =
      .next (pump (startRender w (streamJob w claim.1 s) (reserveSlot claim .stream (takeWaiting s)))) := by
  simp [exec, execRenderStart, offerStream, streamJob, hj, ha, hk, hc, reserveSlot_ofq, Output.reserve]

/-- RENDER_START with no slot for the stream frame: its buffer is released and the frame dropped (R124). -/
theorem exec_renderStart_unclaimed {s : State} {w : Waiting} {rest : List Waiting} (hj : s.rme.job = none)
    (ha : s.csq.awaiting = w :: rest) (hk : w.kind = .stream) (hc : s.ofq.streamClaim = none) :
    exec .renderStart s = .next (pump (raise .frameDropped (releaseBuffer w.buffer (takeWaiting s)))) := by
  simp [exec, execRenderStart, offerStream, hj, ha, hk, hc]

/-- RENDER_START of a tracked still's buffer (R42, R111). -/
theorem exec_renderStart_still {s : State} {w : Waiting} {rest : List Waiting} {a : StillTrack}
    (hj : s.rme.job = none) (ha : s.csq.awaiting = w :: rest) (hk : w.kind = .still a.req.tag)
    (hf : (s.csq.later.find? fun x => x.req.tag = a.req.tag) = some a) :
    exec .renderStart s = .next (startRender w (stillJob w a s) (renderingStill a s)) := by
  simp only [exec, execRenderStart, hj, ha, hk, hf]
  rfl

/-- A still of the list takes the phase set under its tag. -/
theorem mem_setPhase {later : List StillTrack} {a : StillTrack} (p : StillPhase) (h : a ∈ later) :
    { a with phase := p } ∈ setPhase a.req.tag p later :=
  List.mem_map.2 ⟨a, h, if_pos rfl⟩

/-- The slot of a stream frame's render, once reserved and its header written (R44, R123). -/
theorem streamRender_slots (w : Waiting) (claim : Fin 4 × Bool) (s : State) :
    let t := startRender w (streamJob w claim.1 s) (reserveSlot claim .stream (takeWaiting s))
    t.ofq.slots[claim.1] =
      { state := .reserved, number := s.ofq.frameCounter, kind := .stream,
        form := some (formOf s.pfs.ws (streamJob w claim.1 s)), values := some w.values, pixels := [] } ∧
    ∀ k, k ≠ claim.1 → t.ofq.slots[k] = s.ofq.slots[k] := by
  refine ⟨(startRender_dest w (streamJob w claim.1 s) _).trans ?_, fun k hk => ?_⟩
  · simp [reserveSlot_ofq, Output.reserve, streamJob, startJob]
  · rw [startRender_slot_of_ne _ _ (show k ≠ (streamJob w claim.1 s).dest from hk), reserveSlot_ofq,
      Output.reserve_slot_of_ne _ _ hk, takeWaiting_ofq]

/-- Settles O21: a stream frame is rendered into the slot claimed for it or lost for want of one, a still is rendered into
its own slot. -/
theorem renderStarts : Obligations.RenderStarts := by
  intro s w rest hj ha
  have hrest := takeWaiting_awaiting ha
  refine ⟨fun hk => ⟨fun i drops hc => ?_, fun hc => ?_⟩, fun a hk hf => ?_⟩
  · obtain ⟨hslot, hothers⟩ := streamRender_slots w (i, drops) s
    obtain ⟨-, -, -, hcount, hready⟩ := s.ofq.reserve_spec i .stream
    refine ⟨_, streamJob w i s, exec_renderStart_claimed hj ha hk hc, ?_⟩
    simp only [pump_frame, pump_latches, startRender_rme, startRender_csq, startRender_cdu, startRender_frameCounter,
      startRender_readyOrder, reserveSlot_frame, reserveSlot_ofq, takeWaiting_ofq, hslot, hcount, true_and]
    exact ⟨hrest, rfl, rfl, rfl, rfl, rfl, rfl, rfl, rfl, rfl, rfl, rfl, hready, hothers,
      reserveSlot_dropped (claim := (i, drops)) (s := takeWaiting s) .stream⟩
  · refine ⟨_, exec_renderStart_unclaimed hj ha hk hc, by simpa using hrest, by simp, by simp,
      fun hw => ?_, fun hl => ?_⟩
    · simpa [releaseBuffer, takeWaiting] using LinearBuffer.release_whole hw
    · rw [pump_latches]
      exact raise_latched (src := .frameDropped) hl
  · obtain ⟨hsource, hdest, hkind, hgeometry, hformat, hfill, hrow⟩ := stillJob_spec w a s
    have hslot := startRender_dest w (stillJob w a s) (renderingStill a s)
    simp only [hdest] at hslot
    refine ⟨_, stillJob w a s, exec_renderStart_still hj ha hk hf, hrest, rfl, hsource, hdest, hkind, hgeometry, hformat,
      hfill, hrow, stillJob_sensor w s, fun hg => ?_, ?_, ?_, ?_, ?_⟩
    · obtain ⟨hcrop, hwidth, hheight⟩ := stillJob_corrected w s hg
      rw [hcrop, hwidth, hheight]
      refine ⟨fun c hc hw hh => ?_, fun c hc hout => ?_, fun hc => ?_⟩
      · simp [hc, keptCrop_inside hw hh]
      · simp [hc, keptCrop_outside hout]
      · simp [hc, keptCrop]
    · rw [hslot]
    · rw [hslot, ← hformat, ← hgeometry]
      rfl
    · rw [hslot]
      rfl
    · exact ⟨_, mem_setPhase .rendering (List.mem_of_find?_eq_some hf), rfl, rfl⟩

end Sys2Proof.Machine
end

section
namespace Sys2Proof.Machine

/-! ## The pixels of a picture (R45 to R54) -/

/-- Interpolation between the nodes of the mesh, with the position split into its tile and its place in it (R46, R47). -/
theorem meshPosition_eq (c : Content) {fu fv : Nat} (m n : Nat) (hu : fu < 16) (hv : fv < 16) :
    let node (a b : Nat) : Int × Int := c.mesh.getD ((c.width / 16 + 1) * b + a) (0, 0)
    let mix (f : Int × Int → Int) : Int :=
      ((((16 - fu) * (16 - fv) : Nat) : Int) * f (node m n) + ((fu * (16 - fv) : Nat) : Int) * f (node (m + 1) n) +
        (((16 - fu) * fv : Nat) : Int) * f (node m (n + 1)) + ((fu * fv : Nat) : Int) * f (node (m + 1) (n + 1)) +
        128) / 256
    meshPosition c (16 * m + fu) (16 * n + fv) = (mix Prod.fst, mix Prod.snd) := by
  have h1 : (16 * m + fu) / 16 = m := by omega
  have h2 : (16 * m + fu) % 16 = fu := by omega
  have h3 : (16 * n + fv) / 16 = n := by omega
  have h4 : (16 * n + fv) % 16 = fv := by omega
  simp only [meshPosition, h1, h2, h3, h4]

/-- The field of R48. -/
theorem inField_iff (p : Int × Int) : inField p = true ↔ (0 ≤ p.1 ∧ p.1 ≤ 20464) ∧ 0 ≤ p.2 ∧ p.2 ≤ 16368 := by
  simp [inField, and_assoc]

/-- The bilinear sample, with the position split into its pixel and its place in it (R49). -/
theorem sampleAt_eq (rows : List (List Nat)) {ax ay : Nat} (x y : Nat) (hx : ax < 16) (hy : ay < 16) :
    sampleAt rows (16 * x + ax) (16 * y + ay) =
      ((16 - ax) * (16 - ay) * linearAt rows x y + ax * (16 - ay) * linearAt rows (x + 1) y +
        (16 - ax) * ay * linearAt rows x (y + 1) + ax * ay * linearAt rows (x + 1) (y + 1) + 128) / 256 := by
  have h1 : (16 * x + ax) / 16 = x := by omega
  have h2 : (16 * x + ax) % 16 = ax := by omega
  have h3 : (16 * y + ay) / 16 = y := by omega
  have h4 : (16 * y + ay) % 16 = ay := by omega
  have hterm (weight l : Nat) : (if weight = 0 then 0 else weight * l) = weight * l := by
    split_ifs with h <;> simp [h]
  simp only [sampleAt, h1, h2, h3, h4, hterm, Nat.add_zero]

theorem renderPixel_sensor (c : Content) {j : RenderJob} (rows : List (List Nat)) (u v : Nat)
    (h : j.geometry = .sensor) : renderPixel c j rows u v = formatValue c.tone j.format (linearAt rows u v) := by
  simp only [renderPixel, h]

/-- A CORRECTED pixel by its mesh position `p`: out of field the fill value (R48), in field the sample there (R49). -/
theorem renderPixel_corrected (c : Content) {j : RenderJob} (rows : List (List Nat)) {u v : Nat} {p : Int × Int}
    (h : j.geometry = .corrected)
    (hp : meshPosition c ((j.crop.map Crop.x0).getD 0 + u) ((j.crop.map Crop.y0).getD 0 + v) = p) :
    renderPixel c j rows u v =
      if inField p then formatValue c.tone j.format (sampleAt rows p.1.toNat p.2.toNat)
      else fillValue j.format j.fill := by
  simp only [renderPixel, h, hp]

theorem renderPixel_outOfField (c : Content) {j : RenderJob} (rows : List (List Nat)) {u v : Nat} {p : Int × Int}
    (h : j.geometry = .corrected)
    (hp : meshPosition c ((j.crop.map Crop.x0).getD 0 + u) ((j.crop.map Crop.y0).getD 0 + v) = p)
    (hout : p.1 < 0 ∨ 20464 < p.1 ∨ p.2 < 0 ∨ 16368 < p.2) :
    renderPixel c j rows u v = fillValue j.format j.fill := by
  rw [renderPixel_corrected c rows h hp, if_neg]
  rw [inField_iff]
  omega

theorem renderPixel_inField (c : Content) {j : RenderJob} (rows : List (List Nat)) {u v : Nat} {p : Int × Int}
    {x16 y16 : Nat} (h : j.geometry = .corrected)
    (hp : meshPosition c ((j.crop.map Crop.x0).getD 0 + u) ((j.crop.map Crop.y0).getD 0 + v) = p)
    (hx : p.1 = (x16 : Int)) (hy : p.2 = (y16 : Int)) (hx' : x16 ≤ 20464) (hy' : y16 ≤ 16368) :
    renderPixel c j rows u v = formatValue c.tone j.format (sampleAt rows x16 y16) := by
  rw [renderPixel_corrected c rows h hp, if_pos, hx, hy, Int.toNat_natCast, Int.toNat_natCast]
  rw [inField_iff]
  omega

@[simp] theorem renderRow_length (c : Content) (j : RenderJob) (rows : List (List Nat)) (v : Nat) :
    (renderRow c j rows v).length = j.width := by simp [renderRow]

theorem renderRow_getElem? (c : Content) {j : RenderJob} (rows : List (List Nat)) {u : Nat} (v : Nat) (h : u < j.width) :
    (renderRow c j rows v)[u]? = some (renderPixel c j rows u v) := by simp [renderRow, h]

@[simp] theorem renderRest_length (c : Content) (j : RenderJob) (rows : List (List Nat)) :
    (renderRest c j rows).length = j.height - j.nextRow := by simp [renderRest]

theorem renderRest_getElem? (c : Content) {j : RenderJob} (rows : List (List Nat)) {k : Nat}
    (h : k < j.height - j.nextRow) : (renderRest c j rows)[k]? = some (renderRow c j rows (j.nextRow + k)) := by
  simp [renderRest, h]

/-! ## The completion of a render (R45, R56, R126) -/

/-- Writing rows of a picture changes the slot's pixels alone (R45). -/
theorem writeRows_slot (i : Fin 4) (rows : List (List Nat)) (s : State) :
    (writeRows i rows s).ofq.slots[i] = { s.ofq.slots[i] with pixels := s.ofq.slots[i].pixels ++ rows } := by
  simp [writeRows]

theorem writeRows_slot_of_ne {i k : Fin 4} (rows : List (List Nat)) (s : State) (h : k ≠ i) :
    (writeRows i rows s).ofq.slots[k] = s.ofq.slots[k] := by
  simp [writeRows, Fin.val_inj, h.symm]

theorem writeRows_kind (i k : Fin 4) (rows : List (List Nat)) (s : State) :
    (writeRows i rows s).ofq.slots[k].kind = s.ofq.slots[k].kind := by
  by_cases h : k = i
  · rw [h, writeRows_slot]
  · rw [writeRows_slot_of_ne rows s h]

theorem queuePicture_slot (i : Fin 4) (s : State) :
    (queuePicture i s).ofq.slots[i] = { s.ofq.slots[i] with state := .ready } := by
  simp [queuePicture, Output.setSlotState]

theorem queuePicture_slot_of_ne {i k : Fin 4} (s : State) (h : k ≠ i) :
    (queuePicture i s).ofq.slots[k] = s.ofq.slots[k] := by
  simp [queuePicture, Output.setSlotState, Fin.val_inj, h.symm]

/-- The place a slot takes in the ready order depends on the order and the slots' kinds alone (R126). -/
theorem Output.joinReady_congr {o o' : Output} (hr : o'.readyOrder = o.readyOrder)
    (hk : ∀ k : Fin 4, o'.slots[k].kind = o.slots[k].kind) (i : Fin 4) : o'.joinReady i = o.joinReady i := by
  simp only [Output.joinReady, hr, hk]

theorem Output.joinReady_stream {o : Output} {i : Fin 4} (h : o.slots[i].kind = .stream) :
    o.joinReady i = o.readyOrder ++ [i] := by
  simp only [Output.joinReady, h]

/-- A still joins after the stills and before every stream frame (R126). -/
theorem Output.joinReady_still {o : Output} {i : Fin 4} {tag : Nat} {stills streams : List (Fin 4)}
    (h : o.slots[i].kind = .still tag) (hr : o.readyOrder = stills ++ streams)
    (hs : ∀ k ∈ stills, o.slots[k].kind ≠ .stream) (hf : ∀ k ∈ streams, o.slots[k].kind = .stream) :
    o.joinReady i = stills ++ [i] ++ streams := by
  have h1 : stills.filter (fun k => o.slots[k].kind ≠ .stream) = stills := List.filter_eq_self.2 (by simpa using hs)
  have h2 : streams.filter (fun k => o.slots[k].kind ≠ .stream) = [] := List.filter_eq_nil_iff.2 (by simpa using hf)
  have h3 : stills.filter (fun k => o.slots[k].kind = .stream) = [] := List.filter_eq_nil_iff.2 (by simpa using hs)
  have h4 : streams.filter (fun k => o.slots[k].kind = .stream) = streams := List.filter_eq_self.2 (by simpa using hf)
  simp only [Output.joinReady, h, hr, List.filter_append, h1, h2, h3, h4, List.append_nil, List.nil_append]

/-- The part after a job's render completes (R45, R56, R126). -/
def renderedState (j : RenderJob) (s : State) : State :=
  let s' := queuePicture j.dest (writeRows j.dest (renderRest s.pfs.ws.content j (s.phc.lin j.source).rows) s)
  ((s'.setPhc (s.phc.setLin j.source LinearBuffer.blank)).setCsq
    { s.csq with later := queuedStills j.kind s.csq.later }).setRme { s.rme with job := none }

theorem exec_renderComplete_idle {s : State} (h : s.rme.job = none) : exec .renderComplete s = .next s := by
  simp only [exec, execRenderComplete, h]

theorem exec_renderComplete {s : State} {j : RenderJob} (h : s.rme.job = some j) :
    exec .renderComplete s = .next (renderedState j s) := by
  simp only [exec, execRenderComplete, h]
  rfl

/-- The rendered slot is READY with the rows left written after those it held (R45, R126). -/
theorem renderedState_dest (j : RenderJob) (s : State) :
    (renderedState j s).ofq.slots[j.dest] = { s.ofq.slots[j.dest] with
      state := .ready,
      pixels := s.ofq.slots[j.dest].pixels ++ renderRest s.pfs.ws.content j (s.phc.lin j.source).rows } :=
  (queuePicture_slot j.dest (writeRows j.dest _ s)).trans (by rw [writeRows_slot])

theorem renderedState_slot_of_ne {j : RenderJob} {k : Fin 4} (s : State) (h : k ≠ j.dest) :
    (renderedState j s).ofq.slots[k] = s.ofq.slots[k] :=
  (queuePicture_slot_of_ne _ h).trans (writeRows_slot_of_ne _ s h)

theorem renderedState_readyOrder (j : RenderJob) (s : State) :
    (renderedState j s).ofq.readyOrder = s.ofq.joinReady j.dest :=
  Output.joinReady_congr (o := s.ofq) (o' := (writeRows j.dest _ s).ofq) rfl (fun k => writeRows_kind j.dest k _ s) j.dest

theorem renderedState_csq (j : RenderJob) (s : State) :
    (renderedState j s).csq = { s.csq with later := queuedStills j.kind s.csq.later } := rfl

/-- Settles O23: the part after a render's completion, block by block, and each pixel of a row. -/
theorem renderCompletes : Obligations.RenderCompletes := by
  refine ⟨fun s => ⟨exec_renderComplete_idle, fun j hj => ?_⟩, fun c j rows v => ⟨renderRow_length c j rows v, ?_⟩⟩
  · refine ⟨_, exec_renderComplete hj, rfl, by simp [renderedState, LinearBuffer.blank], ?_⟩
    simp only [renderedState_dest, renderedState_readyOrder, renderedState_csq, true_and]
    exact ⟨⟨_, rfl, renderRest_length _ _ _, fun k hk => renderRest_getElem? _ _ hk⟩,
      fun k hk => renderedState_slot_of_ne s hk, fun hk => by rw [hk]; rfl, fun tag hk => by rw [hk]; rfl,
      Output.joinReady_stream, fun tag stills streams => Output.joinReady_still⟩
  · intro u hu curve shown source
    have hrow {l : Nat} (h : renderPixel c j rows u v = l) : (renderRow c j rows v)[u]? = some l :=
      (renderRow_getElem? c rows v hu).trans (congrArg some h)
    refine ⟨fun hg => hrow (renderPixel_sensor c rows u v hg), ?_⟩
    intro m fu n fv hfu hfv hm hn hg node mix x16 y16
    have hp : meshPosition c ((j.crop.map Crop.x0).getD 0 + u) ((j.crop.map Crop.y0).getD 0 + v) = (x16, y16) := by
      rw [hm, hn]
      exact meshPosition_eq c m n hfu hfv
    refine ⟨fun hout => hrow (renderPixel_outOfField c rows hg hp hout),
      fun x ax y ay hax hay hx hy hx' hy' => hrow ?_⟩
    rw [renderPixel_inField c rows hg hp hx hy hx' hy', sampleAt_eq rows x y hax hay]
    rfl

/-! ## Steps and idle moments (R45) -/

theorem step_setPending_cons (i : Instr) (s : State) (rest : List Instr) :
    step (s.setPending (i :: rest)) = exec i (s.setPending rest) := rfl

theorem step_idle {s : State} (h : s.pending = []) : step s = .next (idleMoment s) := by
  simp only [step, h]

theorem idleMoment_noRender {s : State} (h : s.rme.job = none) : idleMoment s = s := by
  simp only [idleMoment, h]

/-- The last row of a picture is left to RENDER_COMPLETE (log entry 8). -/
theorem idleMoment_lastRow {s : State} {j : RenderJob} (h : s.rme.job = some j) (hr : j.height ≤ j.nextRow + 1) :
    idleMoment s = s := by
  simp only [idleMoment, h, if_neg (Nat.not_lt.2 hr)]

theorem idleMoment_nextRow {s : State} {j : RenderJob} (h : s.rme.job = some j) (hr : j.nextRow + 1 < j.height) :
    idleMoment s =
      (writeRows j.dest [renderRow s.pfs.ws.content j (s.phc.lin j.source).rows j.nextRow] s).setRme
        { s.rme with job := some { j with nextRow := j.nextRow + 1 } } := by
  simp only [idleMoment, h, if_pos hr]

/-- Settles O1: the front command is carried out, and an idle moment writes at most one row, never a picture's last. -/
theorem stepTakesFrontCommandOrIdles : Obligations.StepTakesFrontCommandOrIdles := by
  refine ⟨step_setPending_cons, fun s hq => ?_⟩
  rw [step_idle hq]
  refine ⟨fun hj => ?_, fun j hj => ⟨fun hr => ?_, fun hr => ?_⟩⟩
  · rw [idleMoment_noRender hj]
  · rw [idleMoment_lastRow hj hr]
  · rw [idleMoment_nextRow hj hr]
    rfl

end Sys2Proof.Machine
end

section
namespace Sys2Proof.Machine

/-! ## Zones and their condition sources (R60, R63, R64, R68 to R71) -/

/-- ZONE_OUT is live exactly when some enabled zone is LOW or HIGH (R71). -/
theorem zoneOut_iff (zones : Vector Zone 8) : zoneOut zones = true ↔ ∃ k : Fin 8, zones[k].defn.enabled = true ∧
    (zones[k].result.level = .low ∨ zones[k].result.level = .high) := by
  simp [zoneOut, Vector.any_eq_true, Fin.exists_iff]

/-- GLARE is live exactly when some enabled zone's glare flag is set (R71). -/
theorem glareSeen_iff (zones : Vector Zone 8) : glareSeen zones = true ↔
    ∃ k : Fin 8, zones[k].defn.enabled = true ∧ zones[k].result.glare = true := by
  simp [glareSeen, Vector.any_eq_true, Fin.exists_iff]

/-- The unit's report records the zones' values at ZONE_OUT and GLARE (R71). -/
theorem reportZones_live (s : State) : (reportZones s).cdu.live.getLsbD 5 = zoneOut s.mtu.zones ∧
    (reportZones s).cdu.live.getLsbD 6 = glareSeen s.mtu.zones := by
  rw [reportZones, report_live_bit _ _ _ 5 (by decide), report_live_bit _ _ _ 5 (by decide),
    report_live_bit _ _ _ 6 (by decide)]
  exact ⟨rfl, rfl⟩

theorem reportUnderlit_live (s : State) {n : Nat} (hn : n < 16) :
    (reportUnderlit s).cdu.live.getLsbD n = if n = 7 then s.lpc.underlit else s.cdu.live.getLsbD n :=
  report_live_bit .underlit _ s n hn

/-- The controller's UNDERLIT is R91's condition. -/
theorem underlit_iff (l : Lamps) : l.underlit = true ↔ UnderlitHolds l := by
  have hbank : ∀ b, l.bankUnderlit b = true ↔ ∃ z : Fin 8, (l.bank b).mode = .auto ∧
      min (l.bank b).max (min (l.derateLimit b) (l.ceiling / (l.bank b).expo)) ≤ (l.bank b).level ∧
      (l.bank b).steer = some z ∧ l.steering[z].defn.bank = b ∧ l.steering[z].result.level = .low := by
    intro b
    cases hs : (l.bank b).steer <;>
      simp [Lamps.bankUnderlit, Lamps.standingMax, Lamps.effectiveMax, hs, and_assoc]
  simp only [Lamps.underlit, Bool.or_eq_true, hbank, UnderlitHolds]
  constructor
  · rintro (h | h)
    · exact ⟨.flood, h⟩
    · exact ⟨.beam, h⟩
  · rintro ⟨b, h⟩
    cases b
    · exact .inl h
    · exact .inr h

/-! ## ZSET (R63, R64) -/

/-- The 13 bytes of a ZSET body (R63). -/
def rawZone (zone enabled col0 col1 row0 row1 bank : Byte) (low high glare : Nat) : List Byte :=
  [zone, enabled, col0, col1, row0, row1, bank] ++ le16 low ++ le16 high ++ le16 glare

theorem bankOfByte_eq_some {b : Byte} {x : Bank} : bankOfByte b = some x ↔ b = byte (bankCode x) := by
  rw [← BitVec.toNat_inj]
  constructor
  · intro h
    unfold bankOfByte at h
    split at h <;> cases h <;> assumption
  · intro h
    cases x <;> simp only [bankOfByte, h] <;> rfl

theorem bankOfByte_eq_none {b : Byte} (h : 1 < b.toNat) : bankOfByte b = none := by
  unfold bankOfByte
  split
  · omega
  · omega
  · rfl

theorem finOf_val {n : Nat} (i : Fin n) : finOf n i.val = some i := dif_pos i.isLt

theorem finOf_eq_none {n k : Nat} (h : n ≤ k) : finOf n k = none := dif_neg (Nat.not_lt.2 h)

section
variable {zone enabled col0 col1 row0 row1 bank : Byte} {low high glare : Nat}

theorem bodyAt_rawZone :
    let body := rawZone zone enabled col0 col1 row0 row1 bank low high glare
    bodyAt body 0 = zone.toNat ∧ bodyAt body 1 = enabled.toNat ∧ bodyAt body 2 = col0.toNat ∧
      bodyAt body 3 = col1.toNat ∧ bodyAt body 4 = row0.toNat ∧ bodyAt body 5 = row1.toNat ∧
      body.getD 6 0 = bank := ⟨rfl, rfl, rfl, rfl, rfl, rfl, rfl⟩

theorem bodyAt16_rawZone (hl : low < 65536) (hh : high < 65536) (hg : glare < 65536) :
    let body := rawZone zone enabled col0 col1 row0 row1 bank low high glare
    bodyAt16 body 7 = low ∧ bodyAt16 body 9 = high ∧ bodyAt16 body 11 = glare :=
  ⟨le16_toNat hl, le16_toNat hh, le16_toNat hg⟩

/-- The checks of R63 that refuse a ZSET body. -/
def ZoneRefused (zone enabled col0 col1 row0 row1 bank : Byte) (low high : Nat) : Prop :=
  7 < zone.toNat ∨ 1 < enabled.toNat ∨ 19 < col0.toNat ∨ 19 < col1.toNat ∨ 15 < row0.toNat ∨ 15 < row1.toNat ∨
    col1.toNat < col0.toNat ∨ row1.toNat < row0.toNat ∨ 1 < bank.toNat ∨ min high 4095 < min low 4095

theorem readZone_refused (hl : low < 65536) (hh : high < 65536) (hg : glare < 65536)
    (h : ZoneRefused zone enabled col0 col1 row0 row1 bank low high) :
    readZone (rawZone zone enabled col0 col1 row0 row1 bank low high glare) = none := by
  cases hz : finOf 8 zone.toNat with
  | none => simp only [readZone, bodyAt_rawZone, hz]; rfl
  | some i =>
    cases hb : bankOfByte bank with
    | none => simp only [readZone, bodyAt_rawZone, hz, hb]; rfl
    | some b =>
      have hzone : ¬7 < zone.toNat := fun h => by simp [finOf_eq_none h] at hz
      have hbank : ¬1 < bank.toNat := fun h => by simp [bankOfByte_eq_none h] at hb
      simp only [readZone, bodyAt_rawZone, bodyAt16_rawZone hl hh hg, hz, hb, Option.bind_eq_bind, Option.bind_some]
      refine if_neg ?_
      unfold ZoneRefused at h
      omega

/-- A ZSET body of a valid definition is read as that definition, its magnitudes clamped (R63). -/
theorem readZone_accepted (hl : low < 65536) (hh : high < 65536) (hg : glare < 65536) {i : Fin 8} {d : ZoneDef}
    (hv : d.valid) (hlow : d.low = min low 4095) (hhigh : d.high = min high 4095) (hglare : d.glareLimit = min glare 1024) :
    readZone (rawZone (byte i.val) (flagByte d.enabled) (byte d.col0) (byte d.col1) (byte d.row0) (byte d.row1)
      (byte (bankCode d.bank)) low high glare) = some (i, d) := by
  obtain ⟨hc, hc1, hr, hr1, hle, -, -⟩ := hv
  have hi : (byte i.val).toNat = i.val := byte_toNat (by omega)
  have he : ((flagByte d.enabled).toNat = 1) = (d.enabled = true) := by cases d.enabled <;> decide
  have he1 : (flagByte d.enabled).toNat ≤ 1 := by cases d.enabled <;> decide
  have hb : bankOfByte (byte (bankCode d.bank)) = some d.bank := bankOfByte_eq_some.2 rfl
  simp only [readZone, bodyAt_rawZone, bodyAt16_rawZone hl hh hg, hi, finOf_val, hb,
    byte_toNat (show d.col0 < 256 by omega), byte_toNat (show d.col1 < 256 by omega),
    byte_toNat (show d.row0 < 256 by omega), byte_toNat (show d.row1 < 256 by omega), he, Bool.decide_eq_true, ← hlow,
    ← hhigh, ← hglare, Option.bind_eq_bind, Option.bind_some]
  exact if_pos ⟨he1, hc1, hr1, hc, hr, hle⟩

theorem zoneClamped_rawZone (hl : low < 65536) (hh : high < 65536) (hg : glare < 65536) :
    zoneClamped (rawZone zone enabled col0 col1 row0 row1 bank low high glare) = true ↔
      4095 < low ∨ 4095 < high ∨ 1024 < glare := by
  simp only [zoneClamped, bodyAt16_rawZone hl hh hg, Bool.or_eq_true, decide_eq_true_eq, or_assoc]

end

/-- What a ZSET of the definition `d` for zone `i` leaves, answered with `st`: the zone table and its two condition sources
change, and nothing else of the Metering Unit, the lamps and the sequencer (R64, R71). -/
structure ZoneStored (i : Fin 8) (d : ZoneDef) (st : Status) (s t : State) : Prop where
  reply : newestReply t = some (replyFrame 0x14 st (zoneDefBytes i d))
  mtu : t.mtu = s.mtu.define i d
  lpc : t.lpc = s.lpc
  csq : t.csq = s.csq
  zoneOut : t.cdu.live.getLsbD 5 = zoneOut t.mtu.zones
  glare : t.cdu.live.getLsbD 6 = glareSeen t.mtu.zones

theorem zsetOwner_read {body : List Byte} {i : Fin 8} {d : ZoneDef} (h : readZone body = some (i, d)) (s : State) :
    zsetOwner body s = (⟨if zoneClamped body then .okClamped else .ok, zoneDefBytes i d⟩,
      reportZones (s.setMtu (s.mtu.define i d))) := by
  simp only [zsetOwner, h]

theorem zset_stored {s : State} {body : List Byte} {i : Fin 8} {d : ZoneDef} (hs : Served (.zset body) s)
    (hl : body.length = 13) (h : readZone body = some (i, d)) :
    Completes (.zset body) s (ZoneStored i d (if zoneClamped body then .okClamped else .ok) s) := by
  obtain ⟨⟨q, hq, ht⟩, hup⟩ := hs
  cases hq
  obtain ⟨hold, e⟩ := serve_eq (owner := zsetOwner body) ht rfl (by simp [lengthOk, hl]) (.inl hup)
  rw [zsetOwner_read h] at e
  obtain ⟨hout, hglare⟩ := reportZones_live ((s.setCml { s.cml with holding := hold }).setMtu (s.mtu.define i d))
  refine ⟨_, congrArg Host.Outcome.next e, newestReply_composed _ _ _, by simp, by simp, by simp, ?_, ?_⟩
  · simpa using hout
  · simpa using hglare

theorem zset_refused {s : State} {body : List Byte} (hs : Served (.zset body) s) (hl : body.length = 13)
    (h : readZone body = none) : Answers (.zset body) 0x14 .badParam [] s s := by
  obtain ⟨⟨q, hq, ht⟩, hup⟩ := hs
  cases hq
  refine ⟨_, rfl, serve_answered (r := ⟨.badParam, []⟩) ht rfl (by simp [lengthOk, hl]) (.inl hup) fun hold => ?_⟩
  simp only [zsetOwner, h]
  exact ⟨rfl, rfl⟩

/-- The zone table after a ZSET (R64). -/
theorem define_zones (m : Metering) (i k : Fin 8) (d : ZoneDef) : (m.define i d).zones[k] =
    if k = i then { defn := d, result := ZoneResult.cleared, revised := true } else m.zones[k] := by
  simp [Metering.define, Vector.getElem_set, Fin.ext_iff, eq_comm]

/-- Settles O45: a valid definition, a refused body, and a body whose magnitudes are clamped. -/
theorem zoneDefined : Obligations.ZoneDefined := by
  refine ⟨fun s i d hv hs => ?_, fun s zone enabled col0 col1 row0 row1 bank low high glare hl hh hg hs =>
    ⟨fun h => ?_, fun i d hv hz he hc0 hc1 hr0 hr1 hb hlow hhigh hglare => ?_⟩⟩
  · obtain ⟨-, -, -, -, hle, hhi, hgl⟩ := id hv
    have hread : readZone (zoneDefBytes i d) = some (i, d) := readZone_accepted (low := d.low) (high := d.high)
      (glare := d.glareLimit) (by omega) (by omega) (by omega) hv (by omega) (by omega) (by omega)
    have hclamp : zoneClamped (zoneDefBytes i d) = false := Bool.eq_false_iff.2 fun h => by
      have := (zoneClamped_rawZone (low := d.low) (high := d.high) (glare := d.glareLimit) (by omega) (by omega)
        (by omega)).1 h
      omega
    obtain ⟨t, ht, hreply, hmtu, hlpc, hcsq, hout, hglare⟩ := zset_stored hs rfl hread
    rw [hclamp] at hreply
    have hzone : t.mtu.zones[i] = { defn := d, result := ZoneResult.cleared, revised := true } := by
      rw [hmtu, define_zones, if_pos rfl]
    refine ⟨t, ht, hreply, ?_⟩
    simp only [hzone, ZoneResult.cleared, true_and]
    refine ⟨fun k hk => by rw [hmtu, define_zones, if_neg hk], by rw [hmtu]; rfl, by rw [hmtu]; rfl, hlpc, hcsq, ?_, ?_⟩
    · rw [hout, zoneOut_iff]
    · rw [hglare, glareSeen_iff]
  · exact zset_refused hs rfl (readZone_refused hl hh hg h)
  · subst hz he hc0 hc1 hr0 hr1 hb
    have hread := readZone_accepted hl hh hg (i := i) hv hlow hhigh hglare
    obtain ⟨t, ht, hreply, hmtu, -⟩ := zset_stored hs rfl hread
    refine ⟨t, ht, hreply.trans ?_, ?_, fun k hk => ?_⟩
    · exact congrArg (fun st => some (replyFrame 0x14 st (zoneDefBytes i d)))
        (if_congr (zoneClamped_rawZone hl hh hg) rfl rfl)
    · rw [hmtu, define_zones, if_pos rfl]
    · rw [hmtu, define_zones, if_neg hk]

end Sys2Proof.Machine
end

section
namespace Sys2Proof.Machine

/-! ## The auto-level loop (R89, R90) -/

/-- The controller's settings after it takes the zones of a completed stream exposure of bank `b` and runs the loop (R70, R89). -/
def Lamps.afterLoop (l : Lamps) (b : Bank) (number : Word32) (zones : Vector Zone 8) : Lamps :=
  { l with steering := zones }.setBank b
    { l.bank b with level := { l with steering := zones }.loopStored b number }

theorem takeZones_lpc (b : Bank) (number : Word32) (s : State) :
    (takeZones b number s).lpc = s.lpc.afterLoop b number s.mtu.zones := by
  simp only [takeZones, reportUnderlit_frame, State.setLpc_lpc]
  cases b <;> rfl

theorem takeZones_live (b : Bank) (number : Word32) (s : State) {n : Nat} (hn : n < 16) :
    (takeZones b number s).cdu.live.getLsbD n =
      if n = 7 then (takeZones b number s).lpc.underlit else s.cdu.live.getLsbD n := by
  simp only [takeZones, reportUnderlit_live _ hn, reportUnderlit_frame]
  rfl

theorem Lamps.bank_setBank (l : Lamps) (b c : Bank) (x : BankLamp) :
    (l.setBank b x).bank c = if c = b then x else l.bank c := by
  cases b <;> cases c <;> rfl

section
variable (l : Lamps) (b : Bank) (number : Word32) (zones : Vector Zone 8)

theorem afterLoop_steering : (l.afterLoop b number zones).steering = zones := by simp [Lamps.afterLoop]

/-- The loop changes its bank's stored level alone. -/
theorem afterLoop_bank (c : Bank) : (l.afterLoop b number zones).bank c =
    if c = b then { l.bank b with level := { l with steering := zones }.loopStored b number } else l.bank c := by
  rw [Lamps.afterLoop, Lamps.bank_setBank]
  cases c <;> rfl

end

section
variable {l : Lamps} {b : Bank} {number : Word32} {k : Fin 8} {lit : LastLit}

/-- R89's conditions for the loop to run for the exposure `number` of bank `b`, steered by zone `k`. -/
def LoopRuns (l : Lamps) (b : Bank) (number : Word32) (k : Fin 8) (lit : LastLit) : Prop :=
  (l.bank b).mode = .auto ∧ l.steering[k].defn.enabled = true ∧ l.steering[k].defn.bank = b ∧
    l.steering[k].result.measured = some number ∧ lit.number = number ∧ 0 < lit.used

/-- The loop runs when its conditions hold, and its level is bounded to MIN..MAX (R89, R90). -/
theorem loopStored_runs (hk : (l.bank b).steer = some k) (hl : (l.bank b).lastLit = some lit)
    (h : LoopRuns l b number k lit) : l.loopStored b number =
      (loopLevel lit.used l.steering[k].result.mean l.steering[k].result.glare (l.bank b).target l.deadband).elim
        (l.bank b).level (boundedLevel (l.bank b)) := by
  simp only [Lamps.loopStored, hk, hl]
  refine (if_pos h).trans ?_
  cases loopLevel lit.used l.steering[k].result.mean l.steering[k].result.glare (l.bank b).target l.deadband <;> rfl

/-- Without a steering zone, without a last lit, and when a condition fails, the stored level stands (R89). -/
theorem loopStored_stands (h : ∀ k lit, (l.bank b).steer = some k → (l.bank b).lastLit = some lit →
    ¬LoopRuns l b number k lit) : l.loopStored b number = (l.bank b).level := by
  cases hk : (l.bank b).steer with
  | none => simp only [Lamps.loopStored, hk]
  | some k =>
    cases hl : (l.bank b).lastLit with
    | none => simp only [Lamps.loopStored, hk, hl]
    | some lit =>
      simp only [Lamps.loopStored, hk, hl]
      exact if_neg (h k lit hk hl)

end

section
variable {used mean target deadband : Nat}

/-- The loop's level by R90's cases: on glare, within the deadband, and outside it. -/
theorem loopLevel_glare : loopLevel used mean true target deadband = some (used / 2) := rfl

theorem loopLevel_within (h : mean ≤ target + deadband) (h' : target ≤ mean + deadband) :
    loopLevel used mean false target deadband = none := by
  have : ((mean : Int) - target).natAbs ≤ deadband := by omega
  simp [loopLevel, this]

theorem loopLevel_outside (h : target + deadband < mean ∨ mean + deadband < target) :
    loopLevel used mean false target deadband = some (if mean = 0 then 2 * used
      else min (max ((used * target + mean / 2) / mean) (used / 2)) (2 * used)) := by
  have : ¬((mean : Int) - target).natAbs ≤ deadband := by omega
  simp only [loopLevel, this, if_false, Bool.false_eq_true]
  split <;> rfl

end

/-! ## A completed stream exposure at the Metering Unit (R68 to R71) -/

/-- The zone table after a measurement: a zone it measured, not redefined since, takes its results (R68). -/
theorem updatedZones_measured {zones : Vector Zone 8} {m : Measurement} {z : MeasuredZone}
    (hf : (m.zones.find? fun x => x.index = z.index) = some z) : (updatedZones zones m)[z.index] =
      if zones[z.index].revised then zones[z.index] else { zones[z.index] with result := z.result m.number } := by
  simp only [updatedZones, Fin.getElem_fin, Vector.getElem_ofFn, Fin.eta, hf]

theorem updatedZones_other {zones : Vector Zone 8} {m : Measurement} {i : Fin 8} (h : ∀ z ∈ m.zones, z.index ≠ i) :
    (updatedZones zones m)[i] = zones[i] := by
  have hf : (m.zones.find? fun x => x.index = i) = none := by simpa using h
  simp only [updatedZones, Fin.getElem_fin, Vector.getElem_ofFn, Fin.eta, hf]

/-- A completed exposure with a measurement open, at the Metering Unit, the lamps and their condition sources. -/
structure ZonesTaken (m : Measurement) (s t : State) : Prop where
  zones : t.mtu.zones = updatedZones s.mtu.zones m
  measurement : t.mtu.measurement = none
  lpc : t.lpc = s.lpc.afterLoop m.bank m.number t.mtu.zones
  underlit : t.cdu.live.getLsbD 7 = t.lpc.underlit
  zoneOut : t.cdu.live.getLsbD 5 = zoneOut t.mtu.zones
  glare : t.cdu.live.getLsbD 6 = glareSeen t.mtu.zones

theorem meteringCompleted_taken {s : State} {m : Measurement} (hm : s.mtu.measurement = some m) :
    ZonesTaken m s (meteringCompleted s) := by
  have e : meteringCompleted s = takeZones m.bank m.number
      (reportZones (s.setMtu { s.mtu with zones := updatedZones s.mtu.zones m, measurement := none })) := by
    simp only [meteringCompleted, hm]
  obtain ⟨hout, hglare⟩ :=
    reportZones_live (s.setMtu { s.mtu with zones := updatedZones s.mtu.zones m, measurement := none })
  rw [e]
  refine ⟨by simp, by simp, by simp [takeZones_lpc], takeZones_live _ _ _ (by decide), ?_, ?_⟩
  · rw [takeZones_live _ _ _ (by decide)]
    simpa using hout
  · rw [takeZones_live _ _ _ (by decide)]
    simpa using hglare

/-- What follows the unit in a step that leaves it, the lamps and the live set alone does not bear on what it did. -/
theorem ZonesTaken.congr {m : Measurement} {s s' t t' : State} (h : ZonesTaken m s t) (hs : s'.mtu = s.mtu)
    (hl : s'.lpc = s.lpc) (hm : t'.mtu = t.mtu) (ht : t'.lpc = t.lpc) (hc : t'.cdu.live = t.cdu.live) :
    ZonesTaken m s' t' := by
  obtain ⟨h1, h2, h3, h4, h5, h6⟩ := h
  constructor <;> simp only [hs, hl, hm, ht, hc] <;> assumption

theorem ZonesTaken.raise {m : Measurement} {s t : State} (h : ZonesTaken m s t) (src : Source) :
    ZonesTaken m s (raise src t) := h.congr rfl rfl (by simp) (by simp) (by simp)

theorem ZonesTaken.pump {m : Measurement} {s t : State} (h : ZonesTaken m s t) : ZonesTaken m s (pump t) :=
  h.congr rfl rfl (by simp) (by simp) (by simp)

theorem completeExposure_zones {s : State} {r : ExposureRecord} {m : Measurement} (hx : s.csq.exposure = some r)
    (hm : s.mtu.measurement = some m) : ZonesTaken m s (completeExposure s) := by
  rw [completeExposure_eq hx]
  let r' : ExposureRecord := { r with state := .complete, patchedLines := s.pxr.patched }
  have h : ZonesTaken m s (takeCompletion r' (s.released .idle r')) :=
    (meteringCompleted_taken (s := photometricEnd r' true (s.released .idle r')) (by simpa [State.released] using hm)).congr
      (by simp [State.released]) (by simp [State.released]) (by simp [takeCompletion]) (by simp [takeCompletion])
      (by simp [takeCompletion])
  dsimp only
  split
  · exact h.raise .sensorFault
  · exact h

/-- The measured zone's results, each by its rule (R60, R68, R69). -/
theorem measuredZone_result (z : MeasuredZone) (number : Word32) :
    let n := (z.defn.col1 - z.defn.col0 + 1) * (z.defn.row1 - z.defn.row0 + 1) * 4096
    let mean := (z.sum + n / 2) / n
    let clip := (z.clipped * 1024 + n / 2) / n
    (z.result number).mean = mean ∧ (z.result number).clip = clip ∧ (z.result number).measured = some number ∧
    (mean < z.defn.low → (z.result number).level = .low) ∧
    (z.defn.low ≤ mean → z.defn.high < mean → (z.result number).level = .high) ∧
    (z.defn.low ≤ mean → mean ≤ z.defn.high → (z.result number).level = .inside) ∧
    (z.result number).glare = decide (z.defn.glareLimit < clip) := by
  refine ⟨rfl, rfl, rfl, fun h => if_pos h, fun h h' => (if_neg (Nat.not_lt.2 h)).trans (if_pos h'),
    fun h h' => (if_neg (Nat.not_lt.2 h)).trans (if_neg (Nat.not_lt.2 h')), rfl⟩

/-- Settles O55: the readout completes; the zones take their results, and the loop runs or not by R89's conditions. -/
theorem zoneResultsDriveLoop : Obligations.ZoneResultsDriveLoop := by
  intro s r m hs hn hr hp hx hm
  have hz : ZonesTaken m s (pump (endReadout s)) := by
    rw [endReadout_completes hr (by omega), handMissing_whole hn]
    have hc := completeExposure_zones
      (s := s.setPxr { s.pxr with patched := s.pxr.patched + (1024 - s.pxr.lineNumber) }) hx hm
    exact (hc.congr (s' := s) rfl rfl rfl rfl rfl).pump
  refine ⟨_, exec_frameClose_between hs, ?_⟩
  generalize pump (endReadout s) = t at hz
  obtain ⟨hzones, hmeas, hlpc, hunder, hout, hglare⟩ := hz
  have hbank : t.lpc.bank m.bank = { s.lpc.bank m.bank with
      level := { s.lpc with steering := t.mtu.zones }.loopStored m.bank m.number } := by
    rw [hlpc, afterLoop_bank, if_pos rfl]
  have hsame : ({ s.lpc with steering := t.mtu.zones } : Lamps).bank m.bank = s.lpc.bank m.bank := by
    cases m.bank <;> rfl
  refine ⟨hmeas, by rw [hlpc, afterLoop_steering], by rw [hunder, underlit_iff], by rw [hout, zoneOut_iff],
    by rw [hglare, glareSeen_iff], fun i hi => by rw [hzones, updatedZones_other hi],
    fun z hf hrev => by rw [hzones, updatedZones_measured hf, if_pos hrev], fun z hf hrev => ?_,
    fun b hb => by rw [hlpc, afterLoop_bank, if_neg hb], ?_⟩
  · have hzone : t.mtu.zones[z.index] = { s.mtu.zones[z.index] with result := z.result m.number } := by
      rw [hzones, updatedZones_measured hf, hrev]
      rfl
    simp only [hzone, true_and]
    exact measuredZone_result z m.number
  · intro x y
    have hy : y = _ := hbank
    refine ⟨by rw [hy], by rw [hy], by rw [hy], by rw [hy], by rw [hy], fun h => ?_, ?_⟩
    · rw [hy]
      refine (loopStored_stands fun k lit hk hl hruns => ?_).trans (by rw [hsame])
      obtain ⟨hauto, hen, hbk, hms, hnum, hused⟩ := hruns
      rw [hsame] at hauto hk hl
      rcases h with h | h | h | ⟨l, h, h'⟩ | ⟨j, h, h'⟩
      · simp [x, hauto] at h
      · simp [x, hk] at h
      · simp [x, hl] at h
      · obtain rfl : lit = l := by simpa [x, hl] using h
        exact h'.elim (fun h => h hnum) (fun h => by omega)
      · obtain rfl : k = j := by simpa [x, hk] using h
        rcases h' with h' | h' | h'
        · exact Bool.false_ne_true (h'.symm.trans hen)
        · exact h' hbk
        · exact h' hms
    · intro k l hauto hk hl hnum hused hen hbk hms u mean
      have hlevel : y.level = (loopLevel u mean t.mtu.zones[k].result.glare x.target s.lpc.deadband).elim x.level
          (boundedLevel x) := by
        rw [hy]
        refine (loopStored_runs (k := k) (lit := l) (by rw [hsame]; exact hk) (by rw [hsame]; exact hl)
          ⟨by rw [hsame]; exact hauto, hen, hbk, hms, hnum, hused⟩).trans ?_
        rw [hsame]
      rw [hlevel]
      refine ⟨fun hg => by rw [hg]; rfl, fun hg => ?_⟩
      rw [hg]
      refine ⟨fun h h' => by rw [loopLevel_within h h']; rfl, fun h => ?_⟩
      rw [loopLevel_outside h]
      exact ⟨fun h0 => by rw [if_pos h0]; rfl, fun h0 => by rw [if_neg h0]; rfl⟩

end Sys2Proof.Machine
end

section
namespace Sys2Proof.Machine

/-! ## Requests that only look (R73, R142, R146, R157, R178, R179, R181) -/

section
variable {i : Instr} {q : Request} {owner : State → Answer} {s : State}

/-- A request taken is answered as its owner answers it, whatever the holding area holds (R176). -/
theorem answers_taken {s' : State} {st : Status} {data : List Byte} (h : TakenNow i s) (hq : requestOf i = some q)
    (he : exec i s = .next (serve q owner s)) (hk : knownKind q.kind = true) (hl : lengthOk q = true)
    (hs : startUpEnded s = true ∨ startUpKind q.kind = true)
    (ho : ∀ hold, (owner (s.setCml { s.cml with holding := hold })).1 = ⟨st, data⟩ ∧
      outsideLink (owner (s.setCml { s.cml with holding := hold })).2 = outsideLink s') :
    Answers i q.kind st data s s' := by
  obtain ⟨q', hq', ht⟩ := h
  obtain rfl : q = q' := Option.some.inj (hq.symm.trans hq')
  exact ⟨_, he, serve_answered (r := ⟨st, data⟩) ht hk hl hs ho⟩

end

section
variable {i : Instr} {q : Request} {f : State → Option (List Byte)} {s : State} (h : TakenNow i s)
  (hq : requestOf i = some q) (he : exec i s = .next (serve q (fun u => answerData (f u) u) s))
  (hk : knownKind q.kind = true) (hl : lengthOk q = true) (hs : startUpEnded s = true ∨ startUpKind q.kind = true)
  (hf : ∀ l, f (s.setCml l) = f s)
include h hq he hk hl hs hf

/-- A reading that the link does not bear on is answered with its data, or with BAD_PARAM when there is none. -/
theorem answers_data {data : List Byte} (hd : f s = some data) : Answers i q.kind .ok data s s :=
  answers_taken h hq he hk hl hs fun hold => by
    simp only [hf, hd, answerData]
    exact ⟨rfl, rfl⟩

theorem answers_noData (hn : f s = none) : Answers i q.kind .badParam [] s s :=
  answers_taken h hq he hk hl hs fun hold => by
    simp only [hf, hn, answerData]
    exact ⟨rfl, rfl⟩

end

section
variable {s : State} {data : List Byte}

theorem idnt_answers (h : TakenNow (.idnt []) s) : Answers (.idnt []) 0x01 .ok (identity s) s s :=
  answers_taken h rfl rfl rfl rfl (.inr rfl) fun _ => ⟨rfl, rfl⟩

theorem statGroup_setCml (g : Nat) (s : State) (l : Link) : statGroup g (s.setCml l) = statGroup g s := by
  unfold statGroup
  split <;> rfl

theorem stat_answers {g : Byte} (h : TakenNow (.stat [g]) s) (hd : statGroup g.toNat s = some data) :
    Answers (.stat [g]) 0x02 .ok data s s :=
  answers_data (f := statGroup g.toNat) h rfl rfl rfl rfl (.inr rfl) (statGroup_setCml _ _) hd

theorem stat_refused {g : Byte} (h : TakenNow (.stat [g]) s) (hg : 5 < g.toNat) :
    Answers (.stat [g]) 0x02 .badParam [] s s := by
  refine answers_noData (f := statGroup g.toNat) h rfl rfl rfl rfl (.inr rfl) (statGroup_setCml _ _) ?_
  obtain ⟨n, hn⟩ := Nat.exists_eq_add_of_le' hg
  rw [hn]
  rfl

theorem zget_answers {z : Byte} (h : Served (.zget [z]) s) (hd : zoneReply z.toNat s.mtu = some data) :
    Answers (.zget [z]) 0x15 .ok data s s :=
  answers_data (f := fun u => zoneReply z.toNat u.mtu) h.1 rfl rfl rfl rfl (.inl h.2) (fun _ => rfl) hd

theorem zget_refused {z : Byte} (h : Served (.zget [z]) s) (hn : zoneReply z.toNat s.mtu = none) :
    Answers (.zget [z]) 0x15 .badParam [] s s :=
  answers_noData (f := fun u => zoneReply z.toNat u.mtu) h.1 rfl rfl rfl rfl (.inl h.2) (fun _ => rfl) hn

theorem plst_answers {z : Byte} (h : Served (.plst [z]) s) (hd : directoryReply z.toNat s.pfs = some data) :
    Answers (.plst [z]) 0x27 .ok data s s :=
  answers_data (f := fun u => directoryReply z.toNat u.pfs) h.1 rfl rfl rfl rfl (.inl h.2) (fun _ => rfl) hd

theorem plst_refused {z : Byte} (h : Served (.plst [z]) s) (hn : directoryReply z.toNat s.pfs = none) :
    Answers (.plst [z]) 0x27 .badParam [] s s :=
  answers_noData (f := fun u => directoryReply z.toNat u.pfs) h.1 rfl rfl rfl rfl (.inl h.2) (fun _ => rfl) hn

theorem brd_answers (h : Served (.brd []) s) :
    (s.pfs.bootWriting = false → Answers (.brd []) 0x29 .ok (bootBytes s.pfs.boot) s s) ∧
    (s.pfs.bootWriting = true → Answers (.brd []) 0x29 .ok (bootBytes (s.pfs.bootView s.draws)) s s.draw) := by
  refine ⟨fun hw => answers_taken (owner := brdOwner) h.1 rfl rfl rfl rfl (.inl h.2) fun hold => ?_,
    fun hw => answers_taken (owner := brdOwner) h.1 rfl rfl rfl rfl (.inl h.2) fun hold => ?_⟩
  · simp only [brdOwner, State.setCml_pfs, hw, bootView_idle hw]
    exact ⟨rfl, rfl⟩
  · simp only [brdOwner, State.setCml_pfs, hw]
    exact ⟨rfl, rfl⟩

end

/-! ### PGET (R181) -/

theorem Param.ofCode_eq_some {code : Byte} {p : Param} : Param.ofCode code = some p ↔ code = byte p.code := by
  constructor
  · intro h
    rw [← BitVec.toNat_inj]
    unfold Param.ofCode at h
    split at h <;> cases h <;> assumption
  · rintro rfl
    exact Param.ofCode_code p

/-- The parameters of the part but LABEL, and those of a bank, in R181's order. -/
def plainParams : List Param :=
  [.align, .depth, .readoutTimeout, .patchLimit, .blackMode, .blackLevel, .darkEvery, .clipLevel, .fill, .deadband,
   .ceiling, .derateStart, .cutoff, .interval, .paced, .autoswitch, .policy, .sendMode, .sendPeriod, .streamFormat,
   .riseEn, .fallEn, .noticeEn, .probePeriod, .profileId, .headBind, .bankSet, .outWidth, .outHeight, .hasTone]

def bankParams : List Param := [.mode, .level, .min, .max, .expo, .target, .steer]

theorem plainParams_spec {p : Param} (h : p ∈ plainParams) : p.perBank = false ∧ p ≠ .label := by
  revert p
  decide

theorem bankParams_spec {p : Param} (h : p ∈ bankParams) : p.perBank = true ∧ p ≠ .label := by
  revert p
  decide

/-- Every parameter is of the part, of a bank, or LABEL. -/
theorem mem_params (p : Param) : p ∈ plainParams ∨ p ∈ bankParams ∨ p = .label := by
  cases p <;> decide

section
variable {s : State} {bank : Byte} {p : Param}

theorem pget_answers (h : TakenNow (.pget [byte p.code, bank]) s)
    (hb : p.perBank = true → (bankOfByte bank).isSome = true) : Answers (.pget [byte p.code, bank]) 0x03 .ok
      (paramBytes p ((bankOfByte bank).getD .flood) s) s s := by
  have hbank : ¬(p.perBank = true ∧ (bankOfByte bank).isNone = true) := fun ⟨hp, hn⟩ => by
    have := hb hp
    simp_all
  have ho : ∀ u, pgetOwner [byte p.code, bank] u = accept (paramBytes p ((bankOfByte bank).getD .flood) u) u := by
    intro u
    simp only [pgetOwner, List.getD_cons_zero, List.getD_cons_succ, Param.ofCode_code]
    exact if_neg hbank
  refine answers_taken h rfl rfl rfl rfl (.inr rfl) fun hold => ?_
  rw [ho]
  exact ⟨by cases p <;> rfl, rfl⟩

/-- PGET of a parameter that has no place for the bank byte, or of one that is none, is refused (R181). -/
theorem pget_refused {code : Byte} (h : TakenNow (.pget [code, bank]) s)
    (hc : Param.ofCode code = none ∨ ∃ p, Param.ofCode code = some p ∧ p.perBank = true ∧ bankOfByte bank = none) :
    Answers (.pget [code, bank]) 0x03 .badParam [] s s := by
  have ho : ∀ u, pgetOwner [code, bank] u = refuse .badParam u := by
    intro u
    rcases hc with hc | ⟨p, hc, hp, hb⟩ <;> simp only [pgetOwner, List.getD_cons_zero, List.getD_cons_succ, hc]
    exact if_pos ⟨hp, by rw [hb]; rfl⟩
  refine answers_taken h rfl rfl rfl rfl (.inr rfl) fun hold => ?_
  rw [ho]
  exact ⟨rfl, rfl⟩

/-- A number's bytes by R181, for a parameter other than LABEL. -/
theorem paramBytes_number (h : p ≠ .label) (b : Bank) : paramBytes p b s = le32s (paramInt p b s) := if_neg h

/-- A parameter of the part reads the same whatever the bank byte. -/
theorem paramInt_plain (h : p ∈ plainParams) (b : Bank) : paramInt p b s = paramInt p .flood s := by
  have hp := (plainParams_spec h).1
  cases p with
  | mode | level | min | max | expo | target | steer => cases hp
  | _ => rfl

/-- The values of the parameters of the part, coded as R181 gives. -/
theorem pget_plain (h : p ∈ plainParams) (hs : TakenNow (.pget [byte p.code, bank]) s) :
    Answers (.pget [byte p.code, bank]) 0x03 .ok (le32s (paramInt p .flood s)) s s := by
  obtain ⟨hp, hl⟩ := plainParams_spec h
  have := pget_answers hs fun hb => by simp [hp] at hb
  rwa [paramBytes_number hl, paramInt_plain h] at this

theorem pget_bank {b : Bank} (h : p ∈ bankParams) (hs : TakenNow (.pget [byte p.code, byte (bankCode b)]) s) :
    Answers (.pget [byte p.code, byte (bankCode b)]) 0x03 .ok (le32s (paramInt p b s)) s s := by
  have hb : bankOfByte (byte (bankCode b)) = some b := bankOfByte_eq_some.2 rfl
  have := pget_answers hs fun _ => by rw [hb]; rfl
  rwa [paramBytes_number (bankParams_spec h).2, hb] at this

/-- A code outside R181's table names no parameter. -/
theorem ofCode_eq_none {code : Byte} (h : ∀ p : Param, code.toNat ≠ p.code) : Param.ofCode code = none := by
  cases hc : Param.ofCode code with
  | none => rfl
  | some p =>
    have hp : (byte p.code).toNat = p.code := by cases p <;> rfl
    exact absurd (Param.ofCode_eq_some.1 hc ▸ hp) (h p)

theorem oneIf_decide (P : Prop) [Decidable P] : oneIf (decide P) = if P then 1 else 0 := by simp [oneIf]

/-- A property of every entry of a list of codes and values, from the parameters that the entries are of. -/
theorem forall_mem_params {l : List (Byte × Int)} {ps : List Param} {f : Param → Int} {P : Byte → Int → Prop}
    (hl : l = ps.map fun p => (byte p.code, f p)) (h : ∀ p ∈ ps, P (byte p.code) (f p)) : ∀ x ∈ l, P x.1 x.2 := by
  rintro x hx
  obtain ⟨p, hp, rfl⟩ := List.mem_map.1 (hl ▸ hx)
  exact h p hp

end

/-! ### ZGET and PLST (R73, R146) -/

theorem toList_eight {α : Type} (v : Vector α 8) :
    v.toList = ([0, 1, 2, 3, 4, 5, 6, 7] : List (Fin 8)).map fun i => v[i] := by
  apply List.ext_getElem
  · simp
  · intro k h1 h2
    have hk : k < 8 := by simpa using h1
    interval_cases k <;> rfl

theorem flatMap_eight {α β : Type} (v : Vector α 8) (f : α → List β) :
    v.toList.flatMap f = ([0, 1, 2, 3, 4, 5, 6, 7] : List (Fin 8)).flatMap fun i => f v[i] := by
  rw [toList_eight, List.flatMap_map]

theorem toNat_slotByte (i : Fin 8) : (byte i.val).toNat = i.val := byte_toNat (by omega)

theorem toNat_ne_255 {z : Byte} (h : z ≠ 255) : z.toNat ≠ 255 := fun e => h (BitVec.eq_of_toNat_eq e)

theorem zoneReply_zone (i : Fin 8) (m : Metering) :
    zoneReply (byte i.val).toNat m = some (zoneDefBytes i m.zones[i].defn ++ zoneResultBytes m.zones[i].result) := by
  rw [toNat_slotByte, zoneReply, if_neg (by omega), finOf_val]
  rfl

theorem zoneReply_all (m : Metering) : zoneReply 255 m =
    some (([0, 1, 2, 3, 4, 5, 6, 7] : List (Fin 8)).flatMap fun i => zoneResultBytes m.zones[i].result) :=
  congrArg some (flatMap_eight _ _)

theorem zoneReply_none {z : Byte} (h : 7 < z.toNat) (h' : z ≠ 255) (m : Metering) : zoneReply z.toNat m = none := by
  rw [zoneReply, if_neg (toNat_ne_255 h'), finOf_eq_none h]
  rfl

theorem directoryReply_slot (i : Fin 8) (p : Store) :
    directoryReply (byte i.val).toNat p = some (recordBytes p.directory[i]) := by
  rw [toNat_slotByte, directoryReply, if_neg (by omega), finOf_val]
  rfl

theorem directoryReply_all (p : Store) : directoryReply 255 p =
    some (([0, 1, 2, 3, 4, 5, 6, 7] : List (Fin 8)).flatMap fun i => recordLine p.directory[i]) :=
  congrArg some (flatMap_eight _ _)

theorem directoryReply_none {z : Byte} (h : 7 < z.toNat) (h' : z ≠ 255) (p : Store) :
    directoryReply z.toNat p = none := by
  rw [directoryReply, if_neg (toNat_ne_255 h'), finOf_eq_none h]
  rfl

/-- R146's invariant gives a header and a check exactly to VALID slots. -/
theorem DirectoryInv.header_check {s : State} (h : DirectoryInv s) (i : Fin 8) :
    (s.pfs.directory[i].state = .valid →
      ∃ k c, s.pfs.directory[i].header = some k ∧ s.pfs.directory[i].check = some c) ∧
    (s.pfs.directory[i].state ≠ .valid → s.pfs.directory[i].header = none ∧ s.pfs.directory[i].check = none) := by
  obtain ⟨hheader, hcheck⟩ := h.1 i
  refine ⟨fun hv => ?_, fun hv => ⟨?_, ?_⟩⟩
  · obtain ⟨k, hk⟩ := Option.isSome_iff_exists.1 (hheader.2 hv)
    obtain ⟨c, hc⟩ := Option.isSome_iff_exists.1 (hcheck.2 hv)
    exact ⟨k, c, hk, hc⟩
  · exact Option.not_isSome_iff_eq_none.1 fun hs => hv (hheader.1 hs)
  · exact Option.not_isSome_iff_eq_none.1 fun hs => hv (hcheck.1 hs)

/-! ### TRD (R142) -/

/-- Entry `n` of the table of a code, as bytes; none past its end. -/
def tableEntry (c : Content) (code n : Nat) : List Byte := ((tableEntries c code)[n]?).getD []

section
variable {c : Content} {n : Nat}

theorem tableEntry_mesh : tableEntry c 0 n = (c.mesh[n]?.map meshBytes).getD [] := by
  simp [tableEntry, tableEntries]

theorem tableEntry_gainF : tableEntry c 1 n = (c.gainF[n]?.map le16).getD [] := by
  simp [tableEntry, tableEntries]

theorem tableEntry_gainB {b : BeamTables} (h : c.beam = some b) : tableEntry c 2 n = (b.gainB[n]?.map le16).getD [] := by
  simp [tableEntry, tableEntries, gainTable, h]

theorem tableEntry_weight {b : BeamTables} (h : c.beam = some b) : tableEntry c 3 n = (b.weight[n]?.map le16).getD [] := by
  simp [tableEntry, tableEntries, weightTable, h]

theorem tableEntry_tone {curve : List Nat} (h : c.tone = some curve) :
    tableEntry c 4 n = (curve[n]?.map fun v => [byte v]).getD [] := by
  simp [tableEntry, tableEntries, h]

/-- With TONE absent, TRD gives the built-in curve (R54, R142). -/
theorem tableEntry_builtIn (h : c.tone = none) (hn : n < 1025) : tableEntry c 4 n = [byte ((n * 255 + 512) / 1024)] := by
  simp [tableEntry, tableEntries, h, builtInCurve, builtInEntry, hn]

end

/-- A chunk's bytes are those of its entries in order. -/
theorem chunkBytes_eq (c : Content) (code start count : Nat) :
    chunkBytes c code start count = (List.range count).flatMap fun k => tableEntry c code (start + k) := by
  have hopt : ∀ o : Option (List Byte), o.toList.flatten = o.getD [] := fun o => by cases o <;> simp
  unfold chunkBytes
  induction count with
  | zero => simp
  | succ n ih =>
    rw [List.take_add_one, List.flatten_append, ih, List.range_succ, List.flatMap_append, List.getElem?_drop, hopt]
    simp [tableEntry]

theorem tableSize_known {c : Content} {code : Nat} (h : code ≤ 4) : tableSize c code =
    some (if code = 0 then (c.width / 16 + 1) * (c.height / 16 + 1) else if code = 4 then 1025 else 357) := by
  interval_cases code <;> rfl

theorem tableSize_unknown {c : Content} {code : Nat} (h : 4 < code) : tableSize c code = none := by
  obtain ⟨n, rfl⟩ := Nat.exists_eq_add_of_le' h
  rfl

theorem chunkOk_iff {c : Content} {code start count : Nat} : chunkOk c code start count = true ↔
    code ≤ 4 ∧ 0 < count ∧ count ≤ (if code = 0 then 59 else if code = 4 then 236 else 118) ∧
      start + count ≤ (if code = 0 then (c.width / 16 + 1) * (c.height / 16 + 1) else if code = 4 then 1025 else 357) := by
  by_cases h : code ≤ 4
  · simp only [chunkOk, tableSize_known h, Bool.and_eq_true, decide_eq_true_eq, h, true_and, and_assoc]
    exact Iff.rfl
  · simp [chunkOk, tableSize_unknown (Nat.not_le.1 h), h]

theorem absentBeam_iff {c : Content} {code : Nat} :
    absentBeam c code = true ↔ (code = 2 ∨ code = 3) ∧ c.beam = none := by simp [absentBeam]

/-- The body of a TRD: the table code, the start index and the count (R142). -/
def trdBody (code start count : Nat) : List Byte := byte code :: le16 start ++ le16 count

theorem trdOwner_body {code start count : Nat} (hc : code < 256) (hs : start < 65536) (hn : count < 65536) (u : State) :
    trdOwner (trdBody code start count) u =
      if chunkOk u.pfs.ws.content code start count = false then refuse .badParam u
      else if absentBeam u.pfs.ws.content code then refuse .noBank u
      else accept (chunkBytes u.pfs.ws.content code start count) u := by
  have h0 : bodyAt (trdBody code start count) 0 = code := byte_toNat hc
  have h1 : bodyAt16 (trdBody code start count) 1 = start := le16_toNat hs
  have h3 : bodyAt16 (trdBody code start count) 3 = count := le16_toNat hn
  simp only [trdOwner, h0, h1, h3]

theorem trd_answers {s : State} {code start count : Nat} (hc : code < 256) (hst : start < 65536) (hn : count < 65536)
    (h : Served (.trd (trdBody code start count)) s) :
    let c := s.pfs.ws.content
    let i : Instr := .trd (trdBody code start count)
    (chunkOk c code start count = true → absentBeam c code = false →
      Answers i 0x21 .ok (chunkBytes c code start count) s s) ∧
    (chunkOk c code start count = true → absentBeam c code = true → Answers i 0x21 .noBank [] s s) ∧
    (chunkOk c code start count = false → Answers i 0x21 .badParam [] s s) := by
  have answers := fun {st : Status} {data : List Byte} (ho : ∀ l,
      (trdOwner (trdBody code start count) (s.setCml l)) = (⟨st, data⟩, s.setCml l)) =>
    answers_taken (owner := trdOwner (trdBody code start count)) (s' := s) (st := st) (data := data) h.1 rfl rfl rfl rfl
      (.inl h.2) fun hold => by rw [ho]; exact ⟨rfl, rfl⟩
  have owner := fun l => trdOwner_body hc hst hn (s.setCml l)
  refine ⟨fun hok hb => answers fun l => ?_, fun hok hb => answers fun l => ?_, fun hok => answers fun l => ?_⟩
  · rw [owner, State.setCml_pfs, hok, hb]
    rfl
  · rw [owner, State.setCml_pfs, hok, hb]
    rfl
  · rw [owner, State.setCml_pfs, hok]
    rfl

/-! ### STAT (R119, R179, R180) -/

/-- Replies equal field by field are equal. -/
theorem append_congr {a b c d : List Byte} (h : a = b) (k : c = d) : a ++ c = b ++ d := congrArg₂ _ h k

theorem word32Bytes_zero : word32Bytes 0 = [0, 0, 0, 0] := by decide

theorem flatMap_banks {f g : Bank → List Byte} (h : ∀ b, f b = g b) :
    f .flood ++ f .beam = ([.flood, .beam] : List Bank).flatMap g := by simp [h]

theorem quiescent_iff (s : State) : quiescent s = true ↔ (s.pxr.state = .idle ∨ s.pxr.state = .skip .none) ∧
    s.csq.exposure = none ∧ s.rme.job = none ∧ s.phc.finalise = none ∧ s.csq.queue = [] ∧ s.csq.active = none := by
  simp [quiescent, receiverReady, and_assoc]

/-- The still of the latest phase among several, the earliest of them in that phase (R119). -/
theorem foldl_laterPhase_split (a : StillTrack) (rest : List StillTrack) : ∃ before after,
    a :: rest = before ++ rest.foldl laterPhase a :: after ∧
    (∀ x ∈ before, x.phase.code < (rest.foldl laterPhase a).phase.code) ∧
    ∀ x ∈ after, x.phase.code ≤ (rest.foldl laterPhase a).phase.code := by
  induction rest using List.reverseRecOn with
  | nil => exact ⟨[], [], by simp⟩
  | append_singleton rest x ih =>
    obtain ⟨before, after, hsplit, hbefore, hafter⟩ := ih
    rw [List.foldl_append, List.foldl_cons, List.foldl_nil, ← List.cons_append]
    generalize rest.foldl laterPhase a = y at hsplit hbefore hafter
    rw [hsplit]
    by_cases hx : y.phase.code < x.phase.code
    · rw [laterPhase, if_pos hx]
      refine ⟨before ++ y :: after, [], rfl, fun z hz => ?_, by simp⟩
      rcases List.mem_append.1 hz with hz | hz
      · exact (hbefore z hz).trans hx
      · rcases List.mem_cons.1 hz with rfl | hz
        · exact hx
        · exact (hafter z hz).trans_lt hx
    · rw [laterPhase, if_neg hx]
      refine ⟨before, after ++ [x], by simp, hbefore, fun z hz => ?_⟩
      rcases List.mem_append.1 hz with hz | hz
      · exact hafter z hz
      · rw [List.mem_singleton.1 hz]
        exact Nat.not_lt.1 hx

/-- The still STAT tracks is the one R119 gives. -/
theorem eq_trackedStill {q : Sequencer} {tracked : Option StillTrack} (ha : ∀ a, q.active = some a → tracked = some a)
    (hn : q.active = none → q.later = [] → tracked = none)
    (hl : ∀ a before after, q.active = none → q.later = before ++ a :: after →
      (∀ x ∈ before, x.phase.code < a.phase.code) → (∀ x ∈ after, x.phase.code ≤ a.phase.code) → tracked = some a) :
    tracked = trackedStill q := by
  cases hact : q.active with
  | some a => simp only [trackedStill, hact, ha a hact]
  | none =>
    cases hlat : q.later with
    | nil => simp only [trackedStill, hact, hlat, hn hact hlat]
    | cons a rest =>
      obtain ⟨before, after, hsplit, hbefore, hafter⟩ := foldl_laterPhase_split a rest
      simp only [trackedStill, hact, hlat]
      exact hl _ before after hact (hlat.trans hsplit) hbefore hafter

/-- Four bytes for a list's first four elements, those past its end filled with `d`. -/
theorem take_four_padded {α : Type} (f : α → Nat) (d : Nat) (l : List α) :
    (List.range 4).map (fun i => byte ((l[i]?.map f).getD d)) =
      (l.map (fun x => byte (f x)) ++ [byte d, byte d, byte d, byte d]).take 4 := by
  rcases l with _ | ⟨a, _ | ⟨b, _ | ⟨c, _ | ⟨e, l⟩⟩⟩⟩ <;> rfl

end Sys2Proof.Machine
end

section
namespace Sys2Proof.Machine

/-- Settles O41: the codes of the statement's tables are the model's, and then each reply is compared field by field. The
clauses stand in the statement's order. -/
theorem readingRequestsOnlyAnswer : Obligations.ReadingRequestsOnlyAnswer := by
  intro s flag manual recipe buffer kind phase target content account classOf head celsius record results
  have hmanual : ∀ m, manual m = byte m.code := by rintro (_ | _) <;> rfl
  have hrecipe : ∀ r, recipe r = recipeByte r := by rintro (_ | _ | _ | _) <;> rfl
  have hbuffer : ∀ i, buffer i = byte i.code := by rintro (_ | _) <;> rfl
  have hkind : ∀ k, kind k = [byte k.code, byte k.tag] := by rintro (_ | _) <;> rfl
  have hphase : ∀ p, phase p = p.code := by rintro (_ | _ | _ | _ | _ | _ | _) <;> rfl
  have htarget : ∀ t, target t = targetBytes t := by rintro (_ | _ | _) <;> rfl
  have hcontent : ∀ c, content c = byte c.code := by rintro (_ | _ | _ | _) <;> rfl
  have haccount : ∀ a, account a = [byte a.state.code, byte a.folded] := by
    rintro ⟨_ | _ | _ | _ | _ | _, _⟩ <;> rfl
  have hclass : ∀ c, classOf 255 c = classByte c := by rintro (_ | _ | _ | _ | _) <;> rfl
  have hadopted : ∀ c, classOf 15 c = adoptedByte c := by rintro (_ | _ | _ | _ | _) <;> rfl
  have hhead : ∀ h, head h = headByte h := by rintro (_ | _) <;> rfl
  have hcelsius : ∀ t, celsius t = temperatureField t := by rintro (_ | _) <;> rfl
  have hrecord : ∀ d, record d = [byte d.state.code, flagByte d.guarded] := by rintro ⟨_ | _ | _, _⟩ <;> rfl
  have hresults : ∀ r, results r = zoneResultBytes r := by
    rintro ⟨mean, clip, level, glare, _ | measured⟩
    · rw [zoneResultBytes, Option.getD_none, word32Bytes_zero]
      cases level <;> rfl
    · cases level <;> rfl
  clear_value manual recipe buffer kind phase target content account classOf head celsius record results
  refine ⟨idnt_answers, fun quiet tracked h hq ha hn hl => ?_, fun h => ?_, fun h => ?_, fun h => ?_, fun h => ?_, ?_,
    fun h => stat_answers h rfl, fun g hg h => stat_refused h hg, fun bank => ?_,
    fun bank h => pget_answers (p := .label) h nofun, fun b bank hb => ?_,
    fun code bank h => ⟨fun hc hb => ?_, fun hc => ?_⟩,
    fun i h => ?_, fun h => ?_, fun z hz hz' h => zget_refused h (zoneReply_none hz hz' s.mtu),
    fun code start count hc hs hn h => ?_, fun i h => ⟨fun k c hk hc => ?_, fun hk => ?_⟩, fun h i => h.header_check i,
    fun h => ?_, fun z hz hz' h => plst_refused h (directoryReply_none hz hz' s.pfs), fun _ => rfl, brd_answers⟩
  · -- STAT group 0: the sequence, with the tracked still (R119) and the quiescent flag (R180)
    obtain rfl : quiet = quiescent s := Bool.eq_iff_iff.2 (hq.trans (quiescent_iff s).symm)
    simp only [hphase] at hl
    obtain rfl := eq_trackedStill ha hn hl
    refine stat_answers h (congrArg some ?_)
    simp only [hrecipe, htarget, hphase]
    refine append_congr (append_congr (append_congr (append_congr (append_congr (append_congr (append_congr ?_ rfl) ?_) rfl)
      (take_four_padded _ 0 _)) ?_) rfl) rfl
    · cases s.csq.state <;> rfl
    · rcases s.csq.exposure with _ | ⟨_, (_ | _) | _⟩ <;> rfl
    · cases trackedStill s.csq <;> rfl
  · -- STAT group 1: the pixel path
    refine stat_answers h (congrArg some ?_)
    simp only [hmanual, hcontent, haccount, hkind, hbuffer, statPath, List.append_assoc, List.cons_append, List.nil_append]
    refine congrArg₂ List.cons ?_ (append_congr rfl (append_congr rfl (congrArg _ (append_congr rfl (append_congr ?_
      (append_congr (a := [_, _, _, _, _, _]) rfl ?_))))))
    · cases s.pxr.state <;> rfl
    · cases s.phc.lastDark <;> rfl
    · cases s.rme.job <;> rfl
  · -- STAT group 2: the lamps
    refine stat_answers h (congrArg some ?_)
    simp only [hmanual, hcelsius]
    refine append_congr (append_congr (append_congr (flatMap_banks fun b => append_congr rfl ?_) rfl) ?_) rfl
    · cases (s.lpc.bank b).lastLit <;> rfl
    · rcases s.lpc.lit with _ | ⟨_ | _, _⟩ <;> rfl
  · -- STAT group 3: the output
    refine stat_answers h (congrArg some ?_)
    simp only [hkind]
    refine append_congr (append_congr (append_congr (append_congr (append_congr
      (congrArg (fun f => allSlots.flatMap f) (funext fun i => ?_)) rfl) (take_four_padded _ 255 _)) rfl) ?_) ?_
    · unfold slotInfo
      cases s.ofq.slots[i].state <;> rfl
    · cases s.ofq.send <;> rfl
    · unfold Output.heldSlot allSlots
      cases List.find? (fun i : Fin 4 => decide (s.ofq.slots[i].state = .held)) [0, 1, 2, 3] <;> rfl
  · -- STAT group 4: the store and the conditions
    refine stat_answers h (congrArg some ?_)
    simp only [hhead]
    refine append_congr (append_congr (append_congr (append_congr (append_congr (append_congr (append_congr (append_congr
      (append_congr (append_congr (append_congr ?_ ?_) rfl) rfl) rfl) rfl) ?_) rfl) rfl) rfl) rfl) rfl
    · rcases s.pfs.op with _ | (_ | ⟨_, _ | _⟩ | _ | _ | ⟨_, _ | _⟩) <;> rfl
    · cases s.pfs.lastResult <;> rfl
    · cases s.pfs.ws.source <;> rfl
  · -- the probe's readings, which are STAT group 5
    simp only [hclass, hadopted, hcelsius]
    refine append_congr (append_congr (append_congr (append_congr rfl ?_) rfl) rfl) ?_
    · cases s.hpb.lastHead <;> rfl
    · cases s.hpb.conv <;> rfl
  · -- PGET of a parameter of the part
    refine forall_mem_params (ps := plainParams) (f := fun p => paramInt p .flood s)
      (P := fun c v => TakenNow (.pget [c, bank]) s → Answers (.pget [c, bank]) 0x03 .ok (le32s v) s s) ?_
      fun p hp h => pget_plain hp h
    simp only [plainParams, List.map_cons, List.map_nil, paramInt, oneIf_decide]
    cases s.pfs.ws.content.head <;> rfl
  · -- PGET of a parameter of a bank
    obtain rfl : bank = byte (bankCode b) := by cases b <;> exact hb
    refine forall_mem_params (ps := bankParams) (f := fun p => paramInt p b s)
      (P := fun c v => TakenNow (.pget [c, byte (bankCode b)]) s →
        Answers (.pget [c, byte (bankCode b)]) 0x03 .ok (le32s v) s s) ?_ fun p hp h => pget_bank hp h
    simp only [bankParams, List.map_cons, List.map_nil, paramInt, oneIf_decide]
    cases (s.lpc.bank b).steer <;> rfl
  · -- PGET of a parameter of no bank, and of a code that names none
    obtain ⟨p, hp, e⟩ : ∃ p ∈ bankParams, p.code = code.toNat := List.mem_map.1 hc
    refine pget_refused h (.inr ⟨p, ?_, (bankParams_spec hp).1, bankOfByte_eq_none hb⟩)
    rw [Param.ofCode_eq_some, e, byte, BitVec.ofNat_toNat, BitVec.setWidth_eq]
  · refine pget_refused h (.inl (ofCode_eq_none fun p e => hc ?_))
    rw [e]
    cases p <;> decide
  · -- ZGET of one zone, and of all
    refine zget_answers h ((zoneReply_zone i s.mtu).trans (congrArg some ?_))
    rw [hresults]
    dsimp only
    unfold zoneDefBytes
    cases s.mtu.zones[i].defn.bank <;> rfl
  · exact zget_answers h ((zoneReply_all s.mtu).trans (by simp only [hresults]))
  · -- TRD: the chunk's entries, by the table's code
    intro fits entry
    obtain ⟨hdata, hbank, hparam⟩ := trd_answers hc hs hn h
    refine ⟨fun hf hb => ?_, fun hf hcode hb => hbank (chunkOk_iff.2 hf) (absentBeam_iff.2 ⟨hcode, hb⟩), fun hf =>
      hparam (Bool.eq_false_iff.2 fun hok => hf (chunkOk_iff.1 hok))⟩
    have hentry : ∀ k ∈ List.range count, tableEntry s.pfs.ws.content code (start + k) = entry (start + k) := by
      intro k hk
      have hk : k < count := List.mem_range.1 hk
      obtain ⟨hle, -, -, hend⟩ := hf
      have hcode : code = 0 ∨ code = 1 ∨ code = 2 ∨ code = 3 ∨ code = 4 := by omega
      rcases hcode with rfl | rfl | rfl | rfl | rfl
      · simp only [entry, tableEntry_mesh]
        cases s.pfs.ws.content.mesh[start + k]? <;> rfl
      · simp only [entry, tableEntry_gainF]
        cases s.pfs.ws.content.gainF[start + k]? <;> rfl
      · obtain ⟨b, hb⟩ := Option.ne_none_iff_exists'.1 (hb (.inl rfl))
        simp only [entry, hb, tableEntry_gainB hb, if_true]
        cases b.gainB[start + k]? <;> rfl
      · obtain ⟨b, hb⟩ := Option.ne_none_iff_exists'.1 (hb (.inr rfl))
        simp only [entry, hb, tableEntry_weight hb, if_neg (show ¬3 = 2 by decide)]
        cases b.weight[start + k]? <;> rfl
      · cases ht : s.pfs.ws.content.tone with
        | none =>
          have hend : start + count ≤ 1025 := hend
          simp only [entry, ht, tableEntry_builtIn ht (show start + k < 1025 by omega)]
          rfl
        | some curve =>
          simp only [entry, ht, tableEntry_tone ht]
          cases curve[start + k]? <;> rfl
    rw [← List.flatMap_congr hentry, ← chunkBytes_eq]
    exact hdata (chunkOk_iff.2 hf) (Bool.eq_false_iff.2 fun ha => hb (absentBeam_iff.1 ha).1 (absentBeam_iff.1 ha).2)
  · -- PLST of a slot with a header, of one without, and of all
    refine plst_answers h ((directoryReply_slot i s.pfs).trans (congrArg some ?_))
    simp only [recordBytes, hk, hc, hrecord, hhead, StoredHeader.bytes, List.append_assoc]
    rfl
  · refine plst_answers h ((directoryReply_slot i s.pfs).trans (congrArg some ?_))
    simp only [recordBytes, hk, hrecord, List.append_nil]
  · refine plst_answers h ((directoryReply_all s.pfs).trans (congrArg some ?_))
    refine List.flatMap_congr fun i _ => ?_
    rw [hrecord]
    refine append_congr rfl ?_
    cases s.pfs.directory[i].header with
    | none => rfl
    | some k => exact append_congr rfl (by rw [hhead]; rfl)

end Sys2Proof.Machine
end

section
namespace Sys2Proof.Machine

/-! ## The Lamp Controller's stored settings (R75, R78, R80, R81, R90, R156)

Only a full reset, a completed stream exposure's loop and the lamps' PSETs write the settings that `LampSettingsInv` bounds.
`exec_stored` says that every other command leaves them. -/

/-- A bank's settings that have a range. -/
def BankLamp.stored (x : BankLamp) : Nat × Nat × Nat × Nat × Nat := (x.level, x.min, x.max, x.expo, x.target)

/-- The controller's settings that have a range. -/
def Lamps.stored (l : Lamps) :
    (Nat × Nat × Nat × Nat × Nat) × (Nat × Nat × Nat × Nat × Nat) × Nat × Nat × Nat × Int × Int :=
  (l.flood.stored, l.beam.stored, l.deadband, l.ceiling, l.startupCeiling, l.derateStart, l.cutoffAt)

theorem LampSettingsInv.of_stored {s t : State} (h : LampSettingsInv s) (e : t.lpc.stored = s.lpc.stored) :
    LampSettingsInv t := by
  simp only [Lamps.stored, BankLamp.stored, Prod.mk.injEq] at e
  obtain ⟨⟨f1, f2, f3, f4, f5⟩, ⟨b1, b2, b3, b4, b5⟩, e1, e2, e3, e4, e5⟩ := e
  simpa only [LampSettingsInv, BankLamp.inRange, f1, f2, f3, f4, f5, b1, b2, b3, b4, b5, e1, e2, e3, e4, e5] using h

/-! ### The shared operations leave the stored settings -/

@[simp] theorem lampOff_stored (s : State) : (lampOff s).lpc.stored = s.lpc.stored := rfl

theorem sequencerAbandon_lpc (why : AbandonReason) (s : State) :
    (sequencerAbandon why s).lpc = s.lpc ∨ (sequencerAbandon why s).lpc = (lampOff s).lpc := by
  unfold sequencerAbandon
  split
  · exact .inl rfl
  · exact .inr (by simp)

theorem haltAbandon_lpc (why : AbandonReason) (s : State) :
    (haltAbandon why s).lpc = s.lpc ∨ (haltAbandon why s).lpc = (lampOff s).lpc := by
  unfold haltAbandon
  split
  · split
    · exact sequencerAbandon_lpc why s
    · exact .inl rfl
  · exact .inl rfl

/-- A halt does no more to the lamps than turn the lit bank off (R87, R117). -/
theorem haltFor_lpc (why : AbandonReason) (s : State) :
    (haltFor why s).lpc = s.lpc ∨ (haltFor why s).lpc = (lampOff s).lpc := by
  unfold haltFor
  split
  · exact .inl rfl
  · exact .inl rfl
  · simpa using haltAbandon_lpc why s

@[simp] theorem sequencerAbandon_stored (why : AbandonReason) (s : State) :
    (sequencerAbandon why s).lpc.stored = s.lpc.stored := by
  rcases sequencerAbandon_lpc why s with h | h <;> simp [h]

@[simp] theorem haltFor_stored (why : AbandonReason) (s : State) : (haltFor why s).lpc.stored = s.lpc.stored := by
  rcases haltFor_lpc why s with h | h <;> simp [h]

/-- The controller after an examination of its cutoff: a bank is turned off when the cutoff becomes ON (R85). -/
def Lamps.afterExamination (l : Lamps) : Lamps :=
  { l with cutoff := l.examined, lit := if l.cutoff = false ∧ l.examined = true then none else l.lit }

theorem examineCutoff_lpc (s : State) : (examineCutoff s).lpc = s.lpc.afterExamination := by
  unfold examineCutoff Lamps.afterExamination
  dsimp only
  split
  · rename_i h
    rw [if_neg (by rw [h]; simp), h]
  · rename_i h
    cases hx : s.lpc.examined with
    | true =>
      have hc : s.lpc.cutoff = false := by simpa [hx] using h
      rw [if_pos rfl, if_pos rfl, if_pos ⟨hc, rfl⟩]
      exact (haltFor_lpc _ _).elim id id
    | false => simp

@[simp] theorem examineCutoff_stored (s : State) : (examineCutoff s).lpc.stored = s.lpc.stored := by
  rw [examineCutoff_lpc]
  rfl

@[simp] theorem afterTemperature_stored (s : State) : (afterTemperature s).lpc.stored = s.lpc.stored := by
  simp [afterTemperature]

@[simp] theorem softReset_stored (s : State) : (softReset s).lpc.stored = s.lpc.stored := rfl

@[simp] theorem cancelActive_stored (a : StillTrack) (s : State) : (cancelActive a s).lpc.stored = s.lpc.stored := by
  unfold cancelActive
  split <;> simp

@[simp] theorem reportHeadChange_lpc (last : Option (Fin 12)) (c : Classification) (s : State) :
    (reportHeadChange last c s).lpc = s.lpc := by
  unfold reportHeadChange
  split
  · split <;> simp
  · rfl

@[simp] theorem adopt_stored (c : Classification) (s : State) : (adopt c s).lpc.stored = s.lpc.stored := by
  unfold adopt
  dsimp only
  split <;> simp

@[simp] theorem useClassification_stored (c : Classification) (s : State) :
    (useClassification c s).lpc.stored = s.lpc.stored := by
  unfold useClassification
  split
  · rfl
  · split <;> simp

theorem Lamps.light_stored (l : Lamps) (b : Bank) (number : Word32) (requested time : Nat) (stream : Bool) :
    (l.light b number requested time stream).stored = l.stored := by
  cases stream <;> cases b <;> rfl

@[simp] theorem startExposure_stored (kind : Kind) (purpose : Purpose) (time requested black : Nat)
    (assigned : Option (Role × LinId)) (s : State) :
    (startExposure kind purpose time requested black assigned s).lpc.stored = s.lpc.stored := by
  cases kind with
  | dark => rfl
  | lit b => exact Lamps.light_stored _ _ _ _ _ _

@[simp] theorem markRecord_lpc (stray long short : Bool) (s : State) : (markRecord stray long short s).lpc = s.lpc := rfl

@[simp] theorem closeOpenLine_lpc (s : State) : (closeOpenLine s).lpc = s.lpc := by
  unfold closeOpenLine closeLine receiveLine
  dsimp only
  (repeat' split) <;> simp

@[simp] theorem completeSend_lpc (snd : Send) (s : State) : (completeSend snd s).lpc = s.lpc := by
  unfold completeSend finishStill
  dsimp only
  split <;> simp

@[simp] theorem offerStream_lpc (w : Waiting) (s : State) : (offerStream w s).lpc = s.lpc := by
  unfold offerStream startRender takeWaiting
  dsimp only
  split <;> simp

@[simp] theorem endVerify_lpc (i : Fin 8) (lost : LostCells) (s : State) : (endVerify i lost s).lpc = s.lpc := by
  unfold endVerify
  dsimp only
  split <;> simp

@[simp] theorem endSave_lpc (i : Fin 8) (lost : LostCells) (s : State) : (endSave i lost s).lpc = s.lpc := by
  unfold endSave
  dsimp only
  split <;> simp

@[simp] theorem eraseResult_lpc (ok : Bool) (s : State) : (eraseResult ok s).lpc = s.lpc := by
  unfold eraseResult
  split <;> simp

@[simp] theorem rxByte_lpc (s : State) (b : Byte) : (rxByte s b).lpc = s.lpc := by
  unfold rxByte
  dsimp only
  (repeat' split) <;> simp

@[simp] theorem rxBytes_lpc (bytes : List Byte) (s : State) : (bytes.foldl rxByte s).lpc = s.lpc := by
  induction bytes generalizing s with
  | nil => rfl
  | cons b bs ih => simp [ih]

@[simp] theorem endSending_stored (x : Sending) (s : State) : (endSending x s).lpc.stored = s.lpc.stored := by
  unfold endSending
  split
  · rfl
  · split <;> rfl

/-- Serving a request leaves the stored settings when its owner does. -/
theorem serve_stored {owner : State → Answer} (ho : ∀ u, (owner u).2.lpc.stored = u.lpc.stored) (q : Request) (s : State) :
    (serve q owner s).lpc.stored = s.lpc.stored :=
  serve_keeps (P := fun u => u.lpc.stored = s.lpc.stored) (fun _ _ h => h) (fun _ _ h => h)
    (fun u h => (ho u).trans h) q s rfl

/-! ### The owners of the requests leave the stored settings -/

theorem sgoOwner_lpc (body : List Byte) (s : State) : (sgoOwner body s).2.lpc = s.lpc := by
  unfold sgoOwner requestStream
  (repeat' split) <;> rfl

theorem stopStream_lpc (s : State) : (stopStream s).lpc = s.lpc := by
  unfold stopStream dropStopped withdrawStream
  (repeat' split) <;> simp

theorem scanOwner_stored (body : List Byte) (s : State) : (scanOwner body s).2.lpc.stored = s.lpc.stored := by
  unfold scanOwner
  dsimp only
  split
  · exact cancelActive_stored _ s
  · (repeat' split) <;> rfl

theorem zsetOwner_lpc (body : List Byte) (s : State) : (zsetOwner body s).2.lpc = s.lpc := by
  unfold zsetOwner
  split
  · simp
  · rfl

theorem writeWhenOpen_lpc (r : Response) (c : Content) (s : State) : (writeWhenOpen r c s).2.lpc = s.lpc := by
  unfold writeWhenOpen
  (repeat' split) <;> rfl

theorem twrtOwner_lpc (body : List Byte) (s : State) : (twrtOwner body s).2.lpc = s.lpc := by
  unfold twrtOwner
  dsimp only
  split
  · rfl
  · split
    · rfl
    · exact writeWhenOpen_lpc _ _ s

theorem pactOwner_lpc (body : List Byte) (s : State) : (pactOwner body s).2.lpc = s.lpc := by
  unfold pactOwner
  split
  · simp
  · rfl

/-! ### Every command -/

/-- The commands that may write the stored settings. -/
def setsLamps : Instr → Bool
  | .fullReset | .frameClose | .pset _ => true
  | .psetLevel _ _ _ | .psetMin _ _ _ | .psetMax _ _ _ | .psetExpo _ _ _ | .psetMode _ _ _ | .psetSteer _ _ _
  | .psetCeiling _ _ _ | .psetDerateStart _ _ _ | .psetCutoff _ _ _ | .psetSendMode _ _ _ | .psetRiseEn _ _ _
  | .psetFallEn _ _ _ | .psetNoticeEn _ _ _ | .psetOutWidth _ _ _ | .psetOutHeight _ _ _ | .psetBankSet _ _ _
  | .psetHasTone _ _ _ | .psetProfileId _ _ _ | .psetHeadBind _ _ _ | .psetLabel _ _ _ => true
  | _ => false

/-- A full reset, the end of a readout and a PSET are the only commands that write the stored settings. -/
theorem exec_stored {i : Instr} {s t : State} (hi : setsLamps i = false) (h : exec i s = .next t) :
    t.lpc.stored = s.lpc.stored := by
  cases i with
  | fullReset | frameClose | pset _ | psetLevel _ _ _ | psetMin _ _ _ | psetMax _ _ _ | psetExpo _ _ _ | psetMode _ _ _
  | psetSteer _ _ _ | psetCeiling _ _ _ | psetDerateStart _ _ _ | psetCutoff _ _ _ | psetSendMode _ _ _ | psetRiseEn _ _ _
  | psetFallEn _ _ _ | psetNoticeEn _ _ _ | psetOutWidth _ _ _ | psetOutHeight _ _ _ | psetBankSet _ _ _
  | psetHasTone _ _ _ | psetProfileId _ _ _ | psetHeadBind _ _ _ | psetLabel _ _ _ => cases hi
  | trigger =>
    simp only [exec, execTrigger] at h
    split at h <;> cases h
    · rename_i plan hp
      obtain ⟨kind, purpose, time, requested, black, assigned, u, e, -, hlpc, -⟩ := carryTrigger_starts hp
      rw [e, startExposure_stored, hlpc]
    · rfl
  | tempConversionDone code =>
    simp only [exec, execTempConversionDone] at h
    split at h <;> cases h
    · rw [(pump_frame _).2.2.2.2.1, afterTemperature_stored]
      rfl
    · rfl
  -- the pixel port, the timers and the identity conversion
  | exposureEnd | frameOpen | lineOpen | pixelWord _ | lineClose | readoutTimeout | intervalExpiry | probePeriodExpiry
  | idConversionDone _ =>
    simp only [exec, execExposureEnd, execFrameOpen, execLineOpen, execPixelWord, execLineClose, execReadoutTimeout,
      execIntervalExpiry, execProbePeriodExpiry, execIdConversionDone] at h
    (repeat' split at h) <;> cases h <;> simp
  -- the sequencer, the remap engine and the video port
  | startupScanDone | foldComplete _ | stillStart | finaliseStart | finaliseComplete | renderStart | renderComplete
  | sendStart | sendPeriodExpiry | sendComplete | modemReady | switchDrain | switchLoad =>
    simp only [exec, execStartupScanDone, execFoldComplete, execStillStart, startStill, execFinaliseStart, startFinalise,
      execFinaliseComplete, execRenderStart, offerStill, startRender, takeWaiting, execRenderComplete, queuePicture,
      writeRows, execSendStart, execSendPeriodExpiry, execSendComplete, execModemReady, execSwitchDrain,
      execSwitchLoad] at h
    (repeat' split at h) <;> cases h <;> simp
  -- the store's phases
  | verifyPassDone _ | copyPassDone | saveEraseDone | saveProgramDone _ | eraseDone _ | eraseAllSlotDone _
  | bootWriteEraseDone | bootWriteProgramDone _ =>
    simp only [exec, execVerifyPassDone, execCopyPassDone, execSaveEraseDone, execSaveProgramDone, execEraseDone,
      execEraseAllSlotDone, execBootWriteEraseDone, execBootWriteProgramDone] at h
    (repeat' split at h) <;> cases h <;> simp
  -- the link
  | frameReceived _ | byteGapTimeout | lenOutOfRange _ | frameSent =>
    simp only [exec, execFrameReceived, execByteGapTimeout, execLenOutOfRange, execFrameSent] at h
    (repeat' split at h) <;> cases h <;> simp
  | badKind kind body =>
    simp only [exec, execBadKind] at h
    split at h <;> cases h
    · rfl
    · exact serve_stored (fun _ => rfl) _ s
  -- the requests that only look, or change the link or the latches
  | idnt _ | rset _ | ltch _ => cases h; exact serve_stored (fun _ => rfl) _ s
  | stat _ | zget _ | plst _ | pget _ | trd _ | brd _ =>
    cases h
    refine serve_stored (fun u => ?_) _ s
    simp only [answerData, pgetOwner, trdOwner, brdOwner, accept]
    (repeat' split) <;> rfl
  -- the requests that change the store, the still queue or the probe, by their owners' refusals
  | psav _ | pers _ | sers _ | pprt _ | bwrt _ | stil _ | hprb _ =>
    cases h
    refine serve_stored (fun u => ?_) _ s
    simp only [psavOwner, persOwner, sersOwner, pprtOwner, bwrtOwner, stilOwner, hprbOwner]
    (repeat' split) <;> rfl
  | sgo body => cases h; exact serve_stored (fun u => congrArg _ (sgoOwner_lpc body u)) _ s
  | shlt _ => cases h; exact serve_stored (fun u => congrArg _ (stopStream_lpc u)) _ s
  | scan body => cases h; exact serve_stored (scanOwner_stored body) _ s
  | zset body => cases h; exact serve_stored (fun u => congrArg _ (zsetOwner_lpc body u)) _ s
  | twrt body => cases h; exact serve_stored (fun u => congrArg _ (twrtOwner_lpc body u)) _ s
  | pact body => cases h; exact serve_stored (fun u => congrArg _ (pactOwner_lpc body u)) _ s

theorem idleMoment_lpc (s : State) : (idleMoment s).lpc = s.lpc := by
  unfold idleMoment
  (repeat' split) <;> rfl

end Sys2Proof.Machine
end

section
namespace Sys2Proof.Machine

/-! ## The writes of the lamp settings (R78 to R81, R90) -/

theorem LampSettingsInv.bank {s : State} (h : LampSettingsInv s) (b : Bank) : (s.lpc.bank b).inRange := by
  obtain ⟨hf, hb, -⟩ := h
  cases b
  · exact hf
  · exact hb

theorem LampSettingsInv.setBank {s : State} (h : LampSettingsInv s) {b : Bank} {x : BankLamp} (hx : x.inRange) :
    LampSettingsInv (s.setLpc (s.lpc.setBank b x)) := by
  obtain ⟨hf, hb, hrest⟩ := h
  cases b
  · exact ⟨hx, hb, hrest⟩
  · exact ⟨hf, hx, hrest⟩

theorem LampSettingsInv.setBankReport {s : State} (h : LampSettingsInv s) {b : Bank} {x : BankLamp} (hx : x.inRange) :
    LampSettingsInv (setBankReport b x s) :=
  (h.setBank (b := b) hx).of_stored (by simp [Machine.setBankReport])

/-- A level bounded to the MIN and MAX of a bank in range lies between them. -/
theorem BankLamp.inRange.bounded {x : BankLamp} (h : x.inRange) (n : Nat) :
    { x with level := boundedLevel x n }.inRange := by
  simp only [BankLamp.inRange, boundedLevel] at h ⊢
  omega

/-- New bounds in order keep a bank in range, its level brought between them (R78). -/
theorem BankLamp.inRange.rebounded {x : BankLamp} (h : x.inRange) {lo hi : Nat} (hle : lo ≤ hi) (hmax : hi ≤ 1023) :
    (x.bounded lo hi).inRange := by
  obtain ⟨-, -, -, hrest⟩ := h
  exact ⟨Nat.le_min.2 ⟨Nat.le_max_right _ _, hle⟩, Nat.min_le_right _ _, hmax, hrest⟩

/-! ### The loop -/

/-- The loop stores the level as it was, or one bounded to MIN..MAX (R90). -/
theorem loopStored_bounded (l : Lamps) (b : Bank) (number : Word32) :
    l.loopStored b number = (l.bank b).level ∨ ∃ n, l.loopStored b number = boundedLevel (l.bank b) n := by
  unfold Lamps.loopStored
  dsimp only
  split
  · split
    · split
      · exact .inr ⟨_, rfl⟩
      · exact .inl rfl
    · exact .inl rfl
  · exact .inl rfl

theorem LampSettingsInv.takeZones {s : State} (h : LampSettingsInv s) (b : Bank) (number : Word32) :
    LampSettingsInv (takeZones b number s) := by
  have hb := h.bank b
  refine (h.setBank (b := b) (x := { s.lpc.bank b with
    level := { s.lpc with steering := s.mtu.zones }.loopStored b number }) ?_).of_stored ?_
  · rcases loopStored_bounded { s.lpc with steering := s.mtu.zones } b number with e | ⟨n, e⟩ <;> rw [e]
    · cases b <;> exact hb
    · cases b <;> exact hb.bounded n
  · rw [takeZones_lpc]
    cases b <;> rfl

theorem LampSettingsInv.meteringCompleted {s : State} (h : LampSettingsInv s) : LampSettingsInv (meteringCompleted s) := by
  unfold Machine.meteringCompleted
  split
  · exact LampSettingsInv.takeZones (h.of_stored (by simp)) _ _
  · exact h

theorem LampSettingsInv.completeExposure {s : State} (h : LampSettingsInv s) : LampSettingsInv (completeExposure s) := by
  unfold Machine.completeExposure
  split
  · exact h
  · rename_i r _
    have hm : LampSettingsInv (Machine.meteringCompleted (photometricEnd
        { r with state := .complete, patchedLines := s.pxr.patched } true
        ((s.setPxr (s.pxr.finish .idle)).setCsq { s.csq with
          exposure := none, lastEnded := some { r with state := .complete, patchedLines := s.pxr.patched } }))) :=
      LampSettingsInv.meteringCompleted (h.of_stored (by simp))
    dsimp only
    split <;> exact hm.of_stored (by simp)

/-- A readout that ends leaves the settings, or takes the loop's level (R12, R89). -/
theorem LampSettingsInv.endReadout {s : State} (h : LampSettingsInv s) : LampSettingsInv (endReadout s) := by
  unfold Machine.endReadout judgeReadout
  dsimp only
  split
  · exact h.of_stored (by simp)
  · split
    · exact h.of_stored (by simp)
    · exact LampSettingsInv.completeExposure (h.of_stored (by simp))

/-! ### PSET -/

section
variable {P : State → Prop} {s : State} {α : Type} {put : α → State → State}

theorem storeChoice_keeps (hs : P s) (c : Option α) (v : Int) (h : ∀ a, P (put a s)) : P (storeChoice c v put s).2 := by
  cases c with
  | none => exact hs
  | some a => exact h a

theorem storeQuiescent_keeps (hs : P s) (c : Option α) (v : Int) (h : ∀ a, P (put a s)) :
    P (storeQuiescent c v put s).2 := by
  unfold storeQuiescent
  split
  · exact hs
  · exact storeChoice_keeps hs c v h

end

theorem storeMask_lpc {put : Word16 → State → State} {s : State} (st : UpdateStyle) (old : Word16) (v : Int)
    (h : ∀ m, (put m s).lpc = s.lpc) : (storeMask st old v put s).2.lpc = s.lpc := by
  unfold storeMask
  split
  · exact h _
  · rfl

theorem storeHeader_lpc (v : Int) (c : Option Content) (s : State) : (storeHeader v c s).2.lpc = s.lpc := by
  cases c with
  | none => rfl
  | some c => exact writeWhenOpen_lpc _ c s

theorem LampSettingsInv.afterTemperature {s : State} (h : LampSettingsInv s) : LampSettingsInv (afterTemperature s) :=
  h.of_stored (afterTemperature_stored s)

/-- The write of any parameter keeps the lamp settings in their ranges: each of them is clamped or refused (R78 to R81). -/
theorem LampSettingsInv.writeParam {s : State} (h : LampSettingsInv s) (p : Param) (b : Bank) (st : UpdateStyle)
    (value : List Byte) : LampSettingsInv (writeParam p b st value s).2 := by
  have hb := h.bank b
  obtain ⟨hmin, hlevel, hmax, -⟩ := h.bank b
  generalize hv : fromLe32s value = v
  have clamp {lo hi : Int} (hle : lo ≤ hi) := clampInt_bounds hle v
  cases p with
  | align | depth => exact storeQuiescent_keeps h _ _ fun _ => h
  | readoutTimeout | patchLimit | darkEvery | clipLevel | fill | sendPeriod | probePeriod | interval => exact h
  | blackMode | policy | sendMode | streamFormat | noticeEn | paced | autoswitch =>
    exact storeChoice_keeps h _ _ fun _ => h
  | blackLevel =>
    simp only [Machine.writeParam, writeBlackLevel]
    split <;> exact h
  | riseEn | fallEn => exact h.of_stored (congrArg _ (storeMask_lpc _ _ _ fun _ => rfl))
  | profileId | headBind | bankSet | outWidth | outHeight | hasTone => exact h.of_stored (congrArg _ (storeHeader_lpc _ _ s))
  | label => exact h.of_stored (congrArg _ (writeWhenOpen_lpc _ _ s))
  | mode | steer => exact storeChoice_keeps h _ _ fun _ => h.setBankReport hb
  | level => exact h.setBankReport (hb.bounded _)
  | min =>
    exact h.setBankReport (hb.rebounded (Nat.min_le_right _ _) hmax)
  | max =>
    exact h.setBankReport (hb.rebounded (Nat.le_max_right _ _) (Nat.max_le.2 ⟨clampNat_le (by omega) _, by omega⟩))
  | expo =>
    have := clamp (show 50 ≤ 8000 by omega)
    refine h.setBankReport ?_
    simp only [BankLamp.inRange, hv] at hb ⊢
    omega
  | target =>
    have := clamp (show 0 ≤ 4095 by omega)
    refine h.setBank ?_
    simp only [BankLamp.inRange, hv] at hb ⊢
    omega
  | deadband =>
    have := clamp (show 0 ≤ 1024 by omega)
    obtain ⟨hf, hbeam, -, hrest⟩ := h
    refine ⟨hf, hbeam, ?_, hrest⟩
    simp only [Machine.writeParam, writeDeadband, storeClamped, answerStored, hv, State.setLpc_lpc]
    omega
  | ceiling =>
    obtain ⟨hf, hbeam, hd, hlo, hhi, hrest⟩ := h
    have := clamp (show 10000 ≤ (s.lpc.startupCeiling : Int) by omega)
    refine ⟨hf, hbeam, hd, ?_, ?_, hrest⟩ <;>
      simp only [Machine.writeParam, writeCeiling, storeClamped, answerStored, hv, reportUnderlit_frame, State.setLpc_lpc] <;>
      omega
  | derateStart =>
    have := clamp (show -80 ≤ 248 by omega)
    simp only [Machine.writeParam, writeDerateStart, hv]
    split
    · exact h
    · obtain ⟨hf, hbeam, hd, hlo, hhi, hmax, -, -, hcut⟩ := h
      exact LampSettingsInv.afterTemperature ⟨hf, hbeam, hd, hlo, hhi, hmax, this.1, by simp; omega, hcut⟩
  | cutoff =>
    have := clamp (show -70 ≤ 249 by omega)
    simp only [Machine.writeParam, writeCutoff, hv]
    split
    · exact h
    · obtain ⟨hf, hbeam, hd, hlo, hhi, hmax, hstart, -, -⟩ := h
      exact LampSettingsInv.afterTemperature ⟨hf, hbeam, hd, hlo, hhi, hmax, hstart, by simp; omega, this.2⟩

theorem LampSettingsInv.checkPset {s : State} (h : LampSettingsInv s) (p : Param) (bank style : Byte) (value : List Byte) :
    LampSettingsInv (checkPset p bank style value s).2 := by
  unfold Machine.checkPset
  split
  · split
    · exact h
    · split
      · exact h
      · split
        · exact h.writeParam _ _ _ _
        · exact h
  · exact h

theorem LampSettingsInv.serve {owner : State → Answer} (ho : ∀ u, LampSettingsInv u → LampSettingsInv (owner u).2)
    {s : State} (h : LampSettingsInv s) (q : Request) : LampSettingsInv (serve q owner s) :=
  serve_keeps (P := LampSettingsInv) (fun _ _ h => h) (fun _ _ h => h) ho q s h

theorem LampSettingsInv.psetOwner {s : State} (h : LampSettingsInv s) (body : List Byte) :
    LampSettingsInv (psetOwner body s).2 := by
  unfold Machine.psetOwner
  split
  · split
    · exact h.checkPset _ _ _ _
    · exact h
  · exact h

/-- Every command keeps the lamp settings in their ranges. -/
theorem LampSettingsInv.exec {i : Instr} {s t : State} (h : LampSettingsInv s) (he : exec i s = .next t) :
    LampSettingsInv t := by
  by_cases hi : setsLamps i = false
  · exact h.of_stored (exec_stored hi he)
  cases i with
  | fullReset => cases he; exact fullReset_lampSettings s
  | frameClose =>
    simp only [Machine.exec, execFrameClose] at he
    split at he <;> cases he
    · exact (LampSettingsInv.endReadout (s := closeOpenLine s) (h.of_stored (by simp))).of_stored (by simp)
    · exact h
    · exact h
  | pset body => cases he; exact LampSettingsInv.serve (fun _ hu => hu.psetOwner body) h _
  | psetLevel _ _ _ | psetMin _ _ _ | psetMax _ _ _ | psetExpo _ _ _ | psetMode _ _ _ | psetSteer _ _ _
  | psetCeiling _ _ _ | psetDerateStart _ _ _ | psetCutoff _ _ _ | psetSendMode _ _ _ | psetRiseEn _ _ _
  | psetFallEn _ _ _ | psetNoticeEn _ _ _ | psetOutWidth _ _ _ | psetOutHeight _ _ _ | psetBankSet _ _ _
  | psetHasTone _ _ _ | psetProfileId _ _ _ | psetHeadBind _ _ _ | psetLabel _ _ _ =>
    cases he
    exact LampSettingsInv.serve (fun _ hu => hu.checkPset _ _ _ _) h _
  | _ => exact absurd rfl hi

/-- Settles O57: every command keeps the lamp settings in their ranges, and an idle moment leaves them. -/
theorem lampSettingsInvariantKept : Obligations.LampSettingsInvariantKept := by
  intro s t h hstep
  unfold step at hstep
  split at hstep
  · cases hstep
    exact h.of_stored (congrArg _ (idleMoment_lpc s))
  · rename_i rest _
    exact LampSettingsInv.exec (s := s.setPending rest) h hstep

end Sys2Proof.Machine
end

section
namespace Sys2Proof.Machine

/-! ## The PSETs of a bank's settings and of CEILING (R78 to R80, R181) -/

theorem bankOfByte_bankCode (b : Bank) : bankOfByte (byte (bankCode b)) = some b := bankOfByte_eq_some.2 rfl

section
variable {i : Instr} {p : Param} {bank : Byte} {v : Word32} {s s' : State} {st : Status} {data : List Byte}

/-- A PSET command with a row of its own is answered as its parameter's owner answers the value (R176, R181). -/
theorem answers_psetRow (hs : Served i s) (hq : requestOf i = some (psetRequest p bank 0 (word32Bytes v)))
    (hw : i.wellFormed = true) (hl : p ≠ .label) (hb : p.perBank = true → (bankOfByte bank).isSome = true)
    (ho : ∀ l, (writeParam p ((bankOfByte bank).getD .flood) .write (word32Bytes v) (s.setCml l)).1 = ⟨st, data⟩ ∧
      outsideLink (writeParam p ((bankOfByte bank).getD .flood) .write (word32Bytes v) (s.setCml l)).2 = outsideLink s') :
    Answers i 0x04 st data s s' := by
  obtain ⟨⟨q, hq', ht⟩, hup⟩ := hs
  obtain ⟨t, he, ha⟩ := answers_pset ⟨⟨q, hq.symm.trans hq', ht⟩, hup⟩ (Param.ofCode_code p) hl hb ho
  exact ⟨t, (exec_pset hw hq s).trans he, ha⟩

variable {b : Bank}

/-- The same of a parameter of each bank. -/
theorem answers_bankRow (hs : Served i s) (hq : requestOf i = some (psetRequest p (byte (bankCode b)) 0 (word32Bytes v)))
    (hw : i.wellFormed = true) (hl : p ≠ .label)
    (ho : ∀ l, (writeParam p b .write (word32Bytes v) (s.setCml l)).1 = ⟨st, data⟩ ∧
      outsideLink (writeParam p b .write (word32Bytes v) (s.setCml l)).2 = outsideLink s') :
    Answers i 0x04 st data s s' := by
  refine answers_psetRow hs hq hw hl (fun _ => by rw [bankOfByte_bankCode]; rfl) ?_
  rw [bankOfByte_bankCode]
  exact ho

/-- A setting of a bank that takes a value of a set is answered with it; any other value is refused. -/
theorem answers_bankChoice {α : Type} {choice : Option α} {put : α → State → State} (hs : Served i s)
    (hq : requestOf i = some (psetRequest p (byte (bankCode b)) 0 (word32Bytes v))) (hw : i.wellFormed = true)
    (hl : p ≠ .label) (hc : ∀ u, writeParam p b .write (word32Bytes v) u = storeChoice choice v.toInt put u)
    (hp : ∀ a l, outsideLink (put a (s.setCml l)) = outsideLink (put a s)) :
    (∀ a, choice = some a → Answers i 0x04 .ok (le32s v.toInt) s (put a s)) ∧
    (choice = none → Answers i 0x04 .badParam [] s s) := by
  refine ⟨fun a ha => answers_bankRow hs hq hw hl fun l => ?_, fun ha => answers_bankRow hs hq hw hl fun l => ?_⟩
  · rw [hc, ha]
    exact ⟨rfl, hp a l⟩
  · rw [hc, ha]
    exact ⟨rfl, rfl⟩

end

section
variable {b : Bank} {v : Word32} {s : State}

/-! Each row's answer, with the bank's settings as stored and UNDERLIT recomputed. -/

theorem psetLevel_answers (hs : Served (.psetLevel (byte (bankCode b)) 0 v) s) :
    AnswersStored (.psetLevel (byte (bankCode b)) 0 v) v.toInt (levelStored (s.lpc.bank b) v.toInt) s
      (setBankReport b { s.lpc.bank b with level := levelStored (s.lpc.bank b) v.toInt } s) := by
  refine answers_bankRow (p := .level) hs rfl rfl (by decide) fun l => ?_
  simp only [writeParam, fromLe32s_word32Bytes]
  exact ⟨rfl, rfl⟩

theorem psetMin_answers (hs : Served (.psetMin (byte (bankCode b)) 0 v) s) :
    let x := s.lpc.bank b
    let n := min (clampNat 0 1023 v.toInt) x.max
    AnswersStored (.psetMin (byte (bankCode b)) 0 v) v.toInt n s (setBankReport b (x.bounded n x.max) s) := by
  refine answers_bankRow (p := .min) hs rfl rfl (by decide) fun l => ?_
  simp only [writeParam, fromLe32s_word32Bytes]
  exact ⟨rfl, rfl⟩

theorem psetMax_answers (hs : Served (.psetMax (byte (bankCode b)) 0 v) s) :
    let x := s.lpc.bank b
    let n := max (clampNat 0 1023 v.toInt) x.min
    AnswersStored (.psetMax (byte (bankCode b)) 0 v) v.toInt n s (setBankReport b (x.bounded x.min n) s) := by
  refine answers_bankRow (p := .max) hs rfl rfl (by decide) fun l => ?_
  simp only [writeParam, fromLe32s_word32Bytes]
  exact ⟨rfl, rfl⟩

theorem psetExpo_answers (hs : Served (.psetExpo (byte (bankCode b)) 0 v) s) :
    AnswersStored (.psetExpo (byte (bankCode b)) 0 v) v.toInt (clampNat 50 8000 v.toInt) s
      (setBankReport b { s.lpc.bank b with expo := clampNat 50 8000 v.toInt } s) := by
  refine answers_bankRow (p := .expo) hs rfl rfl (by decide) fun l => ?_
  simp only [writeParam, fromLe32s_word32Bytes, writeExpo, storeClamped, answerStored, clampNat_cast]
  exact ⟨rfl, rfl⟩

theorem psetMode_answers (hs : Served (.psetMode (byte (bankCode b)) 0 v) s) :
    (∀ m, twoWay AutoMode.auto .manual v.toInt = some m → Answers (.psetMode (byte (bankCode b)) 0 v) 0x04 .ok
      (le32s v.toInt) s (setBankReport b { s.lpc.bank b with mode := m } s)) ∧
    (twoWay AutoMode.auto .manual v.toInt = none →
      Answers (.psetMode (byte (bankCode b)) 0 v) 0x04 .badParam [] s s) :=
  answers_bankChoice (p := .mode) (put := fun m u => setBankReport b { u.lpc.bank b with mode := m } u) hs rfl rfl
    (by decide) (fun _ => by rw [← fromLe32s_word32Bytes v]; rfl) fun _ _ => rfl

theorem psetSteer_answers (hs : Served (.psetSteer (byte (bankCode b)) 0 v) s) :
    (∀ z, steerOf v.toInt = some z → Answers (.psetSteer (byte (bankCode b)) 0 v) 0x04 .ok
      (le32s v.toInt) s (setBankReport b { s.lpc.bank b with steer := z } s)) ∧
    (steerOf v.toInt = none → Answers (.psetSteer (byte (bankCode b)) 0 v) 0x04 .badParam [] s s) :=
  answers_bankChoice (p := .steer) (put := fun z u => setBankReport b { u.lpc.bank b with steer := z } u) hs rfl rfl
    (by decide) (fun _ => by rw [← fromLe32s_word32Bytes v]; rfl) fun _ _ => rfl

theorem psetCeiling_answers {bank : Byte} (hs : Served (.psetCeiling bank 0 v) s) :
    let n := clampNat 10000 s.lpc.startupCeiling v.toInt
    AnswersStored (.psetCeiling bank 0 v) v.toInt n s (reportUnderlit (s.setLpc { s.lpc with ceiling := n })) := by
  refine answers_psetRow (p := .ceiling) hs rfl rfl (by decide) (fun h => by cases h) fun l => ?_
  simp only [writeParam, fromLe32s_word32Bytes, writeCeiling, storeClamped, answerStored, clampNat_cast]
  exact ⟨rfl, rfl⟩

end

/-! ### The values of STEER (R79) -/

theorem steerOf_zone {v : Word32} {z : Fin 8} (h : v.toNat = z.val) :
    steerOf v.toInt = some (some z) ∧ le32s v.toInt = [byte z.val, 0, 0, 0] := by
  obtain rfl : v = BitVec.ofNat 32 z.val := BitVec.eq_of_toNat_eq (by
    rw [BitVec.toNat_ofNat, h]; omega)
  revert z
  decide

theorem steerOf_refused {v : Word32} (h : 8 ≤ v.toNat) (h' : v ≠ 255) : steerOf v.toInt = none := by
  have hne : v.toInt ≠ 255 := toInt_ne h'
  unfold steerOf
  rw [if_neg hne]
  split
  · rename_i hpos
    have hv : v.toInt.toNat = v.toNat := by
      rw [BitVec.toInt_eq_toNat_cond] at hpos ⊢
      split at hpos <;> omega
    rw [hv, finOf_eq_none h]
    rfl
  · rfl

/-! ### The derate limit (R82) -/

section
variable {l : Lamps} {T : Int} (b : Bank)

theorem derateLimit_cutoff (h : l.cutoff = true) : l.derateLimit b = 0 := by
  simp [Lamps.derateLimit, h]

theorem derateLimit_noTemperature (h : l.cutoff = false) (ht : l.temperature = none) :
    l.derateLimit b = (l.bank b).max / 4 := by
  simp [Lamps.derateLimit, h, ht]

theorem derateLimit_cool (h : l.cutoff = false) (ht : l.temperature = some T) (hT : T ≤ l.derateStart) :
    l.derateLimit b = (l.bank b).max := by
  simp [Lamps.derateLimit, h, ht, hT]

/-- Between DERATE_START and CUTOFF the limit falls with the temperature; the quotient is not negative (R82). -/
theorem derateLimit_derating (h : l.cutoff = false) (ht : l.temperature = some T) (hs : l.derateStart < T)
    (hc : T < l.cutoffAt) : (l.derateLimit b : Int) =
      (((l.bank b).max : Int) * (l.cutoffAt - T)) / (l.cutoffAt - l.derateStart) := by
  have hpos : 0 ≤ (((l.bank b).max : Int) * (l.cutoffAt - T)) / (l.cutoffAt - l.derateStart) :=
    Int.ediv_nonneg (Int.mul_nonneg (by omega) (by omega)) (by omega)
  simp only [Lamps.derateLimit, h, ht, if_neg (Int.not_le.2 hs), Bool.false_eq_true, if_false]
  exact Int.toNat_of_nonneg hpos

end

/-- Settles O49: each PSET's answer by its owner's rule, the derate limit by R82's cases, and UNDERLIT's report. -/
theorem psetLampSettings : Obligations.PsetLampSettings := by
  refine ⟨fun s b v => ⟨psetLevel_answers, psetMin_answers, psetMax_answers, psetExpo_answers, fun hs => ?_, fun hs => ?_,
    fun _ _ hs => psetCeiling_answers hs⟩, fun l b => ⟨derateLimit_cutoff b, derateLimit_noTemperature b, fun T h ht =>
    ⟨derateLimit_cool b h ht, derateLimit_derating b h ht⟩⟩, fun s => ⟨?_, fun k hk h7 => ?_, rfl⟩⟩
  · obtain ⟨hsome, hnone⟩ := psetMode_answers hs
    refine ⟨?_, ?_, fun h0 h1 => hnone ((if_neg (toInt_ne h0)).trans (if_neg (toInt_ne h1)))⟩
    · rintro rfl
      exact hsome .auto rfl
    · rintro rfl
      exact hsome .manual rfl
  · obtain ⟨hsome, hnone⟩ := psetSteer_answers hs
    refine ⟨fun z hz => ?_, ?_, fun h8 h255 => hnone (steerOf_refused h8 h255)⟩
    · obtain ⟨hzone, hbytes⟩ := steerOf_zone hz
      rw [← hbytes]
      exact hsome _ hzone
    · rintro rfl
      exact hsome none rfl
  · rw [reportUnderlit_live s (by decide), if_pos rfl, underlit_iff]
  · rw [reportUnderlit_live s hk, if_neg h7]

end Sys2Proof.Machine
end

section
namespace Sys2Proof.Machine

/-! ## The examination of the cutoff (R84, R85, R91, R92, R117, R118) -/

/-! ### R85's table -/

section
variable {l : Lamps} {T : Int}

theorem examined_hot (ht : l.temperature = some T) (hT : l.cutoffAt ≤ T) : l.examined = true := by
  cases h : l.cutoff <;> simp only [Lamps.examined, h, ht]
  · simpa using hT
  · simp; omega

theorem examined_staysOn (ht : l.temperature = some T) (hT : l.cutoffAt - 10 < T) (hc : l.cutoff = true) :
    l.examined = true := by
  simpa only [Lamps.examined, hc, ht, Bool.not_eq_true', decide_eq_false_iff_not, not_le] using hT

theorem examined_cool (ht : l.temperature = some T) (hT : T ≤ l.cutoffAt - 10) : l.examined = false := by
  cases h : l.cutoff <;> simp only [Lamps.examined, h, ht]
  · simp; omega
  · simpa using hT

/-- Between CUTOFF - 10 and CUTOFF the cutoff stays as it is. -/
theorem examined_between (ht : l.temperature = some T) (hT : l.cutoffAt - 10 < T) (hT' : T < l.cutoffAt) :
    l.examined = l.cutoff := by
  cases h : l.cutoff with
  | true => exact examined_staysOn ht hT h
  | false => simpa only [Lamps.examined, h, ht, decide_eq_false_iff_not, not_le] using hT'

theorem examined_noTemperature (ht : l.temperature = none) : l.examined = l.cutoff := by
  cases h : l.cutoff <;> simp only [Lamps.examined, h, ht]

end

/-! ### What the examination does to the part -/

theorem examineCutoff_stands {s : State} (h : s.lpc.examined = s.lpc.cutoff) : examineCutoff s = s := if_pos h

/-- The cutoff becomes ON: the lit bank is turned off and a halt cause arises. -/
theorem examineCutoff_rises {s : State} (hc : s.lpc.cutoff = false) (hx : s.lpc.examined = true) :
    examineCutoff s = haltFor .lampCutoff (s.setLpc { s.lpc with cutoff := true, lit := none }) := by
  simp [examineCutoff, hc, hx]

/-- The cutoff becomes OFF: a halt may end. -/
theorem examineCutoff_falls {s : State} (hc : s.lpc.cutoff = true) (hx : s.lpc.examined = false) :
    examineCutoff s = haltExit (s.setLpc { s.lpc with cutoff := false }) := by
  simp [examineCutoff, hc, hx]

/-- HALT without a cutoff lasts without a head, and else is left for SWITCH-DRAIN, RUN or IDLE (R118). -/
theorem haltExit_state {s : State} (hs : s.csq.state = .halt) (hc : s.lpc.cutoff = false) :
    ((∀ k, s.hpb.adopted ≠ some (.head k)) → (haltExit s).csq.state = .halt) ∧
    ((∃ k, s.hpb.adopted = some (.head k)) → (haltExit s).csq.state =
      if s.csq.switchTarget ≠ none then .switchDrain else if s.csq.streamRequested then .run else .idle) := by
  have hcause := haltCause_iff s
  simp only [HaltCauseHolds, hc, Bool.false_eq_true, or_false] at hcause
  refine ⟨fun hk => ?_, fun ⟨k, hk⟩ => ?_⟩
  · simp [haltExit, hcause.2 hk, hs]
  · have hno : haltCause s = false := by
      rw [← Bool.not_eq_true, hcause]
      exact fun h => h k hk
    rw [haltExit, if_pos ⟨hs, hno⟩]
    cases ht : s.csq.switchTarget <;> simp [enter, runOrIdle]

/-- The condition sources of the lamps after their report (R91, R92). -/
theorem reportLamps_live (s : State) :
    (reportLamps s).cdu.live.getLsbD 2 = s.lpc.derating ∧ (reportLamps s).cdu.live.getLsbD 3 = s.lpc.cutoff ∧
    (reportLamps s).cdu.live.getLsbD 4 = s.lpc.temperature.isNone ∧
    (reportLamps s).cdu.live.getLsbD 7 = s.lpc.underlit := by
  have hlive : ∀ n, n < 16 → (reportLamps s).cdu.live.getLsbD n =
      if n = 7 then s.lpc.underlit else if n = 3 then s.lpc.cutoff else if n = 4 then s.lpc.temperature.isNone
      else if n = 2 then s.lpc.derating else s.cdu.live.getLsbD n := by
    intro n hn
    rw [reportLamps, reportUnderlit_live _ hn, report_live_bit _ _ _ n hn, report_live_bit _ _ _ n hn,
      report_live_bit _ _ _ n hn]
    simp only [report_frame]
    rfl
  exact ⟨hlive 2 (by decide), hlive 3 (by decide), hlive 4 (by decide), hlive 7 (by decide)⟩

theorem derating_iff (l : Lamps) : l.derating = true ↔ ∃ T, l.temperature = some T ∧ l.derateStart < T := by
  cases h : l.temperature <;> simp [Lamps.derating, h]

/-- What the steps of R84 make of the part `s`, in which the temperature or a threshold is new: the lamps are examined, the
sequencer halts or leaves its halt, and the live set follows. -/
structure CutoffExamined (s t : State) : Prop where
  lpc : t.lpc = s.lpc.afterExamination
  stands : s.lpc.examined = s.lpc.cutoff → t.csq = s.csq
  rises : s.lpc.cutoff = false → s.lpc.examined = true →
    (s.csq.state = .starting → t.csq = s.csq) ∧ (s.csq.state ≠ .starting → HaltArises .lampCutoff s t)
  falls : s.lpc.cutoff = true → s.lpc.examined = false → s.csq.state = .halt →
    ((∀ k, s.hpb.adopted ≠ some (.head k)) → t.csq.state = .halt) ∧
    ((∃ k, s.hpb.adopted = some (.head k)) → t.csq.state =
      if s.csq.switchTarget ≠ none then .switchDrain else if s.csq.streamRequested then .run else .idle)
  derating : t.cdu.live.getLsbD 2 = true ↔ ∃ T, t.lpc.temperature = some T ∧ t.lpc.derateStart < T
  cutoff : t.cdu.live.getLsbD 3 = t.lpc.cutoff
  fault : t.cdu.live.getLsbD 4 = t.lpc.temperature.isNone
  underlit : t.cdu.live.getLsbD 7 = true ↔ UnderlitHolds t.lpc

theorem afterTemperature_examined (s : State) : CutoffExamined s (afterTemperature s) := by
  obtain ⟨hderate, hcut, hfault, hunder⟩ := reportLamps_live (examineCutoff s)
  have hcsq : (afterTemperature s).csq = (examineCutoff s).csq := by simp [afterTemperature]
  have hlpc : (afterTemperature s).lpc = (examineCutoff s).lpc := by simp [afterTemperature]
  refine ⟨hlpc.trans (examineCutoff_lpc s), fun h => ?_, fun hc hx => ⟨fun hs => ?_, fun hs => ?_⟩, fun hc hx hs => ?_,
    ?_, ?_, ?_, ?_⟩
  · rw [hcsq, examineCutoff_stands h]
  · rw [hcsq, examineCutoff_rises hc hx]
    simp [haltFor, hs]
  · have hkeeps : ∀ n, (examineCutoff s).cdu.latches.getLsbD n = true →
        (afterTemperature s).cdu.latches.getLsbD n = true := fun n h =>
      report_keeps_latch _ _ _ (report_keeps_latch _ _ _ (report_keeps_latch _ _ _ (report_keeps_latch _ _ _ h)))
    rw [examineCutoff_rises hc hx] at hcsq hkeeps
    have ha := haltFor_arises (reason := .lampCutoff) (s := s.setLpc { s.lpc with cutoff := true, lit := none }) hs (.inr rfl)
    refine ha.congr ⟨rfl, rfl, rfl, rfl, rfl, rfl⟩ ⟨hcsq, ?_, ?_, ?_, ?_, ?_, ?_, hkeeps⟩ <;>
      simp [afterTemperature, examineCutoff_rises hc hx]
  · rw [hcsq, examineCutoff_falls hc hx]
    exact haltExit_state (s := s.setLpc { s.lpc with cutoff := false }) hs rfl
  · rw [hlpc, ← derating_iff, ← hderate]
    rfl
  · rw [hlpc, ← hcut]
    rfl
  · rw [hlpc, ← hfault]
    rfl
  · rw [hlpc, ← underlit_iff, ← hunder]
    rfl

/-- The examination leaves the temperature, the limits and the banks' settings. -/
theorem CutoffExamined.settings {s t : State} (h : CutoffExamined s t) : t.lpc.temperature = s.lpc.temperature ∧
    t.lpc.derateStart = s.lpc.derateStart ∧ t.lpc.cutoffAt = s.lpc.cutoffAt ∧ t.lpc.ceiling = s.lpc.ceiling ∧
    t.lpc.flood = s.lpc.flood ∧ t.lpc.beam = s.lpc.beam := by
  rw [h.lpc]
  exact ⟨rfl, rfl, rfl, rfl, rfl, rfl⟩

theorem CutoffExamined.cutoff_eq {s t : State} (h : CutoffExamined s t) : t.lpc.cutoff = s.lpc.examined :=
  congrArg Lamps.cutoff h.lpc

/-- A cutoff that stays as it is leaves the lit bank and the sequencer. -/
theorem CutoffExamined.unchanged {s t : State} (h : CutoffExamined s t) (e : s.lpc.examined = s.lpc.cutoff) :
    t.lpc.cutoff = s.lpc.cutoff ∧ t.lpc.lit = s.lpc.lit ∧ t.csq = s.csq :=
  ⟨h.cutoff_eq.trans e, (congrArg Lamps.lit h.lpc).trans (if_neg fun ⟨hc, hx⟩ => by simp [hc, hx] at e), h.stands e⟩

/-- A cutoff that becomes ON turns the lit bank off. -/
theorem CutoffExamined.turnedOn {s t : State} (h : CutoffExamined s t) (hc : s.lpc.cutoff = false)
    (hx : s.lpc.examined = true) : t.lpc.cutoff = true ∧ t.lpc.lit = none :=
  ⟨h.cutoff_eq.trans hx, (congrArg Lamps.lit h.lpc).trans (if_pos ⟨hc, hx⟩)⟩

/-- The examination told of parts that agree on what it speaks of: the link and the notice pending have no part in it. -/
theorem CutoffExamined.linked {s t t' : State} (h : CutoffExamined s t) (hp : t'.pxr = t.pxr) (hphc : t'.phc = t.phc)
    (hr : t'.rme = t.rme) (hm : t'.mtu = t.mtu) (hl : t'.lpc = t.lpc) (hc : t'.csq = t.csq) (ho : t'.ofq = t.ofq)
    (hlive : t'.cdu.live = t.cdu.live) (hlatch : t'.cdu.latches = t.cdu.latches) : CutoffExamined s t' where
  lpc := hl.trans h.lpc
  stands e := hc.trans (h.stands e)
  rises hf ht := ⟨fun hs => hc.trans ((h.rises hf ht).1 hs), fun hs => ((h.rises hf ht).2 hs).congr
    ⟨rfl, rfl, rfl, rfl, rfl, rfl⟩ ⟨hc, hp, hphc, ho, hr, by rw [hm], by rw [hl], fun n hn => by rw [hlatch]; exact hn⟩⟩
  falls := by rw [hc]; exact h.falls
  derating := by rw [hlive, hl]; exact h.derating
  cutoff := by rw [hlive, hl]; exact h.cutoff
  fault := by rw [hlive, hl]; exact h.fault
  underlit := by rw [hlive, hl]; exact h.underlit

theorem CutoffExamined.pump {s t : State} (h : CutoffExamined s t) : CutoffExamined s (pump t) := by
  apply h.linked <;> simp

theorem CutoffExamined.composeReply {s t : State} (h : CutoffExamined s t) (q : Request) (r : Response) :
    CutoffExamined s (composeReply q r t) := by
  apply h.linked <;> simp

end Sys2Proof.Machine
end

section
namespace Sys2Proof.Machine

/-! ## Temperature conversions (R84, R163) -/

/-- The part a temperature conversion's code is handed to, before the steps of R84. -/
def temperatureTaken (r : Nat) (s : State) : State :=
  (s.setHpb { s.hpb.release with latestTemp := some r, temperature := temperatureOf r }).setLpc
    { s.lpc with temperature := temperatureOf r }

theorem exec_tempConversionDone {s : State} (h : s.hpb.conv = .convertingTemp) (r : Nat) :
    exec (.tempConversionDone r) s = .next (pump (afterTemperature (temperatureTaken r s))) := if_pos h

theorem release_adopted (p : Probe) : p.release.adopted = p.adopted := by
  unfold Probe.release
  split <;> rfl

/-- Settles O35: the temperature by R163, then the examination of the cutoff in the part that holds it. -/
theorem temperatureDrivesLamps : Obligations.TemperatureDrivesLamps := by
  intro r s hv
  have hx := (afterTemperature_examined (temperatureTaken r s)).pump
  refine ⟨_, exec_tempConversionDone hv r, ?_⟩
  have hprobe : (pump (afterTemperature (temperatureTaken r s))).hpb = (temperatureTaken r s).hpb := by simp
  have hadopted : (temperatureTaken r s).hpb.adopted = s.hpb.adopted := release_adopted s.hpb
  generalize pump (afterTemperature (temperatureTaken r s)) = t at hx hprobe ⊢
  have ht : t.lpc.temperature = t.hpb.temperature := by
    rw [hx.lpc, hprobe]
    rfl
  have taken : ∀ {T}, t.hpb.temperature = T → (temperatureTaken r s).lpc.temperature = T := by
    rintro T rfl
    rw [hprobe]
    rfl
  refine ⟨by rw [hprobe]; rfl, ht, fun h => ?_, fun h1 h2 => ?_, fun T hT hle hoff => ?_, fun T hT hlt hon => ?_,
    fun T hT hle => ?_, fun T hT hle hon hhalt => ?_, fun T hT hlt hlt' => ?_, fun hn => ?_, ?_, hx.cutoff, ?_, hx.underlit⟩
  · rw [hprobe]
    exact if_pos h
  · rw [hprobe]
    exact if_neg (by omega)
  · have hrise := examined_hot (taken hT) hle
    obtain ⟨hcut, hlit⟩ := hx.turnedOn hoff hrise
    obtain ⟨hstart, harise⟩ := hx.rises hoff hrise
    exact ⟨hcut, hlit, hstart, harise⟩
  · obtain ⟨hcut, hrest⟩ := hx.unchanged ((examined_staysOn (taken hT) hlt hon).trans hon.symm)
    exact ⟨hcut.trans hon, hrest⟩
  · exact hx.cutoff_eq.trans (examined_cool (taken hT) hle)
  · have := hx.falls hon (examined_cool (taken hT) hle) hhalt
    rwa [hadopted] at this
  · exact hx.cutoff_eq.trans (examined_between (taken hT) hlt hlt')
  · exact hx.cutoff_eq.trans (examined_noTemperature (taken hn))
  · rw [hx.derating, ht, hx.lpc]
    rfl
  · rw [hx.fault, ht]

/-! ## The PSETs of the thermal limits (R81) -/

section
variable {i : Instr} {p : Param} {bank : Byte} {v : Word32} {s : State}

/-- A PSET command with a row of its own that its parameter's owner refuses. -/
theorem answers_psetRow_refused {st : Status} (hs : Served i s)
    (hq : requestOf i = some (psetRequest p bank 0 (word32Bytes v))) (hw : i.wellFormed = true) (hl : p ≠ .label)
    (hb : p.perBank = true → (bankOfByte bank).isSome = true)
    (ho : ∀ l, writeParam p ((bankOfByte bank).getD .flood) .write (word32Bytes v) (s.setCml l) =
      refuse st (s.setCml l)) : Answers i 0x04 st [] s s :=
  answers_psetRow hs hq hw hl hb fun l => by rw [ho]; exact ⟨rfl, rfl⟩

/-- A PSET that stores a thermal limit, after which the lamps stand at `x`: it is answered with the stored value, and
the cutoff is examined in the part with that limit (R81, R181). -/
theorem thermalLimit_stored {x : Lamps} {n : Int} {P : State → Prop} (hs : Served i s)
    (hq : requestOf i = some (psetRequest p bank 0 (word32Bytes v))) (hw : i.wellFormed = true) (hl : p ≠ .label)
    (hb : p.perBank = true → (bankOfByte bank).isSome = true)
    (ho : ∀ l, writeParam p ((bankOfByte bank).getD .flood) .write (word32Bytes v) (s.setCml l) =
      answerStored v.toInt n (afterTemperature ((s.setCml l).setLpc x)))
    (hP : ∀ t, newestReply t = some (replyFrame 0x04 (if n = v.toInt then .ok else .okClamped) (le32s n)) →
      CutoffExamined (s.setLpc x) t → P t) : Completes i s P := by
  obtain ⟨⟨q, hq', ht⟩, hup⟩ := hs
  obtain rfl : psetRequest p bank 0 (word32Bytes v) = q := Option.some.inj (hq.symm.trans hq')
  obtain ⟨hold, he⟩ := serve_eq (owner := psetOwner (byte p.code :: bank :: 0 :: word32Bytes v)) ht rfl
    (lengthOk_psetWord (Param.ofCode_code p) hl bank v) (.inl hup)
  refine ⟨_, (exec_pset hw hq s).trans (congrArg _ he), ?_⟩
  rw [psetOwner_word (Param.ofCode_code p) hl hb, ho]
  have hx := ((afterTemperature_examined ((s.setCml { s.cml with holding := hold }).setLpc x)).composeReply
    (psetRequest p bank 0 (word32Bytes v)) ⟨if n = v.toInt then .ok else .okClamped, le32s n⟩).pump
  exact hP _ (newestReply_composed _ _ _)
    ⟨hx.lpc, hx.stands, hx.rises, hx.falls, hx.derating, hx.cutoff, hx.fault, hx.underlit⟩

end

/-- Settles O50: a refused value changes nothing; a stored one is answered, and the cutoff is examined against it. -/
theorem psetThermalLimits : Obligations.PsetThermalLimits := by
  intro s bank v
  have started : ∀ {i}, Served i s → s.csq.state ≠ .starting := fun ⟨_, hup⟩ => by simpa [startUpEnded] using hup
  refine ⟨fun hs => ⟨fun hr => ?_, fun hr => ?_⟩, fun hs => ⟨fun hr => ?_, fun hr => ?_⟩⟩
  · refine answers_psetRow_refused (p := .derateStart) hs rfl rfl (by decide) (fun h => by cases h) fun l => ?_
    simp only [writeParam, fromLe32s_word32Bytes]
    exact if_pos hr
  · refine thermalLimit_stored (p := .derateStart) (n := clampInt (-80) 248 v.toInt)
      (x := { s.lpc with derateStart := clampInt (-80) 248 v.toInt }) hs rfl rfl
      (by decide) (fun h => by cases h) (fun l => ?_) fun t hreply hx => ?_
    · simp only [writeParam, fromLe32s_word32Bytes]
      exact if_neg (Int.not_le.2 hr)
    generalize clampInt (-80) 248 v.toInt = n at hreply hx ⊢
    obtain ⟨htemp, hstart, hcut, hceiling, hflood, hbeam⟩ := hx.settings
    refine ⟨hreply, hstart, hcut, htemp, hceiling, hflood, hbeam, ?_,
      fun T hT hlt hlt' => hx.unchanged (examined_between hT hlt hlt'), fun T hT hle => ?_, fun T hT hle => ?_,
      fun hT => hx.unchanged (examined_noTemperature hT), hx.cutoff, hx.underlit⟩
    · rw [hx.derating, htemp, hstart]
      rfl
    · have hot := examined_hot (l := { s.lpc with derateStart := n }) hT hle
      refine ⟨hx.cutoff_eq.trans hot, fun hoff => ⟨(hx.turnedOn hoff hot).2, (hx.rises hoff hot).2 (started hs)⟩,
        fun hon => (hx.unchanged (hot.trans hon.symm)).2⟩
    · have cool := examined_cool (l := { s.lpc with derateStart := n }) hT hle
      exact ⟨hx.cutoff_eq.trans cool, fun hoff => (hx.unchanged (cool.trans hoff.symm)).2⟩
  · refine answers_psetRow_refused (p := .cutoff) hs rfl rfl (by decide) (fun h => by cases h) fun l => ?_
    simp only [writeParam, fromLe32s_word32Bytes]
    exact if_pos hr
  · refine thermalLimit_stored (p := .cutoff) (n := clampInt (-70) 249 v.toInt)
      (x := { s.lpc with cutoffAt := clampInt (-70) 249 v.toInt }) hs rfl rfl
      (by decide) (fun h => by cases h) (fun l => ?_) fun t hreply hx => ?_
    · simp only [writeParam, fromLe32s_word32Bytes]
      exact if_neg (Int.not_le.2 hr)
    generalize clampInt (-70) 249 v.toInt = n at hreply hx ⊢
    obtain ⟨htemp, hstart, hcut, -⟩ := hx.settings
    refine ⟨hreply, hcut, hstart, htemp, fun T hT hle => ?_, fun T hT hle => ?_,
      fun T hT hlt hlt' => hx.unchanged (examined_between (l := { s.lpc with cutoffAt := n }) hT hlt hlt'),
      fun hT => (hx.unchanged (examined_noTemperature hT)).1, hx.cutoff, hx.underlit, fun T hT hle hon hhalt => ?_⟩
    · have hot := examined_hot (l := { s.lpc with cutoffAt := n }) hT hle
      exact ⟨hx.cutoff_eq.trans hot, fun hoff => ⟨(hx.turnedOn hoff hot).2, (hx.rises hoff hot).2 (started hs)⟩⟩
    · exact hx.cutoff_eq.trans (examined_cool (l := { s.lpc with cutoffAt := n }) hT hle)
    · exact (hx.falls hon (examined_cool (l := { s.lpc with cutoffAt := n }) hT hle) hhalt).2

end Sys2Proof.Machine
end

section
namespace Sys2Proof.Machine

/-! ## The stills over a command (R106 to R112, R117)

No command but STIL brings a tag in. What every other command does to the stills is said once by `StillsMove`, a relation that
composes and keeps `StillsInv`. -/

/-- What `StillsInv` speaks of: the still queue's length, the tags of the unfinished stills, whether a still is active, and whether
the sequencer is in STILL. -/
def Sequencer.stills (q : Sequencer) : Nat × List Nat × Bool × Prop :=
  (q.queue.length, openTags q, q.active.isSome, q.state = .still)

/-- STILL goes with an active still (R106). -/
def Sequencer.stillCoherent (q : Sequencer) : Prop := q.state = .still ↔ q.active.isSome = true

/-- The part goes from `s` to `t` with no still brought in: the tags of `t` are among those of `s`, each no more often; the queue
is no longer; and STILL goes on to be the state of an active still. -/
structure StillsMove (s t : State) : Prop where
  queue : t.csq.queue.length ≤ s.csq.queue.length
  tags : (openTags t.csq).Subperm (openTags s.csq)
  coherent : s.csq.stillCoherent → t.csq.stillCoherent

theorem StillsMove.refl (s : State) : StillsMove s s := ⟨le_refl _, List.Subperm.refl _, id⟩

theorem StillsMove.trans {s u t : State} (h : StillsMove s u) (h' : StillsMove u t) : StillsMove s t :=
  ⟨h'.queue.trans h.queue, h'.tags.trans h.tags, h'.coherent ∘ h.coherent⟩

theorem nodup_of_subperm {α : Type} {l m : List α} (h : l.Subperm m) (hm : m.Nodup) : l.Nodup := by
  obtain ⟨k, hp, hs⟩ := h
  exact hp.nodup_iff.1 (hm.sublist hs)

theorem StillsInv.of_move {s t : State} (h : StillsInv s) (m : StillsMove s t) : StillsInv t := by
  obtain ⟨hlen, htags, hstate⟩ := h
  exact ⟨m.queue.trans hlen, nodup_of_subperm m.tags htags, m.coherent hstate⟩

/-- A change that leaves the stills as they are. -/
theorem StillsMove.of_stills {s t : State} (h : t.csq.stills = s.csq.stills) : StillsMove s t := by
  simp only [Sequencer.stills, Prod.mk.injEq] at h
  obtain ⟨hqueue, htags, hactive, hstate⟩ := h
  refine ⟨hqueue.le, htags ▸ List.Subperm.refl _, fun hc => ?_⟩
  rwa [Sequencer.stillCoherent, hstate, hactive]

theorem StillsMove.of_csq {s t : State} (h : t.csq = s.csq) : StillsMove s t := .of_stills (congrArg _ h)

/-- A move told from another part with the same sequencer. -/
theorem StillsMove.from_csq {s u t : State} (m : StillsMove u t) (h : u.csq = s.csq) : StillsMove s t :=
  .trans (.of_csq h) m

/-- A move told of another part with the same sequencer. -/
theorem StillsMove.to_csq {s u t : State} (m : StillsMove s u) (h : t.csq = u.csq) : StillsMove s t :=
  m.trans (.of_csq h)

/-- The sequencer goes from one state other than STILL to another, with the same stills. -/
theorem StillsMove.of_state {s t : State} (hq : t.csq.queue = s.csq.queue) (ha : t.csq.active = s.csq.active)
    (hl : t.csq.later = s.csq.later) (hs : s.csq.state ≠ .still) (ht : t.csq.state ≠ .still) : StillsMove s t :=
  .of_stills (by simp [Sequencer.stills, openTags, hq, ha, hl, hs, ht])

/-- The tags of the stills that remain stand in their order. -/
theorem openTags_sublist {p q : Sequencer} (hq : p.queue.Sublist q.queue) (ha : p.active = none ∨ p.active = q.active)
    (hl : p.later.Sublist q.later) : (openTags p).Sublist (openTags q) := by
  refine ((hq.map _).append ?_).append (hl.map _)
  rcases ha with ha | ha <;> simp [ha]

/-- Stills leave the queue or the list of those past their finalise start, the active still staying as it is. -/
theorem StillsMove.of_sublist {s t : State} (hq : t.csq.queue.Sublist s.csq.queue) (ha : t.csq.active = s.csq.active)
    (hl : t.csq.later.Sublist s.csq.later) (hs : t.csq.state = s.csq.state) : StillsMove s t := by
  refine ⟨hq.length_le, (openTags_sublist hq (.inr ha) hl).subperm, fun hc => ?_⟩
  rwa [Sequencer.stillCoherent, hs, ha]

/-- The active still, if there is one, is gone, and STILL with it. -/
theorem StillsMove.of_inactive {s t : State} (hq : t.csq.queue.Sublist s.csq.queue) (ha : t.csq.active = none)
    (hl : t.csq.later.Sublist s.csq.later) (ht : t.csq.state ≠ .still) : StillsMove s t :=
  ⟨hq.length_le, (openTags_sublist hq (.inl ha) hl).subperm, fun _ => by simp [Sequencer.stillCoherent, ha, ht]⟩

theorem runOrIdle_ne_still (s : State) : runOrIdle s ≠ .still := by
  unfold runOrIdle; split <;> simp

theorem openTags_startStill (q : StillRequest) {rest : List StillRequest} (claim : Fin 4 × Bool) {s : State}
    (h : s.csq.queue = q :: rest) : (openTags (startStill q rest claim s).csq).Subperm (openTags s.csq) := by
  obtain ⟨hcsq, -⟩ := startStill_spec q rest claim s
  have hstarted : (startedStill q claim.1 s).req.tag = q.tag := rfl
  rw [hcsq]
  simp only [openTags, h, List.map_cons, Option.toList_some, List.map_nil, hstarted]
  rw [List.subperm_append_right]
  exact (List.perm_append_singleton _ _).subperm.trans (List.sublist_append_left _ _).subperm

theorem openTags_startFinalise {a : StillTrack} (id : LinId) {s : State} (h : s.csq.active = some a) :
    (openTags (startFinalise a id s).csq).Subperm (openTags s.csq) := by
  obtain ⟨-, -, -, -, hcsq⟩ := startFinalise_spec a id s
  rw [hcsq]
  simp only [openTags, h, List.map_append, List.map_cons, Option.toList_some, Option.toList_none, List.map_nil,
    List.append_nil, List.append_assoc]
  rw [List.subperm_append_left]
  exact List.perm_append_comm.subperm

theorem setPhase_tags (tag : Nat) (p : StillPhase) (later : List StillTrack) :
    (setPhase tag p later).map (fun a => a.req.tag) = later.map fun a => a.req.tag := by
  simp only [setPhase, List.map_map]
  refine List.map_congr_left fun a _ => ?_
  simp only [Function.comp_apply]
  split <;> rfl

theorem movePhase_tags (p p' : StillPhase) (later : List StillTrack) :
    (movePhase p p' later).map (fun a => a.req.tag) = later.map fun a => a.req.tag := by
  simp only [movePhase, List.map_map]
  refine List.map_congr_left fun a _ => ?_
  simp only [Function.comp_apply]
  split <;> rfl

theorem queuedStills_tags (k : PictureKind) (later : List StillTrack) :
    (queuedStills k later).map (fun a => a.req.tag) = later.map fun a => a.req.tag := by
  cases k with
  | stream => rfl
  | still tag => exact setPhase_tags tag _ later

/-- Stills past their finalise start change their phase, not their tag (R111). -/
theorem StillsMove.of_later {s t : State} {later : List StillTrack} (hc : t.csq.stills = { s.csq with later }.stills)
    (hl : later.map (fun a => a.req.tag) = s.csq.later.map fun a => a.req.tag) : StillsMove s t :=
  .of_stills (hc.trans (by simp only [Sequencer.stills, openTags, hl]))

end Sys2Proof.Machine
end

section
namespace Sys2Proof.Machine

/-! ### What the shared operations do to the stills -/

theorem pump_stills (s : State) : StillsMove s (pump s) := .of_csq (by simp)

theorem stillAbandoned_stills (why : AbandonReason) (tag : Nat) (s : State) : StillsMove s (stillAbandoned why tag s) := by
  unfold stillAbandoned
  split
  · rename_i a ha
    split
    · split
      · exact .of_stills (by simp [Sequencer.stills, openTags, ha])
      · exact .of_inactive (by simp [leaveStill, enter, failActive, dropActive])
          (by simp [leaveStill, enter, failActive, dropActive]) (by simp [leaveStill, enter, failActive, dropActive])
          (runOrIdle_ne_still _)
    · exact .refl s
  · exact .refl s

theorem sequencerAbandoned_stills (r : ExposureRecord) (why : AbandonReason) (s : State) :
    StillsMove s (sequencerAbandoned r why s) := by
  unfold sequencerAbandoned
  split
  · exact .of_stills rfl
  · exact stillAbandoned_stills why _ s
  · exact .refl s

/-- A completion leaves every still with its tag: the active one counts it (R110). -/
theorem sequencerCompleted_stills (r : ExposureRecord) (s : State) : StillsMove s (sequencerCompleted r s) := by
  unfold sequencerCompleted
  split
  · unfold streamCompleted
    split <;> exact .of_stills rfl
  · unfold stillCompleted
    split
    · rename_i a ha
      split
      · refine .of_stills ?_
        dsimp only
        split <;> simp [Sequencer.stills, openTags, ha]
      · exact .refl s
    · exact .refl s
  · exact .refl s

theorem abandonExposure_stills (why : AbandonReason) (next : ReceiverState) (s : State) :
    StillsMove s (abandonExposure why next s) := by
  cases hx : s.csq.exposure with
  | none => simp only [abandonExposure, hx]; exact .refl s
  | some r =>
    obtain ⟨r', u, v, -, he, hcsq, -⟩ := abandonExposure_parts why next hx
    have hu : StillsMove s u := .of_stills (by rw [hcsq]; rfl)
    rw [he]
    exact (hu.trans (sequencerAbandoned_stills r' why u)).to_csq (by simp)

theorem completeExposure_stills (s : State) : StillsMove s (completeExposure s) := by
  cases hx : s.csq.exposure with
  | none => simp only [completeExposure, hx]; exact .refl s
  | some r =>
    obtain ⟨r', u, v, c, -, he, hcsq, -⟩ := completeExposure_parts hx
    have hu : StillsMove s u := .of_stills (by rw [hcsq]; rfl)
    rw [he]
    exact (hu.trans (sequencerCompleted_stills r' u)).to_csq rfl

theorem sequencerAbandon_stills (why : AbandonReason) (s : State) : StillsMove s (sequencerAbandon why s) := by
  unfold sequencerAbandon
  split
  · exact .refl s
  · exact (abandonExposure_stills why _ (lampOff s)).from_csq rfl

theorem dropFrame_stills (s : State) : StillsMove s (dropFrame s) := by
  obtain ⟨hcsq, -⟩ := dropFrame_spec s
  exact .of_stills (by rw [hcsq]; rfl)

theorem haltAbandon_stills (why : AbandonReason) (s : State) : StillsMove s (haltAbandon why s) := by
  unfold haltAbandon
  split
  · split
    · exact sequencerAbandon_stills why s
    · exact .refl s
  · exact .refl s

/-- A halt takes the active still with it (R117). -/
theorem haltFor_stills (why : AbandonReason) (s : State) : StillsMove s (haltFor why s) := by
  unfold haltFor
  split
  · exact .refl s
  · exact .of_stills rfl
  · let u := dropFrame (haltAbandon why s)
    have hu : StillsMove s u := (haltAbandon_stills why s).trans (dropFrame_stills _)
    obtain ⟨hcsq, -⟩ := haltStill_spec u
    refine hu.trans (.of_inactive ?_ ?_ ?_ (by simp [enter])) <;> simp [enter, u, hcsq]

theorem haltExit_stills (s : State) : StillsMove s (haltExit s) := by
  unfold haltExit
  split
  · rename_i h
    obtain ⟨hs, -⟩ := h
    refine .of_state rfl rfl rfl (by simp [hs]) ?_
    simp only [enter, State.setCsq_csq]
    split
    · simp
    · exact runOrIdle_ne_still s
  · exact .refl s

theorem examineCutoff_stills (s : State) : StillsMove s (examineCutoff s) := by
  unfold examineCutoff
  dsimp only
  split
  · exact .refl s
  · split
    · exact (haltFor_stills _ _).from_csq rfl
    · exact (haltExit_stills _).from_csq rfl

theorem afterTemperature_stills (s : State) : StillsMove s (afterTemperature s) :=
  (examineCutoff_stills s).to_csq (by simp [afterTemperature])

theorem endStartUp_stills {s : State} (h : s.csq.state = .starting) : StillsMove s (endStartUp s) := by
  have ht : (endStartUp s).csq.state ≠ .still := by
    obtain ⟨-, -, -, -, hhalt, hgo, -⟩ := endStartUp_ends s
    by_cases hc : HaltCauseHolds (endStartUp s)
    · simp [hhalt hc]
    · rw [hgo hc]; split <;> simp
  refine .of_state ?_ ?_ ?_ (by simp [h]) ht <;> (unfold endStartUp; dsimp only; split <;> rfl)

theorem switchExit_stills {s : State} (h : s.csq.state = .switchLoad) : StillsMove s (switchExit s) := by
  refine .of_state rfl rfl rfl (by simp [h]) ?_
  simp only [switchExit, State.setCsq_csq]
  split_ifs
  · simp
  · simp
  · exact runOrIdle_ne_still s

theorem loadCompleted_stills (s : State) : StillsMove s (loadCompleted s) := by
  unfold loadCompleted
  split
  · rename_i h; exact endStartUp_stills h
  · rename_i h; exact switchExit_stills h
  · exact .refl s

theorem beginLoad_stills (i : Fin 8) (s : State) : StillsMove s (beginLoad i s) := by
  unfold beginLoad
  split
  · exact .of_csq rfl
  · exact (loadCompleted_stills _).from_csq (by simp)

theorem startUpProgress_stills (s : State) : StillsMove s (startUpProgress s) := by
  unfold startUpProgress
  split
  · rename_i h
    obtain ⟨hs, -⟩ := h
    refine .trans (u := s.setCsq { s.csq with loadChosen := true }) (.of_stills rfl) ?_
    dsimp only
    split
    · exact beginLoad_stills _ _
    · exact endStartUp_stills hs
  · exact .refl s

theorem takeTarget_stills (t : Target) (s : State) : StillsMove s (takeTarget t s) := by
  unfold takeTarget; split <;> exact .of_stills rfl

theorem headChangeReported_stills (k : Fin 12) (s : State) : StillsMove s (headChangeReported k s) := by
  unfold headChangeReported
  split
  · exact .refl s
  · split
    · exact .refl s
    · exact takeTarget_stills _ s

theorem reportHeadChange_stills (last : Option (Fin 12)) (c : Classification) (s : State) :
    StillsMove s (reportHeadChange last c s) := by
  unfold reportHeadChange
  split
  · split
    · exact .refl s
    · exact (headChangeReported_stills _ _).from_csq (by simp)
  · exact .refl s

theorem adopt_stills (c : Classification) (s : State) : StillsMove s (adopt c s) := by
  let u := reportHeadChange s.hpb.lastHead c (s.setHpb (s.hpb.adopt c))
  have hu : StillsMove s u := (reportHeadChange_stills _ _ (s.setHpb (s.hpb.adopt c))).from_csq rfl
  have hv : StillsMove s (report .headPresent (headPresent u) u) := hu.to_csq (by simp)
  unfold adopt
  refine .trans (.trans (.trans ?_ (haltExit_stills _)) (pump_stills _)) (startUpProgress_stills _)
  split
  · exact hv.trans (haltFor_stills _ _)
  · exact hv

theorem useClassification_stills (c : Classification) (s : State) : StillsMove s (useClassification c s) := by
  unfold useClassification
  split
  · exact .of_csq rfl
  · split
    · exact adopt_stills c s
    · exact .of_csq rfl

/-- The lines of a readout leave the sequencer but for the flags of the exposure's record (R10). -/
theorem closeOpenLine_stills (s : State) : StillsMove s (closeOpenLine s) := by
  refine .of_stills ?_
  unfold closeOpenLine closeLine receiveLine markRecord
  dsimp only
  (repeat' split) <;> simp [Sequencer.stills, openTags]

theorem endReadout_stills (s : State) : StillsMove s (endReadout s) := by
  unfold endReadout judgeReadout
  dsimp only
  split
  · exact (abandonExposure_stills _ _ _).from_csq rfl
  · split
    · exact (abandonExposure_stills _ _ _).from_csq (by simp)
    · exact (completeExposure_stills _).from_csq (by simp)

/-- A trigger carried out leaves the stills: the active one waits for its exposure. -/
theorem carryTrigger_stills (plan : TriggerPlan) (s : State) : StillsMove s (carryTrigger plan s) := by
  refine .of_stills ?_
  cases plan with
  | first id => rfl
  | second => unfold carryTrigger; dsimp only; split <;> rfl
  | dark => rfl
  | still b => unfold carryTrigger; dsimp only; split <;> [cases b <;> rfl; rfl]

theorem startStill_stills (q : StillRequest) {rest : List StillRequest} (claim : Fin 4 × Bool) {s : State}
    (h : s.csq.queue = q :: rest) : StillsMove s (startStill q rest claim s) := by
  obtain ⟨hcsq, -⟩ := startStill_spec q rest claim s
  exact ⟨by simp [hcsq, h], openTags_startStill q claim h, fun _ => by simp [hcsq, Sequencer.stillCoherent]⟩

theorem startFinalise_stills {a : StillTrack} (id : LinId) {s : State} (h : s.csq.active = some a) :
    StillsMove s (startFinalise a id s) := by
  obtain ⟨-, -, -, -, hcsq⟩ := startFinalise_spec a id s
  refine ⟨by simp [hcsq], openTags_startFinalise id h, fun _ => ?_⟩
  cases hr : s.csq.streamRequested <;> simp [hcsq, Sequencer.stillCoherent, hr]

theorem offerStream_stills (w : Waiting) (s : State) : StillsMove s (offerStream w s) := by
  unfold offerStream
  dsimp only
  split <;> exact .trans (u := takeWaiting s) (.of_stills rfl) (.of_csq (by simp))

theorem offerStill_stills (w : Waiting) (tag : Nat) (a : StillTrack) (s : State) :
    StillsMove s (offerStill w tag a s) := .of_later (by rfl) (setPhase_tags tag .rendering s.csq.later)

/-- A still's tag is released when its picture has been sent (R111). -/
theorem finishStill_stills (tag : Nat) (s : State) : StillsMove s (finishStill tag s) :=
  .of_sublist (by simp [finishStill]) (by simp [finishStill]) (by simp [finishStill]) (by simp [finishStill])

theorem completeSend_stills (snd : Send) (s : State) : StillsMove s (completeSend snd s) := by
  unfold completeSend
  dsimp only
  split
  · exact ((finishStill_stills _ _).trans (pump_stills _)).from_csq rfl
  · exact .of_csq rfl

theorem endVerify_stills (i : Fin 8) (lost : LostCells) (s : State) : StillsMove s (endVerify i lost s) := by
  unfold endVerify
  dsimp only
  split
  · exact .of_csq rfl
  · exact (loadCompleted_stills _).from_csq (by simp)

theorem endSave_csq (i : Fin 8) (lost : LostCells) (s : State) : (endSave i lost s).csq = s.csq := by
  unfold endSave
  dsimp only
  split <;> simp

theorem eraseResult_csq (ok : Bool) (s : State) : (eraseResult ok s).csq = s.csq := by
  unfold eraseResult
  split <;> simp

theorem rxByte_csq (s : State) (b : Byte) : (rxByte s b).csq = s.csq := by
  unfold rxByte
  dsimp only
  (repeat' split) <;> simp

theorem rxBytes_csq (bytes : List Byte) (s : State) : (bytes.foldl rxByte s).csq = s.csq := by
  induction bytes generalizing s with
  | nil => rfl
  | cons b bs ih => simp [ih, rxByte_csq]

theorem softReset_stills (s : State) : StillsMove s (softReset s) := by
  refine .of_inactive (List.nil_sublist _) rfl (List.nil_sublist _) ?_
  simp only [softReset, Sequencer.softReset]
  split <;> simp

theorem endSending_stills (x : Sending) (s : State) : StillsMove s (endSending x s) := by
  unfold endSending
  split
  · exact .of_csq rfl
  · split
    · exact softReset_stills s
    · exact .of_csq rfl

end Sys2Proof.Machine
end

section
namespace Sys2Proof.Machine

/-! ### What the requests do to the stills -/

theorem serve_stills {owner : State → Answer} (ho : ∀ u, StillsMove u (owner u).2) (q : Request) (s : State) :
    StillsMove s (serve q owner s) :=
  serve_keeps (P := StillsMove s) (fun _ _ h => h.trans (.of_csq rfl)) (fun _ _ h => h.trans (.of_csq rfl))
    (fun u h => h.trans (ho u)) q s (.refl s)

theorem writeWhenOpen_csq (r : Response) (c : Content) (s : State) : (writeWhenOpen r c s).2.csq = s.csq := by
  unfold writeWhenOpen
  split <;> rfl

theorem storeHeader_csq (v : Int) (c : Option Content) (s : State) : (storeHeader v c s).2.csq = s.csq := by
  cases c with
  | none => rfl
  | some c => exact writeWhenOpen_csq _ c s

theorem storeMask_csq {put : Word16 → State → State} {s : State} (st : UpdateStyle) (old : Word16) (v : Int)
    (h : ∀ m, (put m s).csq = s.csq) : (storeMask st old v put s).2.csq = s.csq := by
  unfold storeMask
  split
  · exact h _
  · rfl

/-- The write of a parameter leaves the stills, but that a thermal limit may halt the part (R84, R117). -/
theorem writeParam_stills (p : Param) (b : Bank) (st : UpdateStyle) (value : List Byte) (s : State) :
    StillsMove s (writeParam p b st value s).2 := by
  cases p with
  | align | depth => exact storeQuiescent_keeps (.refl s) _ _ fun _ => .of_csq rfl
  | readoutTimeout | patchLimit | darkEvery | clipLevel | fill | sendPeriod | probePeriod | deadband | target | expo
  | level | min | max | ceiling => exact .of_csq rfl
  | interval => exact .of_stills rfl
  | blackMode | policy | sendMode | streamFormat | noticeEn | mode | steer =>
    exact storeChoice_keeps (.refl s) _ _ fun _ => .of_csq rfl
  | paced | autoswitch => exact storeChoice_keeps (.refl s) _ _ fun _ => .of_stills rfl
  | blackLevel =>
    simp only [writeParam, writeBlackLevel]
    split <;> exact .of_csq rfl
  | riseEn | fallEn => exact .of_csq (storeMask_csq _ _ _ fun _ => rfl)
  | profileId | headBind | bankSet | outWidth | outHeight | hasTone => exact .of_csq (storeHeader_csq _ _ s)
  | label => exact .of_csq (writeWhenOpen_csq _ _ s)
  | derateStart =>
    simp only [writeParam, writeDerateStart]
    split
    · exact .refl s
    · exact (afterTemperature_stills _).from_csq rfl
  | cutoff =>
    simp only [writeParam, writeCutoff]
    split
    · exact .refl s
    · exact (afterTemperature_stills _).from_csq rfl

theorem checkPset_stills (p : Param) (bank style : Byte) (value : List Byte) (s : State) :
    StillsMove s (checkPset p bank style value s).2 := by
  unfold checkPset
  split
  · split
    · exact .refl s
    · split
      · exact .refl s
      · split
        · exact writeParam_stills _ _ _ _ s
        · exact .refl s
  · exact .refl s

theorem psetOwner_stills (body : List Byte) (s : State) : StillsMove s (psetOwner body s).2 := by
  unfold psetOwner
  split
  · split
    · exact checkPset_stills _ _ _ _ s
    · exact .refl s
  · exact .refl s

/-- SGO moves IDLE to RUN at most (R104). -/
theorem sgoOwner_stills (body : List Byte) (s : State) : StillsMove s (sgoOwner body s).2 := by
  unfold sgoOwner
  split
  · exact .refl s
  · split
    · exact .refl s
    · simp only [accept, requestStream]
      split
      · exact .of_stills rfl
      · by_cases hs : s.csq.state = .idle
        · exact .of_state rfl rfl rfl (by simp [hs]) (by simp [hs])
        · exact .of_stills (by simp [Sequencer.stills, openTags, hs])

/-- SHLT moves RUN to IDLE at most (R105). -/
theorem stopStream_stills (s : State) : StillsMove s (stopStream s) := by
  have hw : StillsMove s (withdrawStream s) := by
    by_cases hs : s.csq.state = .run
    · exact .of_state rfl rfl rfl (by simp [hs]) (by simp [withdrawStream, hs])
    · exact .of_stills (by simp [withdrawStream, Sequencer.stills, openTags, hs])
  refine hw.trans ?_
  unfold stopStream dropStopped
  split
  · split
    · exact dropFrame_stills _
    · exact .refl _
  · exact .refl _

/-- SCAN takes the stills of a tag away (R112). -/
theorem scanOwner_stills (body : List Byte) (s : State) : StillsMove s (scanOwner body s).2 := by
  unfold scanOwner
  dsimp only
  split
  · rename_i a _
    obtain ⟨hactive, hqueue, hlater, hstate, -⟩ := cancelActive_spec a s
    exact .of_inactive (by simp [accept, hqueue]) hactive (by simp [accept, hlater])
      (by simp only [accept, hstate]; split <;> simp)
  · split
    · exact .of_sublist List.filter_sublist rfl (List.Sublist.refl _) rfl
    · split <;> exact .refl s

theorem zsetOwner_csq (body : List Byte) (s : State) : (zsetOwner body s).2.csq = s.csq := by
  unfold zsetOwner
  split
  · simp
  · rfl

theorem twrtOwner_csq (body : List Byte) (s : State) : (twrtOwner body s).2.csq = s.csq := by
  unfold twrtOwner
  dsimp only
  split
  · rfl
  · split
    · rfl
    · exact writeWhenOpen_csq _ _ s

theorem pactOwner_stills (body : List Byte) (s : State) : StillsMove s (pactOwner body s).2 := by
  unfold pactOwner
  split
  · exact takeTarget_stills _ s
  · exact .refl s

/-- STIL keeps the stills in order: a fifth pending still and a tag in use are refused (R107). -/
theorem StillsInv.stilOwner {s : State} (h : StillsInv s) (body : List Byte) : StillsInv (stilOwner body s).2 := by
  obtain ⟨hlen, htags, hstate⟩ := h
  unfold Machine.stilOwner
  split
  · exact ⟨hlen, htags, hstate⟩
  · split
    · exact ⟨hlen, htags, hstate⟩
    · split
      · exact ⟨hlen, htags, hstate⟩
      · rename_i q _ _ hfresh
        split
        · exact ⟨hlen, htags, hstate⟩
        · rename_i hroom
          refine ⟨?_, ?_, hstate⟩
          · simp only [accept, State.setCsq_csq, List.length_append, List.length_singleton]
            omega
          · have hp : (openTags { s.csq with queue := s.csq.queue ++ [q] }).Perm (q.tag :: openTags s.csq) := by
              simp only [openTags, List.map_append, List.map_cons, List.map_nil, List.append_assoc, List.singleton_append]
              exact List.perm_middle
            exact hp.nodup_iff.2 (List.nodup_cons.2 ⟨hfresh, htags⟩)

end Sys2Proof.Machine
end

section
namespace Sys2Proof.Machine

/-! ### Every command -/

/-- Every command but STIL, which alone brings a still in, moves the stills only as the shared operations do. -/
theorem exec_stills {i : Instr} {s t : State} (hi : ∀ body, i ≠ .stil body) (h : exec i s = .next t) : StillsMove s t := by
  cases i with
  | stil body => exact absurd rfl (hi body)
  | fullReset => cases h; exact .of_inactive (List.nil_sublist _) rfl (List.nil_sublist _) (by simp [fullReset, State.reset])
  | startupScanDone =>
    simp only [exec, execStartupScanDone] at h
    split at h <;> cases h
    · exact .trans (u := (s.setPfs { s.pfs with directory := scanDirectory s.pfs.slots }).setCsq
        { s.csq with scanDone := true }) (.of_stills rfl) ((startUpProgress_stills _).trans (pump_stills _))
    · exact .refl s
  | trigger =>
    simp only [exec, execTrigger] at h
    split at h <;> cases h
    · exact carryTrigger_stills _ s
    · exact .refl s
  -- the pixel port and the timers
  | exposureEnd | frameOpen | pixelWord _ | intervalExpiry | probePeriodExpiry =>
    simp only [exec, execExposureEnd, execFrameOpen, execPixelWord, execIntervalExpiry, execProbePeriodExpiry] at h
    (repeat' split at h) <;> cases h <;> exact .of_stills rfl
  | lineOpen =>
    simp only [exec, execLineOpen] at h
    split at h
    · split at h <;> cases h <;> exact (closeOpenLine_stills s).trans (.of_stills rfl)
    · cases h; exact .refl s
  | lineClose => cases h; exact closeOpenLine_stills s
  | frameClose =>
    simp only [exec, execFrameClose] at h
    split at h <;> cases h
    · exact ((closeOpenLine_stills s).trans (endReadout_stills _)).trans (pump_stills _)
    · exact .of_csq rfl
    · exact .refl s
  | readoutTimeout =>
    simp only [exec, execReadoutTimeout] at h
    split at h <;> cases h
    · exact .refl s
    · exact (abandonExposure_stills _ _ s).trans (pump_stills _)
  -- stills, the remap engine and the video port
  | foldComplete _ | sendStart | sendPeriodExpiry =>
    simp only [exec, execFoldComplete, execSendStart, execSendPeriodExpiry] at h
    split at h <;> cases h <;> exact .of_csq rfl
  | stillStart =>
    simp only [exec, execStillStart] at h
    split at h
    · split at h
      · rename_i q rest claim hq _
        split at h <;> cases h
        · refine .trans (.of_sublist ?_ ?_ ?_ ?_) (pump_stills _) <;> simp [hq]
        · exact (startStill_stills q claim hq).trans (pump_stills _)
      · cases h; exact .refl s
    · cases h; exact .refl s
  | finaliseStart =>
    simp only [exec, execFinaliseStart] at h
    split at h
    · rename_i a id ha _
      split at h <;> cases h
      · exact startFinalise_stills id ha
      · exact .refl s
    · cases h; exact .refl s
  | finaliseComplete =>
    simp only [exec, execFinaliseComplete] at h
    split at h <;> cases h
    · exact .refl s
    · exact .of_later (by rfl) (movePhase_tags .finalising .awaitRender s.csq.later)
  | renderStart =>
    simp only [exec, execRenderStart] at h
    split at h
    · split at h
      · cases h; exact (offerStream_stills _ s).trans (pump_stills _)
      · split at h <;> cases h
        · exact offerStill_stills _ _ _ s
        · exact .refl s
    · cases h; exact .refl s
  | renderComplete =>
    simp only [exec, execRenderComplete] at h
    split at h <;> cases h
    · exact .refl s
    · exact .of_later (by rfl) (queuedStills_tags _ s.csq.later)
  | sendComplete =>
    simp only [exec, execSendComplete] at h
    split at h <;> cases h
    · exact .refl s
    · exact completeSend_stills _ s
  | modemReady =>
    simp only [exec, execModemReady] at h
    split at h
    · cases h; exact .refl s
    · split at h <;> cases h
      · exact .of_csq rfl
      · exact completeSend_stills _ s
  -- the switch and the store's phases
  | switchDrain =>
    simp only [exec, execSwitchDrain] at h
    split at h <;> cases h
    · rename_i hc
      have hs : s.csq.state ≠ .still := fun hs => by simp [choiceOpen, hs] at hc
      exact .of_state rfl rfl rfl hs (by simp [enter])
    · exact .refl s
  | switchLoad =>
    simp only [exec, execSwitchLoad] at h
    split at h
    · rename_i hdrained
      obtain ⟨hs, -⟩ := hdrained
      have hl : StillsMove s (s.setCsq { s.csq with state := .switchLoad, switchTarget := none }) :=
        .of_state rfl rfl rfl (by simp [hs]) (by simp)
      split at h <;> cases h
      · exact (hl.trans (beginLoad_stills _ _)).trans (pump_stills _)
      · exact hl.trans (switchExit_stills rfl)
    · cases h; exact .refl s
  | verifyPassDone lost =>
    simp only [exec, execVerifyPassDone] at h
    split at h <;> cases h
    · exact (endVerify_stills _ lost s).trans (pump_stills _)
    · exact .refl s
  | copyPassDone =>
    simp only [exec, execCopyPassDone] at h
    split at h <;> cases h
    · exact ((loadCompleted_stills _).trans (pump_stills _)).from_csq (by simp)
    · exact .refl s
  | saveEraseDone | saveProgramDone _ | eraseDone _ | eraseAllSlotDone _ | bootWriteEraseDone | bootWriteProgramDone _ =>
    simp only [exec, execSaveEraseDone, execSaveProgramDone, execEraseDone, execEraseAllSlotDone, execBootWriteEraseDone,
      execBootWriteProgramDone] at h
    refine .of_csq ?_
    (repeat' split at h) <;> cases h <;> simp [endSave_csq, eraseResult_csq]
  -- the probe's conversions
  | idConversionDone code =>
    simp only [exec, execIdConversionDone] at h
    split at h <;> cases h
    · exact ((useClassification_stills _ _).trans (pump_stills _)).from_csq rfl
    · exact .refl s
  | tempConversionDone code =>
    simp only [exec, execTempConversionDone] at h
    split at h <;> cases h
    · exact ((afterTemperature_stills _).trans (pump_stills _)).from_csq rfl
    · exact .refl s
  -- the link
  | frameReceived _ | byteGapTimeout | lenOutOfRange _ =>
    simp only [exec, execFrameReceived, execByteGapTimeout, execLenOutOfRange] at h
    refine .of_csq ?_
    (repeat' split at h) <;> cases h <;> simp [rxBytes_csq, rxByte_csq]
  | frameSent =>
    simp only [exec, execFrameSent] at h
    split at h <;> cases h
    · exact .refl s
    · exact (endSending_stills _ s).trans (pump_stills _)
  | badKind kind body =>
    simp only [exec, execBadKind] at h
    split at h <;> cases h
    · exact .refl s
    · exact serve_stills (fun u => .refl u) _ s
  -- the requests that only look, or change neither the stills nor the sequencer's state
  | idnt _ | rset _ | ltch _ => cases h; exact serve_stills (fun _ => .of_csq rfl) _ s
  | stat _ | zget _ | plst _ | pget _ | trd _ | brd _ | psav _ | pers _ | sers _ | pprt _ | bwrt _ | hprb _ =>
    cases h
    refine serve_stills (fun u => .of_csq ?_) _ s
    simp only [answerData, pgetOwner, trdOwner, brdOwner, accept, psavOwner, persOwner, sersOwner, pprtOwner, bwrtOwner,
      hprbOwner]
    (repeat' split) <;> rfl
  | zset body => cases h; exact serve_stills (fun u => .of_csq (zsetOwner_csq body u)) _ s
  | twrt body => cases h; exact serve_stills (fun u => .of_csq (twrtOwner_csq body u)) _ s
  | pset body => cases h; exact serve_stills (psetOwner_stills body) _ s
  | psetLevel _ _ _ | psetMin _ _ _ | psetMax _ _ _ | psetExpo _ _ _ | psetMode _ _ _ | psetSteer _ _ _
  | psetCeiling _ _ _ | psetDerateStart _ _ _ | psetCutoff _ _ _ | psetSendMode _ _ _ | psetRiseEn _ _ _
  | psetFallEn _ _ _ | psetNoticeEn _ _ _ | psetOutWidth _ _ _ | psetOutHeight _ _ _ | psetBankSet _ _ _
  | psetHasTone _ _ _ | psetProfileId _ _ _ | psetHeadBind _ _ _ | psetLabel _ _ _ =>
    cases h; exact serve_stills (checkPset_stills _ _ _ _) _ s
  -- the requests of the sequencer
  | sgo body => cases h; exact serve_stills (sgoOwner_stills body) _ s
  | shlt _ => cases h; exact serve_stills stopStream_stills _ s
  | scan body => cases h; exact serve_stills (scanOwner_stills body) _ s
  | pact body => cases h; exact serve_stills (pactOwner_stills body) _ s

theorem idleMoment_csq (s : State) : (idleMoment s).csq = s.csq := by
  unfold idleMoment
  (repeat' split) <;> rfl

/-- Every command keeps the stills in order. -/
theorem StillsInv.exec {i : Instr} {s t : State} (h : StillsInv s) (he : exec i s = .next t) : StillsInv t := by
  by_cases hi : ∃ body, i = .stil body
  · obtain ⟨body, rfl⟩ := hi
    cases he
    exact serve_keeps (P := StillsInv) (fun _ _ h => h) (fun _ _ h => h) (fun _ hu => hu.stilOwner body) _ s h
  · exact h.of_move (exec_stills (fun body e => hi ⟨body, e⟩) he)

/-- Settles O58: every command, and every idle moment, keeps the stills in order; the commands waiting have no part in it. -/
theorem stillsInvariantKept : Obligations.StillsInvariantKept := by
  intro s t h hstep
  unfold step at hstep
  split at hstep
  · cases hstep
    exact h.of_move (.of_csq (idleMoment_csq s))
  · rename_i rest _
    exact StillsInv.exec (s := s.setPending rest) h hstep

end Sys2Proof.Machine
end

section
namespace Sys2Proof.Machine

/-! ## The three periodic timers (R99, R128, R160) -/

theorem exec_sendPeriodExpiry {s : State} (h : s.ofq.periodTimer.isSome = true) : exec .sendPeriodExpiry s =
    .next (s.setOfq { s.ofq.periodSend with periodTimer := some s.ofq.sendPeriod }) := by
  obtain ⟨n, hn⟩ := Option.isSome_iff_exists.1 h
  simp only [exec, execSendPeriodExpiry, hn]

/-- A running period timer's expiry sends the head of the ready order, else the HELD slot again, else nothing, and nothing while a
send is in progress (R128). -/
theorem periodSend_cases (o : Output) :
    (o.send.isSome = true → o.periodSend = o) ∧
    (∀ i rest, o.send = none → o.readyOrder = i :: rest → o.periodSend = { o with
      slots := o.slots.set i { o.slots[i] with state := .sending }, readyOrder := rest.filter (· ≠ i),
      send := some { slot := i, isRepeat := false, taken := 0 } }) ∧
    (∀ h, o.send = none → o.readyOrder = [] → o.heldSlot = some h → o.periodSend = { o with
      slots := o.slots.set h { o.slots[h] with state := .sending },
      send := some { slot := h, isRepeat := true, taken := 0 } }) ∧
    (o.send = none → o.readyOrder = [] → o.heldSlot = none → o.periodSend = o) := by
  refine ⟨fun hs => ?_, fun i rest hs hr => ?_, fun h hs hr hh => ?_, fun hs hr hh => ?_⟩
  · obtain ⟨x, hx⟩ := Option.isSome_iff_exists.1 hs
    simp only [Output.periodSend, hx]
  · simp [Output.periodSend, hs, hr, Output.begin, Output.setSlotState]
  · simp [Output.periodSend, hs, hr, hh, Output.begin, Output.setSlotState]
  · simp only [Output.periodSend, hs, hr, hh]

/-- An expiry of the probe timer starts a conversion of the next kind with the converter IDLE, and only restarts the timer else
(R160). -/
theorem probeExpiry_cases (p : Probe) :
    (p.conv = .idle → p.nextKind = .id →
      p.expiry = { p with periodTimer := p.probePeriod, conv := .convertingId, nextKind := .temp }) ∧
    (p.conv = .idle → p.nextKind = .temp →
      p.expiry = { p with periodTimer := p.probePeriod, conv := .convertingTemp, nextKind := .id }) ∧
    (p.conv ≠ .idle → p.expiry = { p with periodTimer := p.probePeriod }) := by
  refine ⟨fun hc hk => ?_, fun hc hk => ?_, fun hc => ?_⟩
  · simp only [Probe.expiry, hc, hk]
  · simp only [Probe.expiry, hc, hk]
  · cases h : p.conv with
    | idle => exact absurd h hc
    | convertingId | convertingTemp => simp only [Probe.expiry, h]

/-- Settles O18: each timer's expiry by what its block does then. -/
theorem timerExpiries : Obligations.TimerExpiries := by
  intro s
  obtain ⟨hsending, hready, hheld, hnothing⟩ := periodSend_cases s.ofq
  obtain ⟨hid, htemp, hbusy⟩ := probeExpiry_cases s.hpb
  refine ⟨rfl, fun hn => by simp only [exec, execSendPeriodExpiry, hn],
    fun hp => ⟨fun hs => ?_, fun i rest hs hr => ?_, fun h hs hr hh => ?_, fun hs hr hh => ?_⟩,
    fun hc hk => ?_, fun hc hk => ?_, fun hc => ?_⟩
  · rw [exec_sendPeriodExpiry hp, hsending hs]
  · rw [exec_sendPeriodExpiry hp, hready i rest hs hr]
  · rw [exec_sendPeriodExpiry hp, hheld h hs hr hh]
  · rw [exec_sendPeriodExpiry hp, hnothing hs hr hh]
  · simp only [exec, execProbePeriodExpiry, hid hc hk]
  · simp only [exec, execProbePeriodExpiry, htemp hc hk]
  · simp only [exec, execProbePeriodExpiry, hbusy hc]

end Sys2Proof.Machine
end

section
namespace Sys2Proof.Machine

/-! ## The switch of profiles (R100, R114, R115, R147) -/

/-- The drain is done: nothing is exposed, stacked, finalised, buffered or rendered, and the store is idle (R114). -/
theorem drained_of {s : State} (hx : s.csq.exposure = none) (ha : s.csq.active = none) (hf : s.phc.finalise = none)
    (h0 : s.phc.lin0.content = .empty) (h1 : s.phc.lin1.content = .empty) (hj : s.rme.job = none) (ho : s.pfs.op = none) :
    drained s = true := by
  simp [drained, hx, ha, hf, h0, h1, hj, ho]

/-- SWITCH-LOAD as it is entered: its target taken (R114; log entry 15). -/
def switchLoadEntered (s : State) : State := s.setCsq { s.csq with state := .switchLoad, switchTarget := none }

/-- SWITCH_LOAD with the drain done: the load of the slot its target resolves to begins, and without one SWITCH-LOAD is left
(R114, R115). -/
theorem exec_switchLoad {s : State} (hs : s.csq.state = .switchDrain) (hd : drained s = true) :
    (∀ i, (s.csq.switchTarget.bind fun t => resolveTarget t s) = some i →
      exec .switchLoad s = .next (pump (beginLoad i (switchLoadEntered s)))) ∧
    ((s.csq.switchTarget.bind fun t => resolveTarget t s) = none →
      exec .switchLoad s = .next (switchExit (switchLoadEntered s))) := by
  refine ⟨fun i hi => ?_, fun hn => ?_⟩
  · simp only [exec, execSwitchLoad, if_pos (And.intro hs hd), hi]
    rfl
  · simp only [exec, execSwitchLoad, if_pos (And.intro hs hd), hn]
    rfl

/-- SWITCH-LOAD left from a part that agrees, on what R115 speaks of, with the one SWITCH-LOAD was entered from. -/
theorem switchLoadEntered_left {s u : State} (hcsq : u.csq = (switchLoadEntered s).csq) (hhpb : u.hpb = s.hpb)
    (hlpc : u.lpc = s.lpc) : SwitchLeft none s (switchExit u) := by
  have h := switchExit_left u
  simp only [SwitchLeft, hcsq, hhpb, hlpc] at h
  exact h

/-- A leaving of SWITCH-LOAD is not changed by what the link does next. -/
theorem SwitchLeft.pump {held : Option Target} {s t : State} (h : SwitchLeft held s t) : SwitchLeft held s (pump t) := by
  have hc : HaltCauseHolds (Machine.pump t) ↔ HaltCauseHolds t := HaltCauseHolds.congr (by simp) (by simp)
  simpa only [SwitchLeft, hc, pump_frame] using h

/-- A load of a slot that is not VALID fails at once with CORRUPT, and SWITCH-LOAD is left (R115, R147). -/
theorem beginLoad_fails {i : Fin 8} {u : State} (hv : u.pfs.directory[i].state ≠ .valid) (hs : u.csq.state = .switchLoad) :
    beginLoad i u = switchExit (storeFailed .corrupt u) := by
  have hs' : (storeFailed .corrupt u).csq.state = .switchLoad := by simpa using hs
  simp only [beginLoad, if_neg hv, loadCompleted, hs']

theorem storeFailed_latched {u : State} (r : LastResult) (h : u.cdu.riseEn.getLsbD 13 = true) :
    (storeFailed r u).cdu.latches.getLsbD 13 = true :=
  raise_latched (src := .storeFailed) (s := u.setPfs { u.pfs with op := none, lastResult := r }) h

/-- Settles O26: the choice enters SWITCH-DRAIN; the drain done, a VALID slot's load begins, and without a load, or with one that
fails at once, SWITCH-LOAD is left. -/
theorem switchDrainsThenLoads : Obligations.SwitchDrainsThenLoads := by
  intro s
  refine ⟨fun tgt ht ho => ?_, fun hs hx ha hf h0 h1 hj ho => ⟨fun i hi hv => ?_, fun k hk hb => ?_, fun i hi hv => ?_⟩⟩
  · exact if_pos ⟨ho, by simp [ht]⟩
  all_goals obtain ⟨hload, hnone⟩ := exec_switchLoad hs (drained_of hx ha hf h0 h1 hj ho)
  · have hr : (s.csq.switchTarget.bind fun t => resolveTarget t s) = some i := by
      rcases hi with hi | ⟨k, hk, hb⟩
      · simp [hi, resolveTarget]
      · simp [hk, resolveTarget, hb]
    refine ⟨_, hload i hr, ?_⟩
    rw [beginLoad_valid (s := switchLoadEntered s) hv]
    simp [switchLoadEntered]
  · have hr : (s.csq.switchTarget.bind fun t => resolveTarget t s) = none := by simp [hk, resolveTarget, hb]
    exact ⟨_, hnone hr, rfl, rfl, switchLoadEntered_left rfl rfl rfl⟩
  · have hr : (s.csq.switchTarget.bind fun t => resolveTarget t s) = some i := by simp [hi, resolveTarget]
    refine ⟨_, hload i hr, ?_⟩
    rw [beginLoad_fails (u := switchLoadEntered s) hv rfl]
    refine ⟨by simp [storeFailed, switchLoadEntered], ?_, fun hl => ?_⟩
    · exact (switchLoadEntered_left (s := s) (by simp) (by simp [switchLoadEntered]) (by simp [switchLoadEntered])).pump
    · simpa using storeFailed_latched (u := switchLoadEntered s) .corrupt hl

end Sys2Proof.Machine
end

section
namespace Sys2Proof.Machine

/-! ## SGO and SHLT (R104, R105) -/

theorem recipeOf_code (r : Recipe) : recipeOf r.code = some r := recipeOf_eq_some.2 rfl

theorem recipeOf_eq_none {n : Nat} (h : n = 0 ∨ 3 < n) : recipeOf n = none := by
  cases hr : recipeOf n with
  | none => rfl
  | some r =>
    have hcode := recipeOf_eq_some.1 hr
    cases r <;> simp only [Recipe.code] at hcode <;> omega

/-- SGO's owner by the recipe of its body: BAD_PARAM, NO_BANK or OK (R104). -/
theorem sgoOwner_cases (body : List Byte) (u : State) :
    (recipeOf (bodyAt body 0) = none → sgoOwner body u = refuse .badParam u) ∧
    ∀ r, recipeOf (bodyAt body 0) = some r →
      (r = .flood ∨ u.pfs.ws.content.beam.isSome = true → sgoOwner body u = accept [] (requestStream r u)) ∧
      (r ≠ .flood → u.pfs.ws.content.beam = none → sgoOwner body u = refuse .noBank u) := by
  refine ⟨fun hn => by simp only [sgoOwner, hn], fun r hr => ⟨fun hb => ?_, fun hf hb => ?_⟩⟩ <;>
    simp only [sgoOwner, hr]
  · refine if_neg fun ⟨hneeds, hnone⟩ => ?_
    rcases hb with rfl | hb
    · simp [needsBeam] at hneeds
    · simp_all
  · exact if_pos ⟨by simpa [needsBeam] using hf, by simp [hb]⟩

/-- A stream already requested only takes the recipe; any other becomes requested, its interval timer expired (R104). -/
theorem requestStream_cases (r : Recipe) (u : State) :
    (u.csq.streamRequested = true → requestStream r u = u.setCsq { u.csq with requestedRecipe := some r }) ∧
    (u.csq.streamRequested = false → requestStream r u = u.setCsq { u.csq with
      streamRequested := true, requestedRecipe := some r, intervalTimer := none,
      state := if u.csq.state = .idle then .run else u.csq.state }) :=
  ⟨fun h => if_pos h, fun h => if_neg (by simp [h])⟩

theorem sgo_answers {c : Byte} {s s' : State} {st : Status} (hs : Served (.sgo [c]) s)
    (ho : ∀ l, (sgoOwner [c] (s.setCml l)).1 = ⟨st, []⟩ ∧
      outsideLink (sgoOwner [c] (s.setCml l)).2 = outsideLink s') : Answers (.sgo [c]) 0x10 st [] s s' := by
  obtain ⟨ht, hup⟩ := hs
  exact answers_taken (q := ⟨0x10, [c]⟩) ht rfl rfl rfl rfl (.inl hup) fun _ => ho _

/-- SHLT discards a FUSE frame with its F exposure in flight, or with none in flight (R105). -/
theorem haltDrops_iff (f : StreamFrame) (e : Option ExposureRecord) : haltDrops f e = true ↔
    f.recipe = .fuse ∧ ∀ r, e = some r → r.kind = .lit .flood := by
  cases e <;> simp [haltDrops]

/-- SHLT discards the frame being exposed, or leaves it (R105). -/
theorem stopStream_cases (s : State) :
    (∀ f, s.csq.frame = some f → haltDrops f s.csq.exposure = true → stopStream s = dropFrame (withdrawStream s)) ∧
    ((∀ f, s.csq.frame = some f → haltDrops f s.csq.exposure = false) → stopStream s = withdrawStream s) := by
  have hstop : stopStream s = match s.csq.frame with
      | some f => if haltDrops f s.csq.exposure then dropFrame (withdrawStream s) else withdrawStream s
      | none => withdrawStream s := rfl
  refine ⟨fun f hf hd => ?_, fun hn => ?_⟩
  · simp only [hstop, hf, if_pos hd]
  · cases hf : s.csq.frame with
    | none => simp only [hstop, hf]
    | some f => simp [hstop, hf, hn f hf]

/-- Whatever becomes of the frame, SHLT withdraws the request alone and leaves the part outside the sequencer and the corrector
(R105). -/
theorem stopStream_kept (s : State) :
    (∃ frame, (stopStream s).csq = { (withdrawStream s).csq with frame }) ∧ (stopStream s).pxr = s.pxr ∧
      (stopStream s).lpc = s.lpc ∧ (stopStream s).ofq = s.ofq := by
  unfold stopStream dropStopped
  split
  · split
    · obtain ⟨hcsq, -⟩ := dropFrame_spec (withdrawStream s)
      exact ⟨⟨none, hcsq⟩, by simp [withdrawStream], by simp [withdrawStream], by simp [withdrawStream]⟩
    · exact ⟨⟨_, rfl⟩, rfl, rfl, rfl⟩
  · exact ⟨⟨_, rfl⟩, rfl, rfl, rfl⟩

/-- The WRITING buffer of a discarded frame is marked for release (R32). -/
theorem dropFrame_marks {s : State} {f : StreamFrame} (hf : s.csq.frame = some f)
    (hw : (s.phc.lin f.buffer).content = .writing) : ((dropFrame s).phc.lin f.buffer).releaseMarked = true := by
  simp only [dropFrame, hf, releaseBuffer, State.setCsq_phc, State.setPhc_phc, Photometric.lin_setLin,
    LinearBuffer.release, hw]

/-- Settles O43: SGO by its owner's answers, and SHLT by what it makes of the frame being exposed. -/
theorem streamStartsAndStops : Obligations.StreamStartsAndStops := by
  refine fun s => ⟨fun r hs => ?_, fun c hc hs => ?_, fun hs => ?_⟩
  · have hcode : recipeOf (bodyAt [byte r.code] 0) = some r := by
      rw [bodyAt_byte (by cases r <;> decide), recipeOf_code]
    have owner := fun l => (sgoOwner_cases [byte r.code] (s.setCml l)).2 r hcode
    refine ⟨fun hb => ⟨fun hreq => sgo_answers hs fun l => ?_, fun hreq => sgo_answers hs fun l => ?_⟩,
      fun hf hb => sgo_answers hs fun l => ?_⟩
    · obtain ⟨hok, -⟩ := owner l
      obtain ⟨hagain, -⟩ := requestStream_cases r (s.setCml l)
      rw [hok hb, hagain hreq]
      exact ⟨rfl, rfl⟩
    · obtain ⟨hok, -⟩ := owner l
      obtain ⟨-, hnew⟩ := requestStream_cases r (s.setCml l)
      rw [hok hb, hnew hreq]
      exact ⟨rfl, rfl⟩
    · obtain ⟨-, hno⟩ := owner l
      rw [hno hf hb]
      exact ⟨rfl, rfl⟩
  · refine sgo_answers hs fun l => ?_
    rw [(sgoOwner_cases [c] (s.setCml l)).1 (recipeOf_eq_none hc)]
    exact ⟨rfl, rfl⟩
  · obtain ⟨⟨q, hq, ht⟩, hup⟩ := hs
    cases hq
    obtain ⟨hold, he⟩ := serve_eq (owner := fun u => accept [] (stopStream u)) ht rfl rfl (.inl hup)
    let u := s.setCml { s.cml with holding := hold }
    refine ⟨_, congrArg Host.Outcome.next he, newestReply_composed _ _ _, ?_⟩
    obtain ⟨hdropped, hstands⟩ := stopStream_cases u
    obtain ⟨⟨frame, hcsq⟩, hpxr, hlpc, hofq⟩ := stopStream_kept u
    obtain ⟨dcsq, -, -, -, dempty⟩ := dropFrame_spec (withdrawStream u)
    simp only [accept, pump_frame, composeReply_frame]
    refine ⟨by rw [hcsq]; rfl, by rw [hcsq]; rfl, by rw [hcsq]; rfl, by rw [hcsq]; rfl, by rw [hcsq]; rfl, by rw [hcsq]; rfl,
      by rw [hcsq]; rfl, hpxr, hlpc, hofq, fun hn => ?_, fun f hf => ⟨fun hkeep => ?_, fun hfuse hx hw => ?_,
      fun hfuse hx hh => ?_⟩⟩
    · have e := hstands fun f hf => by simp [u, hn] at hf
      exact ⟨by rw [e]; exact hn, by rw [e]; rfl⟩
    · have e := hstands fun g hg => by
        obtain rfl : f = g := by simpa [u, hf] using hg
        rw [← Bool.not_eq_true, haltDrops_iff]
        rintro ⟨hfuse, hx⟩
        rcases hkeep with hne | ⟨r, hr, hb⟩
        · exact hne hfuse
        · simp [hx r hr] at hb
      exact ⟨by rw [e]; exact hf, by rw [e]; rfl⟩
    · have e := hdropped f hf ((haltDrops_iff _ _).2 ⟨hfuse, fun r hr => by
        obtain ⟨r', hr', hk⟩ := hx
        obtain rfl : r' = r := by simpa [u, hr'] using hr
        exact hk⟩)
      exact ⟨by rw [e, dcsq], by rw [e]; exact dropFrame_marks (s := withdrawStream u) hf hw⟩
    · have e := hdropped f hf ((haltDrops_iff _ _).2 ⟨hfuse, fun r hr => by simp [u, hx] at hr⟩)
      exact ⟨by rw [e, dcsq], by rw [e]; exact dempty _ (.inl hh) ⟨f, hf, rfl⟩⟩

end Sys2Proof.Machine
end

section
namespace Sys2Proof.Machine

/-! ## The store's requests (R146, R148 to R154, R157) -/

section
variable {i : Instr} {q : Request} {owner : State → Answer} {s : State} {st : Status} {data : List Byte}

/-- A request served is answered as its owner answers it, whatever the link holds (R176). -/
theorem answers_served {s' : State} (hs : Served i s) (hq : requestOf i = some q) (he : exec i s = .next (serve q owner s))
    (hk : knownKind q.kind = true) (hl : lengthOk q = true) (ho : ∀ l, (owner (s.setCml l)).1 = ⟨st, data⟩ ∧
      outsideLink (owner (s.setCml l)).2 = outsideLink s') : Answers i q.kind st data s s' := by
  obtain ⟨ht, hup⟩ := hs
  exact answers_taken ht hq he hk hl (.inl hup) fun _ => ho _

theorem answers_refused (hs : Served i s) (hq : requestOf i = some q) (he : exec i s = .next (serve q owner s))
    (hk : knownKind q.kind = true) (hl : lengthOk q = true) (ho : ∀ l, owner (s.setCml l) = refuse st (s.setCml l)) :
    Answers i q.kind st [] s s :=
  answers_served hs hq he hk hl fun l => by rw [ho]; exact ⟨rfl, rfl⟩

/-- A request that its owner answers by beginning a long operation is ACCEPTED, and the store is as the owner leaves it (R154). -/
theorem completes_begun {op : StoreOp} {p : Store} {P : State → Prop} (hs : Served i s) (hq : requestOf i = some q)
    (he : exec i s = .next (serve q owner s)) (hk : knownKind q.kind = true) (hl : lengthOk q = true)
    (ho : ∀ l, owner (s.setCml l) = beginOperation op p (s.setCml l))
    (hP : ∀ t, newestReply t = some (replyFrame q.kind .accepted []) → t.pfs = { p with op := some op } → P t) :
    Completes i s P := by
  obtain ⟨⟨q', hq', ht⟩, hup⟩ := hs
  obtain rfl : q = q' := Option.some.inj (hq.symm.trans hq')
  obtain ⟨hold, e⟩ := serve_eq (owner := owner) ht hk hl (.inl hup)
  refine ⟨_, he.trans (congrArg _ e), ?_⟩
  rw [ho]
  exact hP _ (newestReply_composed _ _ _) (by simp [beginOperation])

end

/-! ### What the operations' starts do to the store -/

/-- Work begun on slot `i`: it is CORRUPT with its work mark set and its protection as it was, a source naming it is none, and
every other slot, the content and the startup record stand (R149, R151, R152). -/
theorem beginWork_spec (p : Store) (i : Fin 8) :
    (p.beginWork i).directory[i] = corruptRecord p.directory[i].guarded ∧
    (p.beginWork i).slots[i] = { p.slots[i] with workMark := true } ∧
    (∀ k, k ≠ i → (p.beginWork i).directory[k] = p.directory[k] ∧ (p.beginWork i).slots[k] = p.slots[k]) ∧
    (p.beginWork i).ws = (if p.ws.source = some i then { p.ws with source := none } else p.ws) ∧
    (p.beginWork i).boot = p.boot := by
  have hc : (corruptRecord p.directory[i].guarded).state ≠ .valid := by simp [corruptRecord]
  refine ⟨by simp [Store.beginWork, Store.setRecord], by simp [Store.beginWork], fun k hk => ?_,
    by simp only [Store.beginWork, Store.setRecord, hc, ne_eq, not_false_eq_true, true_and], rfl⟩
  have hne : (i : Nat) ≠ k := fun e => hk (Fin.ext e.symm)
  simp [Store.beginWork, Store.setRecord, hne]

/-- A source naming the slot that work begins on is none, and the content stands (R139). -/
theorem beginWork_ws (p : Store) (i : Fin 8) : (p.beginWork i).ws.content = p.ws.content ∧
    (p.ws.source = some i ∨ p.ws.source = none → (p.beginWork i).ws.source = none) := by
  obtain ⟨-, -, -, hws, -⟩ := beginWork_spec p i
  rw [hws]
  refine ⟨by split <;> rfl, fun h => ?_⟩
  rcases h with h | h <;> simp [h]

theorem mem_allStoreSlots (k : Fin 8) : k ∈ allStoreSlots := by
  revert k; decide

/-- Another VALID slot holds the working set's profile id (R149). -/
theorem idElsewhere_iff (p : Store) (i : Fin 8) : idElsewhere p i = true ↔ ∃ k h, k ≠ i ∧ p.directory[k].state = .valid ∧
    p.directory[k].header = some h ∧ h.profileId = p.ws.content.profileId := by
  have hid : ∀ k : Fin 8, p.directory[k].validId = some p.ws.content.profileId ↔ p.directory[k].state = .valid ∧
      ∃ h, p.directory[k].header = some h ∧ h.profileId = p.ws.content.profileId := fun k => by
    simp [DirRecord.validId]
  simp only [idElsewhere, List.any_eq_true, mem_allStoreSlots, true_and, Bool.and_eq_true, decide_eq_true_eq, ne_eq, hid]
  constructor
  · rintro ⟨k, hk, hv, h, hh, he⟩
    exact ⟨k, h, hk, hv, hh, he⟩
  · rintro ⟨k, h, hk, hv, hh, he⟩
    exact ⟨k, hk, hv, h, hh, he⟩

/-! ### The owners by the slot a body names -/

theorem bodyAt_slotByte (i : Fin 8) : bodyAt [byte i.val] 0 = i.val := toNat_slotByte i

/-- Every owner of a slot's request refuses a slot number above 7. -/
theorem slotOwners_badParam {z : Byte} (h : 7 < z.toNat) (u : State) :
    psavOwner [z] u = refuse .badParam u ∧ persOwner [z] u = refuse .badParam u ∧ pprtOwner [z] u = refuse .badParam u ∧
      (z ≠ 255 → pactOwner [z] u = refuse .badParam u) := by
  have hb : finOf 8 (bodyAt [z] 0) = none := finOf_eq_none h
  refine ⟨by simp only [psavOwner, hb], by simp only [persOwner, hb], by simp only [pprtOwner, hb], fun hz => ?_⟩
  have hne : bodyAt [z] 0 ≠ 255 := toNat_ne_255 hz
  simp only [pactOwner, pactSlot, if_neg hne, hb]

theorem pactOwner_slot (i : Fin 8) (u : State) :
    (u.pfs.directory[i].state = .valid → pactOwner [byte i.val] u = (⟨.accepted, []⟩, takeTarget (.slot i) u)) ∧
    (u.pfs.directory[i].state = .empty → pactOwner [byte i.val] u = refuse .notFound u) ∧
    (u.pfs.directory[i].state = .corrupt → pactOwner [byte i.val] u = refuse .corrupt u) := by
  have hne : i.val ≠ 255 := by omega
  refine ⟨fun h => ?_, fun h => ?_, fun h => ?_⟩ <;>
    simp only [pactOwner, pactSlot, bodyAt_slotByte, if_neg hne, finOf_val, h]

/-- PACT of 255 takes the lowest VALID slot bound to the adopted head (R148). -/
theorem pactOwner_bound (u : State) :
    (∀ k i, u.hpb.adopted = some (.head k) → u.pfs.boundTo k i → (∀ j, j < i → ¬u.pfs.boundTo k j) →
      pactOwner [255] u = (⟨.accepted, []⟩, takeTarget (.slot i) u)) ∧
    ((∀ k i, u.hpb.adopted = some (.head k) → ¬u.pfs.boundTo k i) → pactOwner [255] u = refuse .notFound u) := by
  have h255 : bodyAt [255] 0 = 255 := rfl
  refine ⟨fun k i ha hb hmin => ?_, fun hn => ?_⟩ <;> simp only [pactOwner, pactSlot, h255, if_true]
  · have hi : (adoptedCode u).bind u.pfs.boundSlot = some i := by
      simpa [adoptedCode, ha] using ((boundSlot_spec u.pfs k).1 i).2 ⟨hb, hmin⟩
    simp only [hi]
  · have hi : (adoptedCode u).bind u.pfs.boundSlot = none := by
      unfold adoptedCode
      split
      · rename_i k ha
        exact (boundSlot_spec u.pfs k).2.2 fun i => hn k i ha
      · rfl
    simp only [hi]

theorem psavOwner_slot (i : Fin 8) (u : State) : psavOwner [byte i.val] u =
    if u.pfs.op.isSome ∨ switching u then refuse .busy u
    else if u.pfs.ws.content.profileId = 0 then refuse .badState u
    else if u.pfs.directory[i].guarded then refuse .guarded u
    else if idElsewhere u.pfs i then refuse .duplicate u
    else beginOperation (.save i .erase) (u.pfs.beginWork i) u := by
  simp only [psavOwner, bodyAt_slotByte, finOf_val]

theorem persOwner_slot (i : Fin 8) (u : State) : persOwner [byte i.val] u =
    if u.pfs.op.isSome then refuse .busy u
    else if u.pfs.directory[i].guarded then refuse .guarded u
    else beginOperation (.erase i) (u.pfs.beginWork i) u := by
  simp only [persOwner, bodyAt_slotByte, finOf_val]

theorem pprtOwner_slot (i : Fin 8) (u : State) : pprtOwner [byte i.val] u =
    if u.pfs.op.isSome then refuse .busy u
    else if u.pfs.directory[i].state ≠ .valid then refuse .badState u
    else accept [] (u.setPfs (u.pfs.protectSlot i)) := by
  simp only [pprtOwner, bodyAt_slotByte, finOf_val]

theorem switching_iff (s : State) : switching s = true ↔ s.csq.state = .switchDrain ∨ s.csq.state = .switchLoad := by
  simp [switching]

/-! ### The answers, request by request -/

section
variable {s : State}

/-- An accepted PACT's slot is the next target in SWITCH-LOAD and the switch target otherwise (R113). -/
theorem pact_accepted {z : Byte} {i : Fin 8} (hs : Served (.pact [z]) s)
    (ho : ∀ l, pactOwner [z] (s.setCml l) = (⟨.accepted, []⟩, takeTarget (.slot i) (s.setCml l))) :
    (s.csq.state = .switchLoad →
      Answers (.pact [z]) 0x22 .accepted [] s (s.setCsq { s.csq with nextTarget := some (.slot i) })) ∧
    (s.csq.state ≠ .switchLoad →
      Answers (.pact [z]) 0x22 .accepted [] s (s.setCsq { s.csq with switchTarget := some (.slot i) })) := by
  have target : ∀ l, takeTarget (.slot i) (s.setCml l) = if s.csq.state = .switchLoad
      then (s.setCml l).setCsq { s.csq with nextTarget := some (.slot i) }
      else (s.setCml l).setCsq { s.csq with switchTarget := some (.slot i) } := fun _ => rfl
  refine ⟨fun hst => ?_, fun hst => ?_⟩ <;>
    refine answers_served (q := ⟨0x22, [z]⟩) hs rfl rfl rfl rfl fun l => ?_
  · rw [ho, target, if_pos hst]
    exact ⟨rfl, rfl⟩
  · rw [ho, target, if_neg hst]
    exact ⟨rfl, rfl⟩

theorem pact_refused {z : Byte} {st : Status} (hs : Served (.pact [z]) s)
    (ho : ∀ l, pactOwner [z] (s.setCml l) = refuse st (s.setCml l)) : Answers (.pact [z]) 0x22 st [] s s :=
  answers_refused (q := ⟨0x22, [z]⟩) hs rfl rfl rfl rfl ho

theorem psav_refused {z : Byte} {st : Status} (hs : Served (.psav [z]) s)
    (ho : ∀ l, psavOwner [z] (s.setCml l) = refuse st (s.setCml l)) : Answers (.psav [z]) 0x23 st [] s s :=
  answers_refused (q := ⟨0x23, [z]⟩) hs rfl rfl rfl rfl ho

theorem pers_refused {z : Byte} {st : Status} (hs : Served (.pers [z]) s)
    (ho : ∀ l, persOwner [z] (s.setCml l) = refuse st (s.setCml l)) : Answers (.pers [z]) 0x24 st [] s s :=
  answers_refused (q := ⟨0x24, [z]⟩) hs rfl rfl rfl rfl ho

theorem pprt_refused {z : Byte} {st : Status} (hs : Served (.pprt [z]) s)
    (ho : ∀ l, pprtOwner [z] (s.setCml l) = refuse st (s.setCml l)) : Answers (.pprt [z]) 0x26 st [] s s :=
  answers_refused (q := ⟨0x26, [z]⟩) hs rfl rfl rfl rfl ho

/-- PSAV's refusals in R149's order: BUSY, BAD_STATE, PROTECTED, DUPLICATE. -/
theorem psav_refusals {i : Fin 8} (hs : Served (.psav [byte i.val]) s) :
    (s.pfs.op.isSome = true ∨ switching s = true → Answers (.psav [byte i.val]) 0x23 .busy [] s s) ∧
    (s.pfs.op = none → switching s = false →
      (s.pfs.ws.content.profileId = 0 → Answers (.psav [byte i.val]) 0x23 .badState [] s s) ∧
      (s.pfs.ws.content.profileId ≠ 0 → s.pfs.directory[i].guarded = true →
        Answers (.psav [byte i.val]) 0x23 .guarded [] s s) ∧
      (s.pfs.ws.content.profileId ≠ 0 → s.pfs.directory[i].guarded = false → idElsewhere s.pfs i = true →
        Answers (.psav [byte i.val]) 0x23 .duplicate [] s s)) := by
  have owner := fun l => psavOwner_slot i (s.setCml l)
  simp only [State.setCml_pfs, show ∀ l, switching (s.setCml l) = switching s from fun _ => rfl] at owner
  refine ⟨fun hb => psav_refused hs fun l => ?_, fun ho hw => ⟨fun hid => psav_refused hs fun l => ?_,
    fun hid hg => psav_refused hs fun l => ?_, fun hid hg hd => psav_refused hs fun l => ?_⟩⟩
  · rw [owner, if_pos hb]
  · simp [owner, ho, hw, hid]
  · simp [-Fin.getElem_fin, owner, ho, hw, hid, hg]
  · simp [-Fin.getElem_fin, owner, ho, hw, hid, hg, hd]

theorem psav_accepted {i : Fin 8} {P : State → Prop} (hs : Served (.psav [byte i.val]) s) (ho : s.pfs.op = none)
    (hw : switching s = false) (hid : s.pfs.ws.content.profileId ≠ 0) (hg : s.pfs.directory[i].guarded = false)
    (hd : idElsewhere s.pfs i = false)
    (hP : ∀ t, newestReply t = some (replyFrame 0x23 .accepted []) →
      t.pfs = { s.pfs.beginWork i with op := some (.save i .erase) } → P t) : Completes (.psav [byte i.val]) s P := by
  refine completes_begun (q := ⟨0x23, [byte i.val]⟩) hs rfl rfl rfl rfl (fun l => ?_) hP
  have hw : switching (s.setCml l) = false := hw
  simp [-Fin.getElem_fin, psavOwner_slot, ho, hw, hid, hg, hd]

theorem pers_accepted {i : Fin 8} {P : State → Prop} (hs : Served (.pers [byte i.val]) s) (ho : s.pfs.op = none)
    (hg : s.pfs.directory[i].guarded = false)
    (hP : ∀ t, newestReply t = some (replyFrame 0x24 .accepted []) →
      t.pfs = { s.pfs.beginWork i with op := some (.erase i) } → P t) : Completes (.pers [byte i.val]) s P := by
  refine completes_begun (q := ⟨0x24, [byte i.val]⟩) hs rfl rfl rfl rfl (fun l => ?_) hP
  simp [-Fin.getElem_fin, persOwner_slot, ho, hg]

theorem sers_accepted {P : State → Prop} (hs : Served (.sers []) s) (ho : s.pfs.op = none)
    (hP : ∀ t, newestReply t = some (replyFrame 0x25 .accepted []) →
      t.pfs = { s.pfs.unprotected.beginWork 0 with op := some (.eraseAll 0 false) } → P t) : Completes (.sers []) s P := by
  refine completes_begun (q := ⟨0x25, []⟩) hs rfl rfl rfl rfl (fun l => ?_) hP
  simp [sersOwner, ho]

end

/-- Every protection cleared (R152). -/
theorem unprotected_spec (p : Store) : (∀ k : Fin 8, p.unprotected.directory[k].guarded = false ∧
    p.unprotected.slots[k].protectMark = false) ∧ p.unprotected.ws.source = none ∧
    p.unprotected.ws.content = p.ws.content ∧ p.unprotected.boot = p.boot :=
  ⟨fun k => by simp [Store.unprotected], rfl, rfl, rfl⟩

/-- ERASE_ALL's start leaves no slot protected (R152). -/
theorem eraseAll_unprotected (p : Store) (k : Fin 8) : (p.unprotected.beginWork 0).directory[k].guarded = false ∧
    (p.unprotected.beginWork 0).slots[k].protectMark = false := by
  obtain ⟨hfree, -⟩ := unprotected_spec p
  obtain ⟨hdir, hslot, hother, -⟩ := beginWork_spec p.unprotected 0
  by_cases hk : k = 0
  · subst hk
    rw [hdir, hslot]
    exact hfree 0
  · obtain ⟨hd, hs⟩ := hother k hk
    rw [hd, hs]
    exact hfree k

/-- BWRT's owner: BAD_PARAM, BUSY, or the erase begun (R157). -/
theorem bwrtOwner_cases (body : List Byte) (u : State) :
    (¬bootRecordOk body = true → bwrtOwner body u = refuse .badParam u) ∧
    (bootRecordOk body = true → (u.pfs.op.isSome = true → bwrtOwner body u = refuse .busy u) ∧
      (u.pfs.op = none → bwrtOwner body u = beginOperation (.bootWrite body .erase) u.pfs u)) :=
  ⟨fun h => if_pos (by simpa using h), fun h => ⟨fun ho => (if_neg (by simp [h])).trans (if_pos ho),
    fun ho => (if_neg (by simp [h])).trans (if_neg (by simp [ho]))⟩⟩

/-- The values of a startup record that BWRT accepts, by its fields (R157). -/
theorem bootRecordOk_iff {rate code auto mode policy notice switch : Nat} (h0 : rate < 256) (h1 : code < 65536)
    (h3 : auto < 256) (h4 : mode < 256) (h5 : policy < 256) (h6 : notice < 256) (h7 : switch < 256) :
    bootRecordOk (byte rate :: le16 code ++ [byte auto, byte mode, byte policy, byte notice, byte switch]) = true ↔
      rate ≤ 3 ∧ 1 ≤ code ∧ code ≤ 400 ∧ auto ≤ 3 ∧ mode ≤ 1 ∧ policy ≤ 1 ∧ notice ≤ 1 ∧ switch ≤ 1 := by
  let body := byte rate :: le16 code ++ [byte auto, byte mode, byte policy, byte notice, byte switch]
  have fields : bodyAt body 0 = rate ∧ bodyAt16 body 1 = code ∧ bodyAt body 3 = auto ∧ bodyAt body 4 = mode ∧
      bodyAt body 5 = policy ∧ bodyAt body 6 = notice ∧ bodyAt body 7 = switch :=
    ⟨byte_toNat h0, le16_toNat h1, byte_toNat h3, byte_toNat h4, byte_toNat h5, byte_toNat h6, byte_toNat h7⟩
  obtain ⟨e0, e1, e3, e4, e5, e6, e7⟩ := fields
  simp only [body] at e0 e1 e3 e4 e5 e6 e7
  simp only [bootRecordOk, e0, e1, e3, e4, e5, e6, e7, Bool.and_eq_true, decide_eq_true_eq, and_assoc]

/-- Settles O47: each request by its owner's answers, and the store after an operation's start by `beginWork_spec`. -/
theorem storeRequests : Obligations.StoreRequests := by
  intro s
  refine ⟨fun i hs => ?_, fun hs => ?_, fun z hz => ?_, fun i hs => ?_, fun i hs => ?_, fun hs => ?_, fun i hs => ?_,
    fun rate code auto mode policy notice switch h0 h1 h3 h4 h5 h6 h7 => ?_⟩
  · have owner := fun l => pactOwner_slot i (s.setCml l)
    refine ⟨fun hv => pact_accepted hs fun l => ?_, fun hv => pact_refused hs fun l => ?_,
      fun hv => pact_refused hs fun l => ?_⟩ <;> obtain ⟨hvalid, hempty, hcorrupt⟩ := owner l
    · exact hvalid hv
    · exact hempty hv
    · exact hcorrupt hv
  · have owner := fun l => pactOwner_bound (s.setCml l)
    refine ⟨fun k i ha hb hmin => (pact_accepted hs fun l => ?_).symm, fun hn => pact_refused hs fun l => ?_⟩ <;>
      obtain ⟨hbound, hnone⟩ := owner l
    · exact hbound k i ha hb hmin
    · exact hnone hn
  · have owners := fun l => slotOwners_badParam hz (s.setCml l)
    refine ⟨fun hne hs => pact_refused hs fun l => ?_, fun hs => psav_refused hs fun l => ?_,
      fun hs => pers_refused hs fun l => ?_, fun hs => pprt_refused hs fun l => ?_⟩ <;>
      obtain ⟨hpsav, hpers, hpprt, hpact⟩ := owners l
    · exact hpact hne
    · exact hpsav
    · exact hpers
    · exact hpprt
  · obtain ⟨hbusy, hrest⟩ := psav_refusals hs
    have hno : s.csq.state ≠ .switchDrain → s.csq.state ≠ .switchLoad → switching s = false := fun h1 h2 => by
      simp [switching, h1, h2]
    refine ⟨fun hw => hbusy (.inr ((switching_iff s).2 hw)), fun ho h1 h2 => ?_, fun ho => hbusy (.inl ho),
      fun ho h1 h2 hid => ?_⟩
    all_goals obtain ⟨hzero, hguarded, hduplicate⟩ := hrest ho (hno h1 h2)
    · exact ⟨hzero, fun k h hid hg hk hv hh he => hduplicate hid hg ((idElsewhere_iff _ _).2 ⟨k, h, hk, hv, hh, he⟩)⟩
    · refine ⟨hguarded hid, fun hg hu => psav_accepted hs ho (hno h1 h2) hid hg ?_ fun t hr ht => ?_⟩
      · rw [← Bool.not_eq_true, idElsewhere_iff]
        rintro ⟨k, h, hk, hv, hh, he⟩
        exact hu k h hk hv hh he
      · obtain ⟨hdir, hslot, hother, -⟩ := beginWork_spec s.pfs i
        obtain ⟨hcontent, hsource⟩ := beginWork_ws s.pfs i
        rw [ht]
        exact ⟨hr, rfl, by rw [hdir]; rfl, by rw [hslot], hcontent, fun h => hsource (.inl h), hother⟩
  · refine ⟨fun ho => pers_refused hs fun l => ?_, fun ho hg => pers_refused hs fun l => ?_,
      fun ho hg => pers_accepted hs ho hg fun t hr ht => ?_⟩
    · simp [persOwner_slot, ho]
    · simp [-Fin.getElem_fin, persOwner_slot, ho, hg]
    · obtain ⟨hdir, hslot, hother, -⟩ := beginWork_spec s.pfs i
      obtain ⟨-, hsource⟩ := beginWork_ws s.pfs i
      rw [ht]
      exact ⟨hr, rfl, by rw [hdir]; rfl, by rw [hslot], fun h => hsource (.inl h), hother⟩
  · refine ⟨fun ho => answers_refused (q := ⟨0x25, []⟩) hs rfl rfl rfl rfl fun l => if_pos ho,
      fun ho => sers_accepted hs ho fun t hr ht => ?_⟩
    obtain ⟨-, hnone, hkept, hboot⟩ := unprotected_spec s.pfs
    obtain ⟨hdir, hslot, -, -, hboot'⟩ := beginWork_spec s.pfs.unprotected 0
    obtain ⟨hcontent, hsource⟩ := beginWork_ws s.pfs.unprotected 0
    rw [ht]
    exact ⟨hr, rfl, hsource (.inr hnone), hcontent.trans hkept, hboot'.trans hboot, by rw [hdir]; rfl, by rw [hslot],
      eraseAll_unprotected s.pfs⟩
  · refine ⟨fun ho => pprt_refused hs fun l => ?_, fun ho hv => pprt_refused hs fun l => ?_, fun ho hv =>
      answers_served (q := ⟨0x26, [byte i.val]⟩) hs rfl rfl rfl rfl fun l => ?_⟩
    · simp [pprtOwner_slot, ho]
    · simp [-Fin.getElem_fin, pprtOwner_slot, ho, hv]
    · have e : pprtOwner [byte i.val] (s.setCml l) = accept [] ((s.setCml l).setPfs (s.pfs.protectSlot i)) := by
        simp [-Fin.getElem_fin, pprtOwner_slot, ho, hv]
      rw [e]
      exact ⟨rfl, rfl⟩
  · intro body inRange hs
    have hok : bootRecordOk body = true ↔ inRange := bootRecordOk_iff h0 h1 h3 h4 h5 h6 h7
    have owner := fun l => bwrtOwner_cases body (s.setCml l)
    refine ⟨fun hr => answers_refused (q := ⟨0x28, body⟩) hs rfl rfl rfl rfl fun l => ?_,
      fun hr ho => answers_refused (q := ⟨0x28, body⟩) hs rfl rfl rfl rfl fun l => ?_,
      fun hr ho => answers_served (q := ⟨0x28, body⟩) hs rfl rfl rfl rfl fun l => ?_⟩ <;>
      obtain ⟨hbad, hgood⟩ := owner l
    · exact hbad (mt hok.1 hr)
    · obtain ⟨hbusy, -⟩ := hgood (hok.2 hr)
      exact hbusy ho
    · obtain ⟨-, hbegun⟩ := hgood (hok.2 hr)
      rw [hbegun ho]
      exact ⟨rfl, rfl⟩

end Sys2Proof.Machine
end

section
namespace Sys2Proof.Machine

/-! ## What goes on in the step of an adoption (R95, R117, R118) -/

/-- Start-up goes on only in STARTING, before its load is chosen (R95). -/
theorem startUpProgress_else {s : State} (h : s.csq.state = .starting → s.csq.loadChosen = true) : startUpProgress s = s :=
  if_neg fun ⟨hs, _, hl, _⟩ => by simp [h hs] at hl

/-- Start-up's choice of its load leaves the Condition Unit and the targets (R95). -/
theorem startUpProgress_kept (s : State) : (startUpProgress s).cdu = s.cdu ∧
    (startUpProgress s).csq.switchTarget = s.csq.switchTarget ∧ (startUpProgress s).csq.nextTarget = s.csq.nextTarget := by
  unfold startUpProgress
  split
  · dsimp only
    split
    · rename_i i hi
      obtain ⟨k, -, hk⟩ := Option.bind_eq_some_iff.1 hi
      obtain ⟨⟨hv, -⟩, -⟩ := ((boundSlot_spec _ k).1 i).1 hk
      rw [beginLoad_valid hv]
      exact ⟨rfl, rfl, rfl⟩
    · refine ⟨by simp, ?_, ?_⟩ <;> (unfold endStartUp; dsimp only; split <;> rfl)
  · exact ⟨rfl, rfl, rfl⟩

/-- The end of a halt changes the sequencer's state alone (R118). -/
theorem haltExit_csq (s : State) : ∃ state, (haltExit s).csq = { s.csq with state } := by
  unfold haltExit
  split
  · exact ⟨_, rfl⟩
  · exact ⟨_, rfl⟩

theorem haltExit_else {s : State} (h : s.csq.state = .halt → haltCause s = true) : haltExit s = s :=
  if_neg fun ⟨hs, hc⟩ => by simp [h hs] at hc

/-- A halt raises events and reports no level (R117). -/
theorem haltFor_live {why : AbandonReason} (hr : why = .headLost ∨ why = .lampCutoff) (s : State) :
    (haltFor why s).cdu.live = s.cdu.live := by
  have habandon : (haltAbandon why s).cdu.live = s.cdu.live := by
    by_cases hk : ∃ r, s.csq.exposure = some r ∧ (why = .headLost ∨ r.kind ≠ .dark)
    · obtain ⟨r, hx, hk⟩ := hk
      obtain ⟨-, -, -, -, -, -, -, hcdu⟩ := haltAbandon_eq hx hr hk
      rw [hcdu, Conditions.raise_live]
    · unfold haltAbandon
      split
      · rename_i r hx
        rw [if_neg fun h => hk ⟨r, hx, h⟩]
      · rfl
  unfold haltFor
  split
  · rfl
  · rfl
  · obtain ⟨-, -, -, hfails, hnone⟩ := haltStill_spec (dropFrame (haltAbandon why s))
    cases ha : (dropFrame (haltAbandon why s)).csq.active with
    | none => simp [hnone ha, habandon]
    | some a =>
      obtain ⟨-, hcdu, -⟩ := hfails a ha
      simp [hcdu, habandon]

/-- Outside STARTING a halt leaves the sequencer in HALT or SWITCH-LOAD (R117). -/
theorem haltFor_state {why : AbandonReason} {s : State} (hr : why = .headLost ∨ why = .lampCutoff)
    (hs : s.csq.state ≠ .starting) : (haltFor why s).csq.state = if s.csq.state = .switchLoad then .switchLoad else .halt := by
  obtain ⟨hload, hhalt⟩ := haltFor_arises hs hr
  by_cases h : s.csq.state = .switchLoad
  · obtain ⟨hcsq, -⟩ := hload h
    rw [hcsq, if_pos h]
    exact h
  · obtain ⟨hstate, -⟩ := hhalt h
    rw [hstate, if_neg h]

/-! ### What an adoption reports (R113, R164) -/

/-- What a change of head makes of the Condition Unit and the sequencer: nothing without one; else HEAD_CHANGED raised and, with
AUTOSWITCH on and not in start-up before its load is chosen, the head a target (R95, R113, R164). -/
theorem reportHeadChange_cases (last : Option (Fin 12)) (c : Classification) (s : State) :
    ((∀ k, c = .head k → last = some k) → reportHeadChange last c s = s) ∧
    ∀ k, c = .head k → last ≠ some k →
      (s.csq.autoswitch = false ∨ (s.csq.state = .starting ∧ s.csq.loadChosen = false) →
        reportHeadChange last c s = raise .headChanged s) ∧
      (s.csq.autoswitch = true → (s.csq.state = .starting → s.csq.loadChosen = true) →
        reportHeadChange last c s = takeTarget (.head k) (raise .headChanged s)) := by
  refine ⟨fun hn => ?_, fun k hk hne => ?_⟩
  · cases c with
    | head k => exact if_pos (hn k rfl)
    | shortLine | openLine | between => rfl
  · subst hk
    have e : reportHeadChange last (.head k) s = headChangeReported k (raise .headChanged s) := if_neg hne
    rw [e]
    refine ⟨fun h => ?_, fun ha hl => ?_⟩
    · rcases h with ha | hw
      · exact if_pos ha
      · unfold headChangeReported
        split
        · rfl
        · exact if_pos hw
    · refine (if_neg ?_).trans (if_neg fun ⟨hs, hn⟩ => ?_)
      · simp [ha]
      · have := hl hs
        simp_all

/-- A change of head reaches the Condition Unit and the sequencer alone. -/
theorem reportHeadChange_eq (last : Option (Fin 12)) (c : Classification) (s : State) :
    ∃ d q, reportHeadChange last c s = (s.setCdu d).setCsq q := by
  refine ⟨(reportHeadChange last c s).cdu, (reportHeadChange last c s).csq, ?_⟩
  unfold reportHeadChange headChangeReported takeTarget
  (repeat' split) <;> rfl

/-- The part after an adoption's reports, before a halt, the end of one, or start-up (R162, R164). -/
def adoptionReported (c : Classification) (s : State) : State :=
  let u := reportHeadChange s.hpb.lastHead c (s.setHpb (s.hpb.adopt c))
  report .headPresent (headPresent u) u

theorem adopt_eq (c : Classification) (s : State) : adopt c s = startUpProgress (pump (haltExit
    (if headPresent s && !headPresent (adoptionReported c s) then haltFor .headLost (adoptionReported c s)
      else adoptionReported c s))) := rfl

/-- The reports of an adoption leave all but the probe, the sequencer and the Condition Unit, whose masks stand. -/
theorem adoptionReported_frame (c : Classification) (s : State) :
    (adoptionReported c s).hpb = s.hpb.adopt c ∧ (adoptionReported c s).pxr = s.pxr ∧ (adoptionReported c s).phc = s.phc ∧
    (adoptionReported c s).ofq = s.ofq ∧ (adoptionReported c s).rme = s.rme ∧ (adoptionReported c s).lpc = s.lpc ∧
    (adoptionReported c s).cml = s.cml ∧ (adoptionReported c s).csq =
      (reportHeadChange s.hpb.lastHead c (s.setHpb (s.hpb.adopt c))).csq := by
  obtain ⟨d, q, e⟩ := reportHeadChange_eq s.hpb.lastHead c (s.setHpb (s.hpb.adopt c))
  simp [adoptionReported, e]

theorem headPresent_iff (s : State) : headPresent s = true ↔ ∃ k, s.hpb.adopted = some (.head k) := by
  unfold headPresent
  split <;> simp_all

/-- A head is present after an adoption exactly when a HEAD was adopted (R159). -/
theorem adoptionReported_present (c : Classification) (s : State) :
    headPresent (adoptionReported c s) = true ↔ ∃ k, c = .head k := by
  obtain ⟨hhpb, -⟩ := adoptionReported_frame c s
  rw [headPresent_iff, hhpb]
  simp [Probe.adopt]

/-- HEAD_PRESENT's live value after the report is presence (R164). -/
theorem adoptionReported_live (c : Classification) (s : State) :
    (adoptionReported c s).cdu.live.getLsbD 0 = true ↔ ∃ k, c = .head k := by
  rw [← adoptionReported_present c s]
  have h := report_live_bit .headPresent (headPresent (reportHeadChange s.hpb.lastHead c (s.setHpb (s.hpb.adopt c))))
    (reportHeadChange s.hpb.lastHead c (s.setHpb (s.hpb.adopt c))) 0 (by decide)
  rw [if_pos (show 0 = Source.headPresent.number from rfl)] at h
  have hp : headPresent (adoptionReported c s) = headPresent (reportHeadChange s.hpb.lastHead c (s.setHpb (s.hpb.adopt c))) := by
    simp [adoptionReported, headPresent]
  rw [hp, ← h]
  rfl

/-- An adoption that changes no head reports presence alone. -/
theorem adoptionReported_unchanged {c : Classification} {s : State} (h : ∀ k, c = .head k → s.hpb.lastHead = some k) :
    (adoptionReported c s).csq = s.csq ∧ (adoptionReported c s).cdu.riseEn = s.cdu.riseEn := by
  obtain ⟨hsame, -⟩ := reportHeadChange_cases s.hpb.lastHead c (s.setHpb (s.hpb.adopt c))
  simp [adoptionReported, hsame h]

/-- The targets after a HEAD's adoption: the new head is one in SWITCH-LOAD or elsewhere, or none is taken (R95, R113). -/
theorem adoptionReported_target (k : Fin 12) (s : State) :
    (s.hpb.lastHead = some k ∨ s.csq.autoswitch = false ∨ (s.csq.state = .starting ∧ s.csq.loadChosen = false) →
      (adoptionReported (.head k) s).csq = s.csq) ∧
    (s.hpb.lastHead ≠ some k → s.csq.autoswitch = true → (s.csq.state = .starting → s.csq.loadChosen = true) →
      (adoptionReported (.head k) s).csq = if s.csq.state = .switchLoad then { s.csq with nextTarget := some (.head k) }
        else { s.csq with switchTarget := some (.head k) }) := by
  obtain ⟨-, -, -, -, -, -, -, hcsq⟩ := adoptionReported_frame (.head k) s
  obtain ⟨hsame, hchange⟩ := reportHeadChange_cases s.hpb.lastHead (.head k) (s.setHpb (s.hpb.adopt (.head k)))
  rw [hcsq]
  refine ⟨fun h => ?_, fun hne ha hl => ?_⟩
  · by_cases hlast : s.hpb.lastHead = some k
    · rw [hsame fun k' e => by cases e; exact hlast]
      rfl
    · obtain ⟨hnone, -⟩ := hchange k rfl hlast
      rw [hnone (h.resolve_left hlast)]
      rfl
  · obtain ⟨-, htake⟩ := hchange k rfl hne
    rw [htake ha hl]
    simp only [takeTarget, raise_frame, State.setHpb_csq]
    split <;> rfl

/-- A HEAD's adoption reports reach no more of the sequencer than its targets (R113). -/
theorem adoptionReported_targetsOnly (k : Fin 12) (s : State) : ∃ switchTarget nextTarget,
    (adoptionReported (.head k) s).csq = { s.csq with switchTarget, nextTarget } := by
  obtain ⟨hstand, htake⟩ := adoptionReported_target k s
  by_cases h : s.hpb.lastHead = some k ∨ s.csq.autoswitch = false ∨ (s.csq.state = .starting ∧ s.csq.loadChosen = false)
  · exact ⟨_, _, hstand h⟩
  · obtain ⟨hne, hauto, hl⟩ : s.hpb.lastHead ≠ some k ∧ s.csq.autoswitch = true ∧
        (s.csq.state = .starting → s.csq.loadChosen = true) := by simpa using h
    rw [htake hne hauto hl]
    split <;> exact ⟨_, _, rfl⟩

/-! An edge, and so a report, cancels no pending notice. -/

theorem Conditions.edge_keeps_pending {c : Conditions} (en : Word16) (src : Source) (h : c.noticePending = true) :
    (c.edge en src).noticePending = true := by
  rcases c.edge_eq en src with e | e <;> rw [e]
  · exact h
  · simp [h]

theorem Conditions.report_keeps_pending {c : Conditions} (src : Source) (v : Bool) (h : c.noticePending = true) :
    (c.report src v).noticePending = true := by
  unfold Conditions.report
  split
  · exact h
  · exact Conditions.edge_keeps_pending _ _ h

/-- A new head's HEAD_CHANGED, with its rising edge enabled, is latched; a latch newly set with NOTICE_EN on makes a notice pending
(R164, R169, R171). -/
theorem adoptionReported_headChanged {k : Fin 12} {s : State} (hne : s.hpb.lastHead ≠ some k)
    (hl : s.cdu.riseEn.getLsbD 1 = true) : (adoptionReported (.head k) s).cdu.latches.getLsbD 1 = true ∧
      (s.cdu.noticeEn = true → s.cdu.latches.getLsbD 1 = false → (adoptionReported (.head k) s).cdu.noticePending = true) := by
  let u := s.setHpb (s.hpb.adopt (.head k))
  have hcdu : (reportHeadChange s.hpb.lastHead (.head k) u).cdu = (raise .headChanged u).cdu := by
    have e : reportHeadChange s.hpb.lastHead (.head k) u = headChangeReported k (raise .headChanged u) := if_neg hne
    simp [e]
  refine ⟨report_keeps_latch _ _ _ ?_, fun hn hc => ?_⟩
  · rw [hcdu]
    exact raise_latched (src := .headChanged) (s := u) hl
  · have hraised : (raise .headChanged u).cdu.noticePending = true := by
      have hc : ¬s.cdu.latches.getLsbD 1 = true := by rwa [Bool.not_eq_true]
      have e : (raise .headChanged u).cdu = { s.cdu with
          latches := withSourceBit s.cdu.latches 1 true, noticePending := s.cdu.noticePending || s.cdu.noticeEn } :=
        (if_pos hl).trans (if_neg hc)
      simp [e, hn]
    simp only [adoptionReported, report, State.setCdu_cdu]
    rw [show (reportHeadChange s.hpb.lastHead (.head k) (s.setHpb (s.hpb.adopt (.head k)))).cdu = _ from hcdu]
    exact Conditions.report_keeps_pending _ _ hraised

/-! ### The adoption as a whole -/

theorem adopt_hpb (c : Classification) (s : State) : (adopt c s).hpb = s.hpb.adopt c := by
  obtain ⟨hhpb, -⟩ := adoptionReported_frame c s
  rw [adopt_eq]
  split <;> simp [hhpb]

/-- HEAD_PRESENT's live value after an adoption: 1 exactly for a HEAD (R164). -/
theorem adopt_live (c : Classification) (s : State) : (adopt c s).cdu.live.getLsbD 0 = true ↔ ∃ k, c = .head k := by
  rw [← adoptionReported_live c s, adopt_eq]
  obtain ⟨hcdu, -⟩ := startUpProgress_kept (pump (haltExit
    (if headPresent s && !headPresent (adoptionReported c s) then haltFor .headLost (adoptionReported c s)
      else adoptionReported c s)))
  rw [hcdu]
  split
  · simp [haltFor_live (.inl rfl)]
  · simp

/-- A HEAD's adoption brings no halt (R117). -/
theorem adopt_head (k : Fin 12) (s : State) :
    adopt (.head k) s = startUpProgress (pump (haltExit (adoptionReported (.head k) s))) := by
  have hp : headPresent (adoptionReported (.head k) s) = true := (adoptionReported_present _ s).2 ⟨k, rfl⟩
  rw [adopt_eq, if_neg (by simp [hp])]

/-- The loss of a HEAD outside start-up halts, and the step does no more than the transmitter then does (R117). -/
theorem adopt_lost {c : Classification} {s : State} (hc : ∀ k, c ≠ .head k) (hp : ∃ k, s.hpb.adopted = some (.head k))
    (hs : s.csq.state ≠ .starting) : adopt c s = pump (haltFor .headLost (adoptionReported c s)) := by
  obtain ⟨hcsq, -⟩ := adoptionReported_unchanged (c := c) (s := s) fun k e => absurd e (hc k)
  have habsent : headPresent (adoptionReported c s) = false := by
    rw [← Bool.not_eq_true, adoptionReported_present]
    exact fun ⟨k, e⟩ => hc k e
  have hstate := haltFor_state (why := .headLost) (s := adoptionReported c s) (.inl rfl) (by rwa [hcsq])
  have hcause : haltCause (haltFor .headLost (adoptionReported c s)) = true := by
    have : headPresent (haltFor .headLost (adoptionReported c s)) = headPresent (adoptionReported c s) := by
      simp [headPresent]
    simp [haltCause, this, habsent]
  rw [adopt_eq, if_pos (by simp [(headPresent_iff s).2 hp, habsent]), haltExit_else fun _ => hcause,
    startUpProgress_else fun h => ?_]
  simp only [pump_frame, hstate] at h
  split at h <;> cases h

/-! ### What the step of a HEAD's adoption leaves -/

section
variable {k : Fin 12} {s : State}

theorem adopt_head_latches : (adopt (.head k) s).cdu.latches = (adoptionReported (.head k) s).cdu.latches := by
  obtain ⟨hcdu, -⟩ := startUpProgress_kept (pump (haltExit (adoptionReported (.head k) s)))
  rw [adopt_head, hcdu]
  simp

/-- The targets after the step are those the report left (R95, R113, R118). -/
theorem adopt_head_targets : (adopt (.head k) s).csq.switchTarget = (adoptionReported (.head k) s).csq.switchTarget ∧
    (adopt (.head k) s).csq.nextTarget = (adoptionReported (.head k) s).csq.nextTarget := by
  obtain ⟨-, hswitch, hnext⟩ := startUpProgress_kept (pump (haltExit (adoptionReported (.head k) s)))
  obtain ⟨state, hcsq⟩ := haltExit_csq (adoptionReported (.head k) s)
  rw [adopt_head, hswitch, hnext]
  simp [hcsq]

/-- With the transmitter idle in start-up, the notice of a new head starts before start-up goes on (R171; log entry 12). -/
theorem adopt_head_notice (hs : s.csq.state = .starting) (ht : s.cml.tx = none)
    (hp : (adoptionReported (.head k) s).cdu.noticePending = true) :
    (adopt (.head k) s).cdu.noticePending = false ∧ (adopt (.head k) s).cml.tx = some (.notice
      ⟨0x60, le16 (adopt (.head k) s).cdu.latches.toNat ++ le16 (adopt (.head k) s).cdu.live.toNat ++ [0]⟩) := by
  let v := adoptionReported (.head k) s
  obtain ⟨-, -, -, -, -, -, hcml, -⟩ := adoptionReported_frame (.head k) s
  obtain ⟨_, _, htargets⟩ := adoptionReported_targetsOnly k s
  have hstate : v.csq.state = .starting := htargets ▸ hs
  have hexit : haltExit v = v := haltExit_else fun h => by simp [hstate] at h
  have htx : v.cml.tx = none := by rw [hcml]; exact ht
  have hpump : pump v = (v.setCml { v.cml with tx := some (.notice (noticeFrame v)) }).setCdu
      { v.cdu with noticePending := false } := by
    simp only [pump, htx, v, hp, if_true]
  obtain ⟨hcdu, -⟩ := startUpProgress_kept (pump v)
  have hframe : noticeFrame v = ⟨0x60, le16 v.cdu.latches.toNat ++ le16 v.cdu.live.toNat ++ [0]⟩ := by
    simp only [noticeFrame, hstate]
    rfl
  rw [adopt_head, show haltExit (adoptionReported (.head k) s) = v from hexit, hcdu]
  simp [hpump, hframe]

/-- A target stands after a HEAD's adoption in HALT when one stood or the new HEAD becomes one (R113). -/
theorem adoptionReported_someTarget (hs : s.csq.state = .halt) : (adoptionReported (.head k) s).csq.switchTarget ≠ none ↔
    s.csq.switchTarget ≠ none ∨ (s.csq.autoswitch = true ∧ s.hpb.lastHead ≠ some k) := by
  obtain ⟨hstand, htake⟩ := adoptionReported_target k s
  by_cases h : s.csq.autoswitch = true ∧ s.hpb.lastHead ≠ some k
  · obtain ⟨hauto, hne⟩ := h
    rw [htake hne hauto fun e => by simp [hs] at e, if_neg (by simp [hs])]
    simp [hauto, hne]
  · have hcond : s.hpb.lastHead = some k ∨ s.csq.autoswitch = false := by
      by_cases hauto : s.csq.autoswitch = true
      · exact .inl (not_not.1 fun hne => h ⟨hauto, hne⟩)
      · exact .inr (Bool.not_eq_true _ ▸ hauto)
    rw [hstand (hcond.imp_right .inl), or_iff_left h]

/-- A HALT without a cutoff ends with a HEAD's adoption (R118). -/
theorem adopt_head_ends_halt (hs : s.csq.state = .halt) (hc : s.lpc.cutoff = false) : (adopt (.head k) s).csq.state =
    if s.csq.switchTarget ≠ none ∨ (s.csq.autoswitch = true ∧ s.hpb.lastHead ≠ some k) then .switchDrain
    else if s.csq.streamRequested then .run else .idle := by
  let v := adoptionReported (.head k) s
  obtain ⟨hhpb, -, -, -, -, hlpc, -, -⟩ := adoptionReported_frame (.head k) s
  obtain ⟨_, _, htargets⟩ := adoptionReported_targetsOnly k s
  have hstate : v.csq.state = .halt := htargets ▸ hs
  have hreq : v.csq.streamRequested = s.csq.streamRequested := by simp [v, htargets]
  obtain ⟨-, hends⟩ := haltExit_state (s := v) hstate (by rw [hlpc]; exact hc)
  have hv := hends ⟨k, by rw [hhpb]; rfl⟩
  rw [hreq, if_congr (adoptionReported_someTarget hs) rfl rfl] at hv
  rw [adopt_head, startUpProgress_else fun h => ?_]
  · simpa using hv
  · simp only [pump_frame] at h
    rw [show haltExit (adoptionReported (.head k) s) = haltExit v from rfl, hv] at h
    split_ifs at h

end

/-- The part with the code of an identity conversion taken, before adoption's use of it (R160, R161). -/
def identityTaken (r : Nat) (s : State) : State :=
  s.setHpb { s.hpb.release with latestId := some r, latestClass := some (classify r) }

theorem release_keeps (p : Probe) : p.release.adopted = p.adopted ∧ p.release.candidate = p.candidate ∧
    p.release.lastHead = p.lastHead := by
  unfold Probe.release
  split <;> exact ⟨rfl, rfl, rfl⟩

/-- The second equal classification in a row that differs from the adopted state is adopted (R162). -/
theorem exec_idConversionDone_adoption {s : State} {r : Nat} {c : Classification} (hv : s.hpb.conv = .convertingId)
    (hr : classify r = c) (hc : s.hpb.candidate = some c) (ha : s.hpb.adopted ≠ some c) :
    exec (.idConversionDone r) s = .next (pump (adopt c (identityTaken r s))) := by
  obtain ⟨hadopted, hcandidate, -⟩ := release_keeps s.hpb
  simp [exec, execIdConversionDone, hv, hr, useClassification, identityTaken, hadopted, hcandidate, hc, ha]

/-- Settles O34: the adoption's reports, then a lost HEAD's halt, or for a HEAD the end of a halt or start-up's next move. -/
theorem adoptionReports : Obligations.AdoptionReports := by
  intro r s c hv hr hc ha
  obtain ⟨hadopted, -, hlast⟩ := release_keeps s.hpb
  let u := identityTaken r s
  have hulast : u.hpb.lastHead = s.hpb.lastHead := hlast
  refine ⟨_, exec_idConversionDone_adoption hv hr hc ha, ?_⟩
  have hhpb : (pump (adopt c u)).hpb = u.hpb.adopt c := by simp [adopt_hpb]
  have hcsqPump : (pump (adopt c u)).csq = (adopt c u).csq := by simp
  refine ⟨by rw [hhpb]; rfl, by rw [pump_live]; exact adopt_live c u, ?_, ?_, ?_, ?_, ?_, ?_⟩
  · rintro k rfl
    refine ⟨by rw [hhpb]; rfl, fun hne hl => ?_⟩
    obtain ⟨hlatched, -⟩ := adoptionReported_headChanged (s := u) (hulast ▸ hne) hl
    rw [pump_latches, adopt_head_latches]
    exact hlatched
  · intro hn
    rw [hhpb, ← hlast]
    cases c with
    | head k => exact absurd rfl (hn k)
    | shortLine | openLine | between => rfl
  · rintro k rfl hs ht hn hne hl hclear
    obtain ⟨-, hpending⟩ := adoptionReported_headChanged (s := u) (hulast ▸ hne) hl
    obtain ⟨hoff, htx⟩ := adopt_head_notice (s := u) hs ht (hpending hn hclear)
    have hpump : pump (adopt (.head k) u) = adopt (.head k) u := by simp only [pump, htx]
    rw [hpump]
    exact ⟨hoff, _, htx, rfl, rfl⟩
  · rintro ⟨k, hk⟩ hn hs
    obtain ⟨hcsq, hrise⟩ := adoptionReported_unchanged (c := c) (s := u) fun k e => absurd e (hn k)
    obtain ⟨-, hpxr, hphc, hofq, hrme, -⟩ := adoptionReported_frame c u
    rw [show adopt c (identityTaken r s) = _ from adopt_lost (s := u) hn ⟨k, hadopted.trans hk⟩ hs]
    have h := haltFor_arises (reason := .headLost) (s := adoptionReported c u) (by rw [hcsq]; exact hs) (.inl rfl)
    refine h.congr ⟨hcsq.symm, hpxr.symm, hphc.symm, hofq.symm, hrme.symm, hrise.symm⟩ ?_
    simp
  · rintro k rfl
    obtain ⟨hstand, htake⟩ := adoptionReported_target k u
    obtain ⟨hswitch, hnext⟩ := adopt_head_targets (k := k) (s := u)
    rw [show (pump (adopt (.head k) (identityTaken r s))).csq = _ from hcsqPump, hswitch, hnext]
    refine ⟨fun hne hauto => ⟨fun hs => ?_, fun hs hl => ?_⟩, fun h => ?_⟩
    · rw [htake (hulast ▸ hne) hauto fun h => by simp [show s.csq.state = _ from h] at hs,
        if_pos (show u.csq.state = _ from hs)]
      exact ⟨rfl, rfl⟩
    · rw [htake (hulast ▸ hne) hauto hl, if_neg (show u.csq.state ≠ _ from hs)]
      exact ⟨rfl, rfl⟩
    · rw [hstand (hulast ▸ h)]
      exact ⟨rfl, rfl⟩
  · rintro k rfl hs hoff
    have h := adopt_head_ends_halt (k := k) (s := u) hs hoff
    rw [hulast] at h
    exact (congrArg (·.state) hcsqPump).trans h

end Sys2Proof.Machine
end

section
namespace Sys2Proof.Machine

/-! ## The slot a picture takes (R124, R125) -/

/-- The lowest-numbered FREE slot is the one with no FREE slot below it. -/
theorem Output.freeSlot_lowest {o : Output} {i : Fin 4} (hi : o.slots[i].state = .free)
    (hlow : ∀ k, k < i → o.slots[k].state ≠ .free) : o.freeSlot = some i := by
  have split : ∀ i : Fin 4, allSlots = allSlots.take i.val ++ i :: allSlots.drop (i.val + 1) ∧
      ∀ k ∈ allSlots.take i.val, k < i := by decide
  obtain ⟨hsplit, hbefore⟩ := split i
  refine List.find?_eq_some_iff_append.2 ⟨by simpa using hi, _, _, hsplit, fun k hk => ?_⟩
  simpa using hlow k (hbefore k hk)

theorem Output.freeSlot_eq_none {o : Output} (h : ∀ k : Fin 4, o.slots[k].state ≠ .free) : o.freeSlot = none :=
  List.find?_eq_none.2 fun k _ => by simpa using h k

/-- The oldest READY stream frame is the first stream frame of the ready order. -/
theorem Output.oldestStream_first {o : Output} {before after : List (Fin 4)} {i : Fin 4}
    (hr : o.readyOrder = before ++ i :: after) (hi : o.slots[i].kind = .stream)
    (hbefore : ∀ k ∈ before, o.slots[k].kind ≠ .stream) : o.oldestStream = some i :=
  List.find?_eq_some_iff_append.2 ⟨by simpa using hi, before, after, hr, fun k hk => by simpa using hbefore k hk⟩

theorem Output.oldestStream_eq_none {o : Output} (h : ∀ k ∈ o.readyOrder, o.slots[k].kind ≠ .stream) :
    o.oldestStream = none :=
  List.find?_eq_none.2 fun k hk => by simpa using h k hk

/-- With a FREE slot both claims take it, and nothing is discarded. -/
theorem Output.claims_free {o : Output} {i : Fin 4} (h : o.freeSlot = some i) :
    o.streamClaim = some (i, false) ∧ o.stillClaim = some (i, false) := by
  simp only [Output.streamClaim, Output.stillClaim, h, and_self]

/-- With no FREE slot a still claims the oldest READY stream frame's slot, a stream frame the same under KEEP_NEW and none under
KEEP_OLD. -/
theorem Output.claims_full {o : Output} (h : o.freeSlot = none) :
    o.stillClaim = o.oldestStream.map (fun i => (i, true)) ∧
    (o.policy = .keepNew → o.streamClaim = o.oldestStream.map fun i => (i, true)) ∧
    (o.policy = .keepOld → o.streamClaim = none) := by
  refine ⟨?_, fun hp => ?_, fun hp => ?_⟩
  · simp only [Output.stillClaim, h]
  · simp only [Output.streamClaim, h, hp]
  · simp only [Output.streamClaim, h, hp]

/-- Settles O22: the claims by whether a slot is FREE, and then by the first stream frame of the ready order. -/
theorem streamSlotClaim : Obligations.StreamSlotClaim := by
  refine fun o => ⟨fun i hi hlow => Output.claims_free (Output.freeSlot_lowest hi hlow), fun hfull => ?_⟩
  obtain ⟨hstill, hnew, hold⟩ := Output.claims_full (Output.freeSlot_eq_none hfull)
  refine ⟨hold, fun before i after hr hi hbefore => ?_, fun hnone => ?_⟩
  · have hfirst := Output.oldestStream_first hr hi hbefore
    exact ⟨by rw [hstill, hfirst]; rfl, fun hp => by rw [hnew hp, hfirst]; rfl⟩
  · have hfirst := Output.oldestStream_eq_none hnone
    refine ⟨by rw [hstill, hfirst]; rfl, ?_⟩
    cases hp : o.policy with
    | keepNew => rw [hnew hp, hfirst]; rfl
    | keepOld => exact hold hp

end Sys2Proof.Machine
end

section
namespace Sys2Proof.Machine

/-! ## The bytes of a frame (R129, R134, R135) -/

/-! ### Fields of several codes -/

/-- A sum of codes, each at its place, is the number with those digits. -/
theorem sum_zipIdx_eq_ofDigits (b : Nat) (l : List Nat) (n : Nat) :
    ((l.zipIdx n).map fun p => p.1 * b ^ p.2).sum = b ^ n * Nat.ofDigits b l := by
  induction l generalizing n with
  | nil => simp
  | cons x l ih =>
    simp only [List.zipIdx_cons, List.map_cons, List.sum_cons, ih, Nat.ofDigits_cons]
    ring

/-- A digit of a number is read back at its place. -/
theorem ofDigits_div_pow_mod {b : Nat} {l : List Nat} (hl : ∀ x ∈ l, x < b) (k : Nat) :
    Nat.ofDigits b l / b ^ k % b = l.getD k 0 := by
  induction l generalizing k with
  | nil => simp
  | cons x l ih =>
    have hx : x < b := hl x List.mem_cons_self
    rw [Nat.ofDigits_cons]
    cases k with
    | zero => simp [Nat.mod_eq_of_lt hx]
    | succ k =>
      rw [pow_succ', ← Nat.div_div_eq_div_mul, Nat.add_mul_div_left _ _ (by omega), Nat.div_eq_of_lt hx, Nat.zero_add]
      exact ih (fun y hy => hl y (List.mem_cons_of_mem _ hy)) k

/-- A byte of flags: flag k of the list is bit k. -/
def flagsByte (l : List Bool) : Byte := byte (Nat.ofDigits 2 (l.map Bool.toNat))

theorem flagsByte_getLsbD (l : List Bool) {k : Nat} (hk : k < 8) : (flagsByte l).getLsbD k = l.getD k false := by
  have hdigit := ofDigits_div_pow_mod (b := 2) (l := l.map Bool.toNat)
    (fun x hx => by obtain ⟨v, -, rfl⟩ := List.mem_map.1 hx; exact v.toNat_lt) k
  have hval : (l.map Bool.toNat).getD k 0 = (l.getD k false).toNat := List.getD_map (d := false) ..
  rw [flagsByte, byte, BitVec.getLsbD_ofNat, Nat.testBit_eq_decide_div_mod_eq, hdigit, hval]
  cases l.getD k false <;> simp [hk]

/-- Setting the first flag sets bit 0 and leaves every other bit. -/
theorem flagsByte_set_first (l : List Bool) : flagsByte (true :: l) = flagsByte (false :: l) ||| 1 := by
  refine BitVec.eq_of_getLsbD_eq fun k hk => ?_
  rw [BitVec.getLsbD_or, flagsByte_getLsbD _ hk, flagsByte_getLsbD _ hk]
  cases k with
  | zero => rfl
  | succ k => simp

theorem flagBit_eq (v : Bool) (n : Nat) : flagBit v n = v.toNat * 2 ^ n := by cases v <;> simp [flagBit]

theorem glareField_eq (v : Vector Bool 8) : byte (glareField v) = flagsByte v.toList := by
  have h := sum_zipIdx_eq_ofDigits 2 (v.toList.map Bool.toNat) 0
  rw [pow_zero, Nat.one_mul] at h
  rw [flagsByte, ← h, List.zipIdx_map, List.map_map, glareField]
  exact congrArg (fun f => byte (List.map f _).sum) (funext fun p => flagBit_eq p.1 p.2)

theorem LevelState.code_lt (x : LevelState) : x.code < 4 := by cases x <;> decide

theorem zoneStateField_eq (v : Vector LevelState 8) :
    zoneStateField v = Nat.ofDigits 4 (v.toList.map LevelState.code) := by
  have h := sum_zipIdx_eq_ofDigits 4 (v.toList.map LevelState.code) 0
  rw [pow_zero, Nat.one_mul] at h
  rw [← h, List.zipIdx_map, List.map_map, zoneStateField]
  rfl

/-- The zone-state field fits its two bytes, and zone k's code is read back from bits 2k and 2k + 1 (R72). -/
theorem zoneStateField_digit (v : Vector LevelState 8) (k : Fin 8) :
    fromLe (le16 (zoneStateField v)) / 4 ^ k.val % 4 = v[k].code := by
  have hcodes : ∀ x ∈ v.toList.map LevelState.code, x < 4 := fun x hx => by
    obtain ⟨y, -, rfl⟩ := List.mem_map.1 hx
    exact y.code_lt
  have hfits : zoneStateField v < 65536 := by
    have h := Nat.ofDigits_lt_base_pow_length (by decide) hcodes
    rwa [← zoneStateField_eq, List.length_map, Vector.length_toList] at h
  have hbytes : fromLe (le16 (zoneStateField v)) = zoneStateField v := by
    simpa [le16, fromLe] using le16_toNat hfits
  rw [hbytes, zoneStateField_eq, ofDigits_div_pow_mod hcodes]
  simp

/-! ### The header (R134) -/

/-- The eight flags of a header, bit 0 first. -/
def headerFlags (v : PictureValues) (isRepeat : Bool) : List Bool :=
  [isRepeat, v.patched, v.degraded, v.mismatch, v.clamped, v.strayOpen, v.longLines, v.shortLines]

section
variable (number : Word32) (kind : PictureKind) (f : PictureForm) (v : PictureValues) (isRepeat : Bool)

/-- The header's fields in R134's order, the flags as a list. -/
def headerFields : List (List Byte) :=
  [[0x4C, 0x56, 0x46, 0x48], word32Bytes number,
   [match kind with | .stream => 0 | .still _ => 1], [flagsByte (headerFlags v isRepeat)],
   [match kind with | .stream => 0 | .still tag => byte tag], [byte v.recipe.code], le16 f.width, le16 f.height,
   [byte f.format.code], [byte f.geometry.code], [byte v.depth], [byte v.photometric.code], le16 f.profileId,
   [headByte f.head], [byte ((f.source.map Fin.val).getD 255)], temperatureField v.temperature, le16 v.black,
   le16 v.timeF, le16 v.timeB, le16 v.levelF, le16 v.levelB, le16 (zoneStateField v.zoneStates),
   [byte (glareField v.glare)], [0], word32Bytes v.first, word32Bytes v.last, le16 f.cropX, le16 f.cropY,
   le16 v.patchedLines, List.replicate 10 0]

theorem headerBytes_eq_fields :
    headerBytes number kind f v isRepeat = (headerFields number kind f v isRepeat).flatten := by
  have hflags : flagsByte (headerFlags v isRepeat) = byte (flagBit isRepeat 0 + flagBit v.patched 1 +
      flagBit v.degraded 2 + flagBit v.mismatch 3 + flagBit v.clamped 4 + flagBit v.strayOpen 5 + flagBit v.longLines 6 +
      flagBit v.shortLines 7) := by
    simp only [flagsByte, headerFlags, List.map_cons, List.map_nil, Nat.ofDigits_cons, Nat.ofDigits_nil, flagBit_eq]
    congr 1
    ring
  unfold headerBytes headerFields
  simp only [hflags, List.append_assoc]
  rfl

@[simp] theorem headerBytes_length : (headerBytes number kind f v isRepeat).length = 64 := by
  rw [headerBytes_eq_fields]
  rfl

/-- A repeat's header differs from the first send's in bit 0 of byte 9 alone (R129). -/
theorem headerBytes_repeat : headerBytes number kind f v true =
    (headerBytes number kind f v false).set 9 (flagsByte (headerFlags v false) ||| 1) := by
  have hflags : flagsByte (headerFlags v true) = flagsByte (headerFlags v false) ||| 1 := flagsByte_set_first _
  rw [headerBytes_eq_fields, headerBytes_eq_fields, ← hflags]
  rfl

end

theorem PixelFormat.byte_code (x : PixelFormat) : byte x.code = if x = .toned8 then 0 else 1 := by cases x <;> rfl

theorem Geometry.byte_code (x : Geometry) : byte x.code = if x = .corrected then 0 else 1 := by cases x <;> rfl

theorem PhotoMode.byte_code (x : PhotoMode) : byte x.code = if x = .apply then 0 else 1 := by cases x <;> rfl

/-! ### The pixels (R135) -/

/-- The bytes of one pixel in a format. -/
def PixelFormat.pixelSize : PixelFormat → Nat
  | .toned8 => 1
  | .linear16 => 2

theorem pixelBytes_length (f : PixelFormat) (p : Nat) : (pixelBytes f p).length = f.pixelSize := by cases f <;> rfl

section
variable {x : Slot} {f : PictureForm} {v : PictureValues}

theorem Slot.frameBytes_eq (hf : x.form = some f) (hv : x.values = some v) (isRepeat : Bool) :
    x.frameBytes isRepeat =
      headerBytes x.number x.kind f v isRepeat ++ x.pixels.flatten.flatMap (pixelBytes f.format) := by
  simp only [Slot.frameBytes, hf, hv]

theorem Slot.frameLength_eq (hf : x.form = some f) :
    x.frameLength = 64 + f.format.pixelSize * (f.width * f.height) := by
  simp only [Slot.frameLength, hf]
  rfl

/-- A frame whose pixels fill its form has `frameLength` bytes, first send or repeat. -/
theorem Slot.frameBytes_length (hf : x.form = some f) (hv : x.values = some v) (hh : x.pixels.length = f.height)
    (hw : ∀ row ∈ x.pixels, row.length = f.width) (isRepeat : Bool) :
    (x.frameBytes isRepeat).length = x.frameLength := by
  have hpixels : x.pixels.flatten.length = f.height * f.width := by
    rw [List.length_flatten, List.sum_eq_card_nsmul _ f.width (by simpa using hw)]
    simp [hh]
  rw [Slot.frameBytes_eq hf hv, Slot.frameLength_eq hf, List.length_append, headerBytes_length, List.length_flatMap,
    List.sum_eq_card_nsmul _ f.format.pixelSize (by simp [pixelBytes_length]), List.length_map, hpixels, smul_eq_mul]
  ring

end

/-- Settles O25: each field read off the header's layout, the three packed fields by their digits, and the pixels' bytes. -/
theorem frameBytesLayout : Obligations.FrameBytesLayout := by
  intro x f v hf hv
  have hrepeat := headerBytes_repeat x.number x.kind f v
  have hfirst := Slot.frameBytes_eq hf hv false
  have hagain := Slot.frameBytes_eq hf hv true
  have htail : (x.frameBytes false).drop 64 = x.pixels.flatten.flatMap (pixelBytes f.format) := by
    rw [hfirst, List.drop_left' (headerBytes_length ..)]
  have hpixels : pixelBytes f.format = fun p => match f.format with
      | .toned8 => [byte p]
      | .linear16 => [byte p, byte (p / 256)] := by
    cases f.format <;> rfl
  have hbit {k : Nat} (hk : k < 8) := flagsByte_getLsbD (headerFlags v false) hk
  rw [← htail] at hagain
  rw [hpixels] at hfirst
  rw [headerBytes_eq_fields _ _ _ _ false] at hrepeat hfirst ⊢
  refine ⟨rfl, rfl, ?_, fun hk => ?_, fun tag hk => ?_, rfl, ?_, ?_, rfl, rfl, fun k => ?_,
    ⟨flagsByte v.glare.toList, ?_, fun k => ?_⟩, rfl, rfl, hfirst, hagain,
    fun hh hw => Slot.frameBytes_length hf hv hh hw false,
    flagsByte (headerFlags v false), rfl, hbit (by decide), hbit (by decide), hbit (by decide), hbit (by decide),
    hbit (by decide), hbit (by decide), hbit (by decide), hbit (by decide), hrepeat⟩
  · cases x.kind <;> rfl
  · rw [hk]; rfl
  · rw [hk]; rfl
  · rw [← PixelFormat.byte_code, ← Geometry.byte_code]; rfl
  · rw [← PhotoMode.byte_code]; rfl
  · refine (zoneStateField_digit v.zoneStates k).trans ?_
    cases v.zoneStates[k] <;> rfl
  · rw [← glareField_eq]; rfl
  · rw [flagsByte_getLsbD _ k.isLt]
    simp

end Sys2Proof.Machine
end

section
namespace Sys2Proof.Machine

/-! ## Sends (R127, R129, R130) -/

/-! ### The start of a send -/

/-- With the port idle the head of the ready order starts to be sent, and leaves the order (R127). -/
theorem Output.sendHead_idle {o : Output} {i : Fin 4} {rest : List (Fin 4)} (hs : o.send = none)
    (hr : o.readyOrder = i :: rest) : o.sendHead = { o with
      slots := o.slots.set i { o.slots[i] with state := .sending }, readyOrder := rest.filter (· ≠ i),
      send := some { slot := i, isRepeat := false, taken := 0 } } := by
  simp [Output.sendHead, hs, hr, Output.begin, Output.setSlotState]

theorem Output.sendHead_busy {o : Output} (h : o.send.isSome = true) : o.sendHead = o := by
  obtain ⟨snd, hs⟩ := Option.isSome_iff_exists.1 h
  simp only [Output.sendHead, hs]

theorem Output.sendHead_nothing {o : Output} (h : o.readyOrder = []) : o.sendHead = o := by
  unfold Output.sendHead
  split
  · simp_all
  · rfl

theorem exec_sendStart_onDemand {s : State} (h : s.ofq.sendMode = .onDemand) :
    exec .sendStart s = .next (s.setOfq s.ofq.sendHead) := if_pos h

theorem exec_sendStart_fixedRate {s : State} (h : s.ofq.sendMode = .fixedRate) : exec .sendStart s = .next s :=
  if_neg (by simp [h])

/-! ### The completion of a send -/

theorem Output.sent_onDemand {o : Output} (i : Fin 4) (h : o.sendMode = .onDemand) :
    o.sent i = { o.free i with send := none } := by
  simp only [Output.sent, h]

/-- The queue in FIXED_RATE mode with every HELD slot but the one just sent made FREE (R130). -/
def Output.freeOtherHeld (o : Output) (i : Fin 4) : Output :=
  match o.heldSlot with
  | some h => if h = i then o else o.free h
  | none => o

theorem Output.sent_fixedRate {o : Output} (i : Fin 4) (h : o.sendMode = .fixedRate) :
    o.sent i = { (o.freeOtherHeld i).setSlotState i .held with send := none } := by
  simp only [Output.sent, h]
  rfl

theorem Output.freeOtherHeld_cases (o : Output) (i : Fin 4) :
    (o.freeOtherHeld i = o ∧ ∀ h, o.heldSlot = some h → h = i) ∨
      ∃ h, o.heldSlot = some h ∧ h ≠ i ∧ o.freeOtherHeld i = o.free h := by
  unfold Output.freeOtherHeld
  cases hh : o.heldSlot with
  | none => simp
  | some h =>
    by_cases hi : h = i
    · simp [hi]
    · simp [hi]

@[simp] theorem Output.free_slot (o : Output) (i : Fin 4) : (o.free i).slots[i] = Slot.blank := by
  simp [Output.free]

theorem Output.free_slot_of_ne (o : Output) {i k : Fin 4} (h : k ≠ i) : (o.free i).slots[k] = o.slots[k] := by
  simp [Output.free, Fin.val_inj, h.symm]

@[simp] theorem Output.setSlotState_slot (o : Output) (i : Fin 4) (st : SlotState) :
    (o.setSlotState i st).slots[i] = { o.slots[i] with state := st } := by
  simp [Output.setSlotState]

theorem Output.setSlotState_slot_of_ne (o : Output) {i k : Fin 4} (st : SlotState) (h : k ≠ i) :
    (o.setSlotState i st).slots[k] = o.slots[k] := by
  simp [Output.setSlotState, Fin.val_inj, h.symm]

/-- After a completion the port is idle and the ready order as it was. -/
theorem Output.sent_idle (o : Output) (i : Fin 4) : (o.sent i).send = none ∧ (o.sent i).readyOrder = o.readyOrder := by
  cases hm : o.sendMode with
  | onDemand => rw [Output.sent_onDemand i hm]; exact ⟨rfl, rfl⟩
  | fixedRate =>
    rw [Output.sent_fixedRate i hm]
    rcases o.freeOtherHeld_cases i with ⟨h, -⟩ | ⟨k, -, -, h⟩ <;> rw [h] <;> exact ⟨rfl, rfl⟩

/-- In FIXED_RATE mode the slot sent is HELD with its picture, and another slot that was HELD is FREE (R130). -/
theorem Output.sent_held {o : Output} (i : Fin 4) (hm : o.sendMode = .fixedRate) :
    (o.sent i).slots[i] = { o.slots[i] with state := .held } ∧
      ∀ h, o.heldSlot = some h → h ≠ i → (o.sent i).slots[h] = Slot.blank := by
  rw [Output.sent_fixedRate i hm]
  simp only [Output.setSlotState_slot]
  rcases o.freeOtherHeld_cases i with ⟨he, hi⟩ | ⟨k, hk, hki, he⟩ <;> rw [he]
  · exact ⟨rfl, fun h hh hne => absurd (hi h hh) hne⟩
  · refine ⟨by rw [Output.free_slot_of_ne _ hki.symm], fun h hh hne => ?_⟩
    obtain rfl : k = h := Option.some.inj (hk.symm.trans hh)
    rw [Output.setSlotState_slot_of_ne _ _ hne, Output.free_slot]

@[simp] theorem completeSend_ofq (snd : Send) (s : State) : (completeSend snd s).ofq = s.ofq.sent snd.slot := by
  simp only [completeSend]
  split
  · simp [finishStill, raise]
  · rfl

/-- The first send of a still ends the still: STILL_DONE is raised and its tag released (R111, R130). -/
theorem completeSend_still {snd : Send} {s : State} {tag : Nat} (hk : s.ofq.slots[snd.slot].kind = .still tag)
    (hr : snd.isRepeat = false) :
    completeSend snd s = pump (finishStill tag (s.setOfq (s.ofq.sent snd.slot))) := by
  simp only [completeSend, hk, hr]

theorem finishStill_releases (tag : Nat) (s : State) : ∀ a ∈ (finishStill tag s).csq.later, a.req.tag ≠ tag := by
  intro a ha
  have ha : a ∈ s.csq.later.filter fun a => a.req.tag ≠ tag := ha
  simpa using (List.mem_filter.1 ha).2

theorem finishStill_latched (tag : Nat) {s : State} (h : s.cdu.riseEn.getLsbD 10 = true) :
    (finishStill tag s).cdu.latches.getLsbD 10 = true :=
  raise_latched (src := .stillDone) h

/-! ### The commands of the modem -/

section
variable {s : State} {snd : Send}

theorem exec_sendComplete (h : s.ofq.send = some snd) : exec .sendComplete s = .next (completeSend snd s) := by
  simp only [exec, execSendComplete, h]

theorem exec_modemReady_more (h : s.ofq.send = some snd) (hl : snd.taken + 1 < s.ofq.slots[snd.slot].frameLength) :
    exec .modemReady s = .next (s.setOfq { s.ofq with send := some { snd with taken := snd.taken + 1 } }) := by
  simp only [exec, execModemReady, h, if_pos hl]

theorem exec_modemReady_last (h : s.ofq.send = some snd) (hl : s.ofq.slots[snd.slot].frameLength ≤ snd.taken + 1) :
    exec .modemReady s = .next (completeSend snd s) := by
  simp only [exec, execModemReady, h, if_neg (Nat.not_lt.2 hl)]

theorem presentedByte_sending (h : s.ofq.send = some snd) :
    presentedByte s = (s.ofq.slots[snd.slot].frameBytes snd.isRepeat)[snd.taken]? := by
  simp only [presentedByte, h]

end

/-- Settles O24: the start by the mode and the port, the modem's commands by the bytes left, and the bytes presented by the
length of the frame. -/
theorem sendsRunToLastByte : Obligations.SendsRunToLastByte := by
  refine ⟨fun s => ⟨fun i rest hm hs hr => ?_, fun h => ?_⟩, fun s => ⟨fun hs => ?_, fun snd hs => ⟨fun hl => ?_,
    fun hl => ?_, ?_⟩⟩, fun s => ⟨fun hs => ?_, fun snd f v hs hf hv hh hw hl => ?_⟩⟩
  · rw [exec_sendStart_onDemand hm, Output.sendHead_idle hs hr]
  · cases hm : s.ofq.sendMode with
    | fixedRate => exact exec_sendStart_fixedRate hm
    | onDemand =>
      have hhead : s.ofq.sendHead = s.ofq := by
        rcases h with h | h | h
        · simp [hm] at h
        · exact Output.sendHead_busy h
        · exact Output.sendHead_nothing h
      rw [exec_sendStart_onDemand hm, hhead, State.setOfq_self]
  · simp only [exec, execModemReady, execSendComplete, hs, and_self]
  · exact exec_modemReady_more hs hl
  · rw [exec_modemReady_last hs hl, exec_sendComplete hs]
  · refine ⟨_, exec_sendComplete hs, ?_⟩
    rw [completeSend_ofq]
    obtain ⟨hidle, horder⟩ := s.ofq.sent_idle snd.slot
    refine ⟨hidle, horder, fun hm => ?_, fun hm => ?_, fun tag hk hr => ?_⟩
    · rw [Output.sent_onDemand _ hm]
      exact congrArg Slot.state (Output.free_slot ..)
    · obtain ⟨hsent, hother⟩ := Output.sent_held snd.slot hm
      exact ⟨by rw [hsent], by rw [hsent], fun h hh hne => congrArg Slot.state (hother h hh hne)⟩
    · rw [completeSend_still hk hr]
      refine ⟨?_, fun hrise => ?_⟩
      · simpa using finishStill_releases tag _
      · rw [pump_latches]
        exact finishStill_latched tag hrise
  · simp only [presentedByte, hs]
  · have hlen : snd.taken < (s.ofq.slots[snd.slot].frameBytes snd.isRepeat).length := by
      rwa [Slot.frameBytes_length hf hv hh hw]
    have hbyte := List.getElem?_eq_getElem hlen
    refine ⟨_, (presentedByte_sending hs).trans hbyte, hbyte, fun t ht hmore => ?_⟩
    rw [exec_modemReady_more hs hmore] at ht
    cases ht
    exact presentedByte_sending (s := s.setOfq { s.ofq with send := some { snd with taken := snd.taken + 1 } }) rfl

end Sys2Proof.Machine
end

section
namespace Sys2Proof.Machine

/-! ## PSET of SEND_MODE, the masks and NOTICE_EN (R131, R170, R171) -/

/-! ### Served PSETs of any style -/

section
variable {i : Instr} {p : Param} {bank style : Byte} {v : Word32} {s : State}

/-- A served PSET command with a row of its own: the checks and the parameter's owner answer, and the transmitter goes on with
the reply composed. -/
theorem exec_psetRow (hs : Served i s) (hq : requestOf i = some (psetRequest p bank style (word32Bytes v)))
    (hw : i.wellFormed = true) (hl : p ≠ .label) : ∃ hold,
      let u := s.setCml { s.cml with holding := hold }
      let a := checkPset p bank style (word32Bytes v) u
      exec i s = .next (pump (composeReply (psetRequest p bank style (word32Bytes v)) a.1 a.2)) := by
  obtain ⟨⟨q, hq', ht⟩, hup⟩ := hs
  obtain rfl : psetRequest p bank style (word32Bytes v) = q := Option.some.inj (hq.symm.trans hq')
  have hlen : lengthOk (psetRequest p bank style (word32Bytes v)) = true :=
    lengthOk_psetWord (Param.ofCode_code p) hl bank v
  obtain ⟨hold, he⟩ := serve_eq (owner := checkPset p bank style (word32Bytes v)) ht rfl hlen (.inl hup)
  refine ⟨hold, ?_⟩
  rw [exec_pset hw hq, ← servePset_eq]
  exact congrArg _ he

/-- A PSET whose style the parameter takes, with a value of four bytes, goes to the owner of a parameter of the part. -/
theorem checkPset_word {st : UpdateStyle} (hl : p ≠ .label) (hb : p.perBank = false)
    (hst : UpdateStyle.ofByte style = some st) (hmask : st = .write ∨ p.isMask = true) (u : State) :
    checkPset p bank style (word32Bytes v) u =
      writeParam p ((bankOfByte bank).getD .flood) st (word32Bytes v) u := by
  have hw : psetWidthOk (byte p.code) (word32Bytes v).length = true := by
    simp [psetWidthOk, Param.ofCode_code, hl, word32Bytes, le32]
  have hstyle : ¬(st ≠ .write ∧ p.isMask = false) := fun ⟨hne, hno⟩ => by
    rcases hmask with h | h
    · exact hne h
    · simp [h] at hno
  simp only [checkPset, hst]
  rw [if_neg (by simp [hb]), if_neg hstyle, if_pos hw]

/-- A PSET answered by an owner that accepts it. -/
theorem answers_psetStyled {s' : State} {st : UpdateStyle} {r : Status} {data : List Byte} (hs : Served i s)
    (hq : requestOf i = some (psetRequest p bank style (word32Bytes v))) (hw : i.wellFormed = true) (hl : p ≠ .label)
    (hb : p.perBank = false) (hst : UpdateStyle.ofByte style = some st) (hmask : st = .write ∨ p.isMask = true)
    (ho : ∀ b l, (writeParam p b st (word32Bytes v) (s.setCml l)).1 = ⟨r, data⟩ ∧
      outsideLink (writeParam p b st (word32Bytes v) (s.setCml l)).2 = outsideLink s') :
    Answers i 0x04 r data s s' := by
  obtain ⟨hold, he⟩ := exec_psetRow hs hq hw hl
  obtain ⟨hreply, houtside⟩ := ho ((bankOfByte bank).getD .flood) { s.cml with holding := hold }
  simp only [checkPset_word hl hb hst hmask, hreply] at he
  exact ⟨_, he, newestReply_composed _ _ _, by simpa using houtside⟩

/-- A served PSET of a setting that takes a value of a set: the part between the composing of the reply and the transmitter's
choice. -/
theorem exec_psetChoice {α : Type} {choice : Option α} {put : α → State → State} {a : α} (hs : Served i s)
    (hq : requestOf i = some (psetRequest p bank 0 (word32Bytes v))) (hw : i.wellFormed = true) (hl : p ≠ .label)
    (hb : p.perBank = false) (hc : ∀ b u, writeParam p b .write (word32Bytes v) u = storeChoice choice v.toInt put u)
    (ha : choice = some a) : ∃ hold, exec i s = .next (pump (composeReply (psetRequest p bank 0 (word32Bytes v))
      ⟨.ok, le32s v.toInt⟩ (put a (s.setCml { s.cml with holding := hold })))) := by
  obtain ⟨hold, he⟩ := exec_psetRow hs hq hw hl
  refine ⟨hold, he.trans ?_⟩
  rw [checkPset_word hl hb rfl (.inl rfl), hc, ha]
  rfl

/-- A value outside the set of a setting is refused. -/
theorem answers_psetChoice_refused {α : Type} {choice : Option α} {put : α → State → State} (hs : Served i s)
    (hq : requestOf i = some (psetRequest p bank 0 (word32Bytes v))) (hw : i.wellFormed = true) (hl : p ≠ .label)
    (hb : p.perBank = false) (hc : ∀ b u, writeParam p b .write (word32Bytes v) u = storeChoice choice v.toInt put u)
    (ha : choice = none) : Answers i 0x04 .badParam [] s s :=
  answers_psetStyled hs hq hw hl hb rfl (.inl rfl) fun b l => by
    rw [hc, ha]
    exact ⟨rfl, rfl⟩

end

theorem le32s_toInt (v : Word32) : le32s v.toInt = word32Bytes v := by
  rw [le32s, word32Bytes, BitVec.ofInt_toInt]

theorem twoWay_none {α : Type} (zero one : α) {v : Word32} (h0 : v ≠ 0) (h1 : v ≠ 1) : twoWay zero one v.toInt = none :=
  (if_neg (toInt_ne h0)).trans (if_neg (toInt_ne h1))

/-! ### The masks (R170) -/

section
variable {st : UpdateStyle} {old : Word16} {v : Word32} {put : Word16 → State → State} {s : State}

theorem toInt_of_le_mask (h : v.toNat ≤ 0xFFFF) : v.toInt = v.toNat := by
  rw [BitVec.toInt_eq_toNat_cond, if_pos (by omega)]

theorem storeMask_accepted (h : v.toNat ≤ 0xFFFF) : storeMask st old v.toInt put s =
    accept (le32 (styled st old (v.setWidth 16)).toNat) (put (styled st old (v.setWidth 16)) s) := by
  have hmask : BitVec.ofInt 16 v.toInt = v.setWidth 16 := by
    rw [toInt_of_le_mask h, BitVec.ofInt_natCast, BitVec.ofNat_toNat]
  have hbytes (m : Word16) : le32s m.toNat = le32 m.toNat := by
    rw [le32s, BitVec.ofInt_natCast, BitVec.toNat_ofNat, Nat.mod_eq_of_lt (by omega)]
  have hrange : 0 ≤ v.toInt ∧ v.toInt ≤ 65535 := by
    rw [toInt_of_le_mask h]
    omega
  rw [storeMask, if_pos hrange, hmask, hbytes]

theorem storeMask_refused (h : 0xFFFF < v.toNat) : storeMask st old v.toInt put s = refuse .badParam s := by
  refine if_neg ?_
  rw [BitVec.toInt_eq_toNat_cond]
  split <;> omega

end

/-- The answers to a PSET of a mask: the style's mask of the one held and the one sent is stored, and no other field changes. -/
theorem answers_mask {i : Instr} {p : Param} {bank style : Byte} {v : Word32} {s : State} {st : UpdateStyle}
    {old : Word16} {put : Word16 → State → State} (hs : Served i s)
    (hq : requestOf i = some (psetRequest p bank style (word32Bytes v))) (hw : i.wellFormed = true)
    (hp : p.isMask = true) (hl : p ≠ .label) (hb : p.perBank = false) (hst : UpdateStyle.ofByte style = some st)
    (hm : ∀ b l, writeParam p b st (word32Bytes v) (s.setCml l) = storeMask st old v.toInt put (s.setCml l))
    (hput : ∀ m l, outsideLink (put m (s.setCml l)) = outsideLink (put m s)) :
    (v.toNat ≤ 0xFFFF → Answers i 0x04 .ok (le32 (styled st old (v.setWidth 16)).toNat) s
      (put (styled st old (v.setWidth 16)) s)) ∧
    (0xFFFF < v.toNat → Answers i 0x04 .badParam [] s s) := by
  refine ⟨fun h => answers_psetStyled hs hq hw hl hb hst (.inr hp) fun b l => ?_,
    fun h => answers_psetStyled hs hq hw hl hb hst (.inr hp) fun b l => ?_⟩
  · rw [hm, storeMask_accepted h]
    exact ⟨rfl, hput _ l⟩
  · rw [hm, storeMask_refused h]
    exact ⟨rfl, rfl⟩

/-- Each style byte of a mask's PSET names a style, and the style the mask that is stored (R170). -/
theorem style_of_byte {style : Byte} {mask : Word16 → Word16 → Word16}
    (h : (style = 0 ∧ mask = fun _ new => new) ∨ (style = 1 ∧ mask = fun old new => old ||| new) ∨
      (style = 2 ∧ mask = fun old new => old &&& ~~~new)) :
    ∃ st, UpdateStyle.ofByte style = some st ∧ mask = styled st := by
  rcases h with ⟨rfl, rfl⟩ | ⟨rfl, rfl⟩ | ⟨rfl, rfl⟩
  · exact ⟨.write, rfl, rfl⟩
  · exact ⟨.set, rfl, rfl⟩
  · exact ⟨.clear, rfl, rfl⟩

/-! ### SEND_MODE (R131) -/

/-- The queue with its HELD slot, if any, made FREE. -/
def Output.withoutHeld (o : Output) : Output :=
  match o.heldSlot with
  | some h => o.free h
  | none => o

theorem Output.changeMode_same {o : Output} {m : SendMode} (h : o.sendMode = m) : o.changeMode m = o := if_pos h

theorem Output.changeMode_fixedRate {o : Output} (h : o.sendMode = .onDemand) :
    o.changeMode .fixedRate = { o with sendMode := .fixedRate, periodTimer := some o.sendPeriod } :=
  if_neg (by simp [h])

theorem Output.changeMode_onDemand {o : Output} (h : o.sendMode = .fixedRate) : o.changeMode .onDemand =
    (Output.withoutHeld { o with sendMode := .onDemand, periodTimer := none }).sendHead :=
  if_neg (by simp [h])

theorem Output.withoutHeld_keeps (o : Output) : o.withoutHeld.sendMode = o.sendMode ∧
    o.withoutHeld.periodTimer = o.periodTimer ∧ o.withoutHeld.send = o.send ∧
    o.withoutHeld.readyOrder = o.readyOrder := by
  unfold Output.withoutHeld
  split <;> exact ⟨rfl, rfl, rfl, rfl⟩

theorem Output.withoutHeld_slot {o : Output} {h : Fin 4} (hh : o.heldSlot = some h) :
    o.withoutHeld.slots[h] = Slot.blank := by
  simp only [Output.withoutHeld, hh, Output.free_slot]

theorem Output.sendHead_keeps (o : Output) :
    o.sendHead.sendMode = o.sendMode ∧ o.sendHead.periodTimer = o.periodTimer := by
  unfold Output.sendHead
  split <;> exact ⟨rfl, rfl⟩

/-- What the start of the head's send does to a slot: it is as it was, or was the head of the ready order and is SENDING. -/
theorem Output.sendHead_slot (o : Output) (k : Fin 4) :
    o.sendHead.slots[k] = o.slots[k] ∨ (k ∈ o.readyOrder ∧ o.sendHead.slots[k].state = .sending) := by
  cases hs : o.send with
  | some snd => exact .inl (by rw [Output.sendHead_busy (by simp [hs])])
  | none =>
    cases hr : o.readyOrder with
    | nil => exact .inl (by rw [Output.sendHead_nothing hr])
    | cons i rest =>
      rw [Output.sendHead_idle hs hr]
      by_cases hk : k = i
      · subst hk
        exact .inr ⟨List.mem_cons_self, by simp⟩
      · exact .inl (by simp [Fin.val_inj, Ne.symm hk])

/-- The queue at a change from FIXED_RATE to ON_DEMAND: the timer stops, the HELD slot is FREE, and with the port idle the head of
the ready order is sent (R131). -/
theorem Output.changeMode_onDemand_spec {o : Output} (hm : o.sendMode = .fixedRate) :
    (o.changeMode .onDemand).sendMode = .onDemand ∧ (o.changeMode .onDemand).periodTimer = none ∧
    (∀ h, o.heldSlot = some h → (o.changeMode .onDemand).slots[h].state ≠ .held ∧
      (h ∉ o.readyOrder → (o.changeMode .onDemand).slots[h].state = .free)) ∧
    (o.send.isSome = true → (o.changeMode .onDemand).send = o.send) ∧
    (∀ i rest, o.send = none → o.readyOrder = i :: rest →
      (o.changeMode .onDemand).send = some { slot := i, isRepeat := false, taken := 0 } ∧
        (o.changeMode .onDemand).slots[i].state = .sending) ∧
    (o.send = none → o.readyOrder = [] → (o.changeMode .onDemand).send = none) := by
  rw [Output.changeMode_onDemand hm]
  obtain ⟨hmode, htimer, hsend, hready⟩ :=
    Output.withoutHeld_keeps { o with sendMode := .onDemand, periodTimer := none }
  have hheld {h : Fin 4} (hh : o.heldSlot = some h) :=
    Output.withoutHeld_slot (o := { o with sendMode := .onDemand, periodTimer := none }) hh
  generalize Output.withoutHeld { o with sendMode := .onDemand, periodTimer := none } = u at *
  obtain ⟨hmode', htimer'⟩ := u.sendHead_keeps
  refine ⟨hmode'.trans hmode, htimer'.trans htimer, fun h hh => ?_, fun hs => ?_, fun i rest hs hr => ?_, fun hs hr => ?_⟩
  · rcases u.sendHead_slot h with hslot | ⟨hmem, hslot⟩
    · rw [hslot, hheld hh]
      exact ⟨by decide, fun _ => rfl⟩
    · exact ⟨by rw [hslot]; decide, fun hno => absurd (hready ▸ hmem) hno⟩
  · rw [Output.sendHead_busy (by rwa [hsend]), hsend]
  · rw [Output.sendHead_idle (hsend.trans hs) (hready.trans hr)]
    exact ⟨rfl, by simp⟩
  · rw [Output.sendHead_nothing (hready.trans hr), hsend]
    exact hs

section
variable {bank : Byte} {v : Word32} {s : State} {m : SendMode}

theorem writeParam_sendMode (b : Bank) (u : State) : writeParam .sendMode b .write (word32Bytes v) u =
    storeChoice (twoWay SendMode.onDemand .fixedRate v.toInt) v.toInt (fun m s => s.setOfq (s.ofq.changeMode m)) u := by
  rw [← fromLe32s_word32Bytes v]
  rfl

theorem exec_psetSendMode (hs : Served (.psetSendMode bank 0 v) s)
    (hm : twoWay SendMode.onDemand .fixedRate v.toInt = some m) : ∃ t, exec (.psetSendMode bank 0 v) s = .next t ∧
      newestReply t = some (replyFrame 0x04 .ok (word32Bytes v)) ∧ t.ofq = s.ofq.changeMode m ∧
      outsideLink t = outsideLink (s.setOfq (s.ofq.changeMode m)) := by
  obtain ⟨hold, he⟩ := exec_psetChoice hs rfl rfl (by decide) rfl writeParam_sendMode hm
  rw [le32s_toInt] at he
  refine ⟨_, he, newestReply_composed _ _ _, by simp, ?_⟩
  rw [outsideLink_pump]
  rfl

/-- A write of the mode in force is answered and changes nothing (R131). -/
theorem answers_psetSendMode_same (hs : Served (.psetSendMode bank 0 v) s)
    (hv : twoWay SendMode.onDemand .fixedRate v.toInt = some m) (hm : s.ofq.sendMode = m) :
    Answers (.psetSendMode bank 0 v) 0x04 .ok (word32Bytes v) s s := by
  obtain ⟨t, he, hreply, -, hout⟩ := exec_psetSendMode hs hv
  rw [Output.changeMode_same hm, State.setOfq_self] at hout
  exact ⟨t, he, hreply, hout⟩

end

/-! ### NOTICE_EN (R171, R177) -/

theorem Conditions.setNotice_same {c : Conditions} {on : Bool} (h : c.noticeEn = on) : c.setNotice on = c := if_pos h

theorem Conditions.setNotice_off {c : Conditions} (h : c.noticeEn = true) :
    c.setNotice false = { c with noticeEn := false, noticePending := false } :=
  if_neg (by simp [h])

theorem Conditions.setNotice_on {c : Conditions} (h : c.noticeEn = false) :
    c.setNotice true = { c with noticeEn := true, noticePending := c.noticePending || decide (c.latches ≠ 0) } :=
  if_neg (by simp [h])

/-- A frame being sent is sent to its end (R177). -/
theorem pump_sending {s : State} {x : Sending} (h : s.cml.tx = some x) : pump s = s := by
  simp only [pump, h]

/-- An idle transmitter sends the pending notice at once (R171). -/
theorem pump_pending {s : State} (ht : s.cml.tx = none) (hn : s.cdu.noticePending = true) :
    (pump s).cdu.noticePending = false ∧ (pump s).cml.tx = some (.notice (noticeFrame s)) := by
  simp only [pump, ht, hn, if_true]
  exact ⟨rfl, rfl⟩

/-- With no notice pending none is made, and an idle transmitter sends none. -/
theorem pump_notPending {s : State} (hn : s.cdu.noticePending = false) : (pump s).cdu.noticePending = false ∧
    (s.cml.tx = none → ∀ f, (pump s).cml.tx ≠ some (.notice f)) := by
  rcases pump_cases s with h | ⟨-, hp, -⟩ | ⟨-, -, f, b, rest, -, h⟩
  · rw [h]
    exact ⟨hn, fun ht f => by simp [ht]⟩
  · simp [hn] at hp
  · rw [h]
    exact ⟨hn, fun _ f => by simp⟩

/-- A PSET of NOTICE_EN accepted: `w` is the part with the reply composed, before the transmitter's choice. -/
structure NoticeWritten (on : Bool) (s w : State) : Prop where
  cdu : w.cdu = s.cdu.setNotice on
  tx : w.cml.tx = s.cml.tx
  csq : w.csq = s.csq
  outside : outsideLink w = outsideLink (s.setCdu (s.cdu.setNotice on))

theorem writeParam_noticeEn {v : Word32} (b : Bank) (u : State) : writeParam .noticeEn b .write (word32Bytes v) u =
    storeChoice (twoWay false true v.toInt) v.toInt (fun on s => s.setCdu (s.cdu.setNotice on)) u := by
  rw [← fromLe32s_word32Bytes v]
  rfl

section
variable {bank : Byte} {v : Word32} {s w : State} {on : Bool}

theorem exec_psetNoticeEn (hs : Served (.psetNoticeEn bank 0 v) s) (hv : twoWay false true v.toInt = some on) :
    ∃ w, exec (.psetNoticeEn bank 0 v) s = .next (pump w) ∧
      newestReply (pump w) = some (replyFrame 0x04 .ok (word32Bytes v)) ∧ NoticeWritten on s w := by
  obtain ⟨hold, he⟩ := exec_psetChoice hs rfl rfl (by decide) rfl writeParam_noticeEn hv
  rw [le32s_toInt] at he
  exact ⟨_, he, newestReply_composed _ _ _, rfl, rfl, rfl, rfl⟩

/-- A frame being sent when NOTICE_EN is written goes on (R177). -/
theorem NoticeWritten.sending (h : NoticeWritten on s w) {x : Sending} (hx : s.cml.tx = some x) :
    pump w = w ∧ (pump w).cml.tx = some x := by
  have hx' : w.cml.tx = some x := h.tx.trans hx
  rw [pump_sending hx']
  exact ⟨rfl, hx'⟩

/-- The value NOTICE_EN holds changes nothing. -/
theorem answers_psetNoticeEn_same (hs : Served (.psetNoticeEn bank 0 v) s) (hv : twoWay false true v.toInt = some on)
    (hn : s.cdu.noticeEn = on) : Answers (.psetNoticeEn bank 0 v) 0x04 .ok (word32Bytes v) s s := by
  obtain ⟨w, he, hreply, hw⟩ := exec_psetNoticeEn hs hv
  have hout := hw.outside
  rw [Conditions.setNotice_same hn, State.setCdu_self] at hout
  exact ⟨_, he, hreply, (outsideLink_pump w).trans hout⟩

/-- Turned off, NOTICE_EN cancels the pending notice, and an idle transmitter sends none. -/
theorem NoticeWritten.turnedOff (h : NoticeWritten false s w) (hn : s.cdu.noticeEn = true) :
    outsideLink (pump w) = outsideLink (s.setCdu { s.cdu with noticeEn := false }) ∧
      (pump w).cdu.noticePending = false ∧ (s.cml.tx = none → ∀ f, (pump w).cml.tx ≠ some (.notice f)) := by
  obtain ⟨hcdu, htx, -, hout⟩ := h
  rw [Conditions.setNotice_off hn] at hcdu hout
  obtain ⟨hpending, hnone⟩ := pump_notPending (s := w) (by rw [hcdu])
  exact ⟨(outsideLink_pump w).trans hout, hpending, fun ht => hnone (htx.trans ht)⟩

theorem NoticeWritten.turnedOn_outside (h : NoticeWritten true s w) (hn : s.cdu.noticeEn = false) :
    outsideLink (pump w) = outsideLink (s.setCdu { s.cdu with noticeEn := true }) := by
  rw [outsideLink_pump, h.outside, Conditions.setNotice_on hn]
  rfl

/-- Turned on with a latch set, NOTICE_EN makes a notice pending, which an idle transmitter sends at once. -/
theorem NoticeWritten.turnedOn_latched (h : NoticeWritten true s w) (hn : s.cdu.noticeEn = false)
    (hl : s.cdu.latches ≠ 0) :
    (s.cml.tx ≠ none → (pump w).cdu.noticePending = true) ∧
    (s.cml.tx = none → (pump w).cdu.noticePending = false ∧ (pump w).cml.tx = some (.notice ⟨0x60,
      le16 s.cdu.latches.toNat ++ le16 s.cdu.live.toNat ++ [byte (seqCode s.csq.state)]⟩)) := by
  have hcdu := h.cdu
  rw [Conditions.setNotice_on hn] at hcdu
  have hpending : w.cdu.noticePending = true := by
    rw [hcdu]
    exact (Bool.or_eq_true _ _).mpr (.inr (decide_eq_true hl))
  refine ⟨fun hbusy => ?_, fun hidle => ?_⟩
  · obtain ⟨x, hx⟩ := Option.ne_none_iff_exists'.1 hbusy
    rw [(h.sending hx).1, hpending]
  · obtain ⟨hcleared, hsent⟩ := pump_pending (h.tx.trans hidle) hpending
    rw [noticeFrame, hcdu, h.csq] at hsent
    exact ⟨hcleared, hsent⟩

/-- Turned on with no latch set, NOTICE_EN makes no notice. -/
theorem NoticeWritten.turnedOn_clear (h : NoticeWritten true s w) (hn : s.cdu.noticeEn = false)
    (hl : s.cdu.latches = 0) (hp : s.cdu.noticePending = false) :
    (pump w).cdu.noticePending = false ∧ (s.cml.tx = none → ∀ f, (pump w).cml.tx ≠ some (.notice f)) := by
  have hcdu := h.cdu
  rw [Conditions.setNotice_on hn] at hcdu
  obtain ⟨hclear, hnone⟩ := pump_notPending (s := w) (by simp [hcdu, hl, hp])
  exact ⟨hclear, fun ht => hnone (h.tx.trans ht)⟩

end

/-- Settles O51: the mode by what its change does to the queue, the masks by their styles, and NOTICE_EN by what the
transmitter then chooses. -/
theorem psetSendModeAndMasks : Obligations.PsetSendModeAndMasks := by
  refine fun s bank v => ⟨fun hs => ⟨?_, ?_, ?_, fun h0 h1 => answers_psetChoice_refused hs rfl rfl (by decide) rfl
    writeParam_sendMode (twoWay_none _ _ h0 h1)⟩, fun style mask hstyle => ?_, fun hs => ⟨?_, ?_, ?_,
    fun h0 h1 => answers_psetChoice_refused hs rfl rfl (by decide) rfl writeParam_noticeEn (twoWay_none _ _ h0 h1)⟩⟩
  · rintro rfl hm
    obtain ⟨t, he, hreply, -, hout⟩ := exec_psetSendMode (m := .fixedRate) hs rfl
    rw [Output.changeMode_fixedRate hm] at hout
    exact ⟨t, he, hreply, hout⟩
  · rintro (⟨rfl, hm⟩ | ⟨rfl, hm⟩)
    · exact answers_psetSendMode_same hs rfl hm
    · exact answers_psetSendMode_same hs rfl hm
  · rintro rfl hm
    obtain ⟨t, he, hreply, hofq, -⟩ := exec_psetSendMode (m := .onDemand) hs rfl
    refine ⟨t, he, hreply, ?_⟩
    rw [hofq]
    exact Output.changeMode_onDemand_spec hm
  · obtain ⟨st, hst, rfl⟩ := style_of_byte hstyle
    refine ⟨fun hs => ?_, fun hs => ?_⟩
    · exact answers_mask (p := .riseEn) (put := fun m s => s.setCdu { s.cdu with riseEn := m }) hs rfl rfl rfl (by decide)
        rfl hst (fun b l => by rw [← fromLe32s_word32Bytes v]; rfl) fun _ _ => rfl
    · exact answers_mask (p := .fallEn) (put := fun m s => s.setCdu { s.cdu with fallEn := m }) hs rfl rfl rfl (by decide)
        rfl hst (fun b l => by rw [← fromLe32s_word32Bytes v]; rfl) fun _ _ => rfl
  · rintro rfl hon
    obtain ⟨w, he, hreply, hw⟩ := exec_psetNoticeEn (on := false) hs rfl
    obtain ⟨hout, hpending, hnone⟩ := hw.turnedOff hon
    exact ⟨_, he, ⟨hreply, hout⟩, hpending, fun x hx => (hw.sending hx).2, hnone⟩
  · rintro rfl hoff
    obtain ⟨w, he, hreply, hw⟩ := exec_psetNoticeEn (on := true) hs rfl
    exact ⟨_, he, ⟨hreply, hw.turnedOn_outside hoff⟩, fun x hx => (hw.sending hx).2, hw.turnedOn_latched hoff,
      hw.turnedOn_clear hoff⟩
  · rintro (⟨rfl, hn⟩ | ⟨rfl, hn⟩)
    · exact answers_psetNoticeEn_same hs rfl hn
    · exact answers_psetNoticeEn_same hs rfl hn

end Sys2Proof.Machine
end

section
namespace Sys2Proof.Machine

/-! ## The startup record at a full reset (R156) -/

/-- What a full reset hands to each owner of a value of the startup record (R156). -/
theorem fullReset_boot {s : State} (h : s.pfs.bootWriting = false) :
    let v := bootValues s.pfs.boot
    let t := fullReset s
    t.pfs.boot = s.pfs.boot ∧ t.cml.rateCode = v.rate ∧
    t.lpc.startupCeiling = v.ceilingCode * 10000 ∧ t.lpc.ceiling = v.ceilingCode * 10000 ∧
    t.csq.autostart = recipeOf v.autostart ∧ t.ofq.sendMode = (if v.sendMode = 1 then .fixedRate else .onDemand) ∧
    t.ofq.periodTimer = (if v.sendMode = 1 then some 40000 else none) ∧
    t.ofq.policy = (if v.policy = 1 then .keepOld else .keepNew) ∧ t.cdu.noticeEn = decide (v.notice = 1) ∧
    t.csq.autoswitch = decide (v.autoswitch = 1) ∧ t.cdu.live.getLsbD 15 = bootDefaulted s.pfs.boot := by
  have hb : s.pfs.bootView s.draws = s.pfs.boot := bootView_idle h
  have hlive (v : Bool) (m : Word16) : (withSourceBit m Source.startupDefaulted.number v).getLsbD 15 = v :=
    (withSourceBit_getLsbD m .startupDefaulted v 15 (by decide)).trans (if_pos rfl)
  unfold fullReset
  rw [hb]
  exact ⟨rfl, rfl, rfl, rfl, rfl, rfl, rfl, rfl, rfl, rfl, hlive _ _⟩

/-- A field coded 0 and 1 has its other value when that is stored and passes its check, and its default otherwise. -/
theorem bootField_flag {b : Byte} {ok : Bool} {d : Nat} (hd : d ≤ 1) :
    bootField (ok && decide (b.toNat ≤ 1)) b.toNat d = if ok = true ∧ b = byte (1 - d) then 1 - d else d := by
  have hb : b = byte (1 - d) ↔ b.toNat = 1 - d := by rw [← BitVec.toNat_inj, byte_toNat (by omega)]
  cases ok
  · rfl
  · simp only [bootField, hb, Bool.true_and, decide_eq_true_eq, true_and]
    split_ifs <;> omega

theorem bootField_coded {b : Byte} {ok : Bool} (m d : Nat) :
    bootField (ok && decide (b.toNat ≤ m)) b.toNat d = if ok = true ∧ b.toNat ≤ m then b.toNat else d := by
  simp [bootField]

/-- The values that a startup record gives, each stored one that passes its check or its default (R156). -/
theorem bootValues_eq (r : Vector (Byte × Byte) 8) :
    (bootValues r).rate = (if cellOk r[0] ∧ r[0].1.toNat ≤ 3 then r[0].1.toNat else 0) ∧
    (bootValues r).ceilingCode = (if cellOk r[1] ∧ cellOk r[2] ∧ 1 ≤ storedCeiling r ∧ storedCeiling r ≤ 400
      then storedCeiling r else 200) ∧
    (bootValues r).autostart = (if cellOk r[3] ∧ r[3].1.toNat ≤ 3 then r[3].1.toNat else 0) ∧
    (bootValues r).sendMode = (if cellOk r[4] = true ∧ r[4].1 = 1 then 1 else 0) ∧
    (bootValues r).policy = (if cellOk r[5] = true ∧ r[5].1 = 1 then 1 else 0) ∧
    (bootValues r).notice = (if cellOk r[6] = true ∧ r[6].1 = 0 then 0 else 1) ∧
    (bootValues r).autoswitch = (if cellOk r[7] = true ∧ r[7].1 = 0 then 0 else 1) := by
  refine ⟨bootField_coded 3 0, ?_, bootField_coded 3 0, bootField_flag (by decide), bootField_flag (by decide),
    bootField_flag (by decide), bootField_flag (by decide)⟩
  simp [bootValues, bootPasses, bootField, and_assoc]

/-- STARTUP_DEFAULTED is 0 when every field passes its check (R156). -/
theorem bootDefaulted_eq_false (r : Vector (Byte × Byte) 8) : bootDefaulted r = false ↔
    (∀ k : Fin 8, cellOk r[k] = true) ∧ r[0].1.toNat ≤ 3 ∧ 1 ≤ storedCeiling r ∧ storedCeiling r ≤ 400 ∧
      r[3].1.toNat ≤ 3 ∧ r[4].1.toNat ≤ 1 ∧ r[5].1.toNat ≤ 1 ∧ r[6].1.toNat ≤ 1 ∧ r[7].1.toNat ≤ 1 := by
  have hcells : (∀ k : Fin 8, cellOk r[k] = true) ↔ cellOk r[0] = true ∧ cellOk r[1] = true ∧ cellOk r[2] = true ∧
      cellOk r[3] = true ∧ cellOk r[4] = true ∧ cellOk r[5] = true ∧ cellOk r[6] = true ∧ cellOk r[7] = true := by
    simp [Fin.forall_fin_succ]
  simp only [hcells, bootDefaulted, bootPasses, List.any_cons, List.any_nil, Bool.or_eq_false_iff, Bool.not_eq_false',
    Bool.and_eq_true, decide_eq_true_eq]
  tauto

/-- The rates of the four link rate codes (R174). -/
theorem baudOf_eq {code : Nat} (h : code ≤ 3) : baudOf code = [115200, 230400, 460800, 921600].getD code 0 := by
  interval_cases code <;> rfl

/-- Settles O3: `fullReset_boot` says what each owner is handed, and `bootValues_eq` what the record gives. -/
theorem startupRecordValues : Obligations.StartupRecordValues := by
  intro s h
  obtain ⟨hboot, hrate, hup, hceil, hauto, hmode, htimer, hpolicy, hnotice, hswitch, hlive⟩ := fullReset_boot h
  obtain ⟨vrate, vceil, vauto, vmode, vpolicy, vnotice, vswitch⟩ := bootValues_eq s.pfs.boot
  rw [vrate] at hrate
  rw [vceil] at hceil hup
  rw [vauto] at hauto
  rw [vmode] at hmode htimer
  rw [vpolicy] at hpolicy
  rw [vnotice] at hnotice
  rw [vswitch] at hswitch
  refine ⟨fullReset s, rfl, hboot, hrate, baudOf_eq ?_, hceil.trans hup.symm, ?_, ?_, ?_, ?_, ?_, ?_, ?_, ?_⟩
  · rw [hrate]
    split_ifs with hc
    · exact hc.2
    · omega
  · rw [hceil, ite_mul]
  · rw [hauto, apply_ite recipeOf]
    rfl
  · simp [hmode]
  · simp [hmode, htimer]
  · simp [hpolicy]
  · simp [hnotice]
  · simp [hswitch]
  · rw [hlive, bootDefaulted_eq_false]

end Sys2Proof.Machine
end

section
namespace Sys2Proof.Machine

/-! ## The ends of long operations (R154) -/

@[simp] theorem storeDone_pfs (s : State) : (storeDone s).pfs = { s.pfs with op := none, lastResult := .ok } := rfl

@[simp] theorem storeFailed_pfs (r : LastResult) (s : State) :
    (storeFailed r s).pfs = { s.pfs with op := none, lastResult := r } := rfl

theorem storeDone_latched {s : State} (h : s.cdu.riseEn.getLsbD 12 = true) :
    (storeDone s).cdu.latches.getLsbD 12 = true :=
  raise_latched (src := .storeDone) (s := s.setPfs { s.pfs with op := none, lastResult := .ok }) h

/-- The end of an operation, well or not, as its read-back found. -/
theorem eraseResult_spec (ok : Bool) (s : State) :
    (eraseResult ok s).pfs = { s.pfs with op := none, lastResult := if ok then .ok else .failVerify } ∧
    (ok = true → s.cdu.riseEn.getLsbD 12 = true → (eraseResult ok s).cdu.latches.getLsbD 12 = true) ∧
    (ok = false → s.cdu.riseEn.getLsbD 13 = true → (eraseResult ok s).cdu.latches.getLsbD 13 = true) := by
  cases ok
  · exact ⟨rfl, by simp, fun _ => storeFailed_latched .failVerify⟩
  · exact ⟨rfl, fun _ => storeDone_latched, by simp⟩

@[simp] theorem eraseResult_ofq (ok : Bool) (s : State) : (eraseResult ok s).ofq = s.ofq := by
  unfold eraseResult
  split <;> simp

/-! ## The phases of a startup-record write (R156, R157) -/

theorem bootCells_getElem (data : List Byte) (k : Fin 8) :
    (bootCells data)[k] = (data.getD k 0, ~~~(data.getD k 0)) := by simp [bootCells]

theorem loseBootCells_nil (r : Vector (Byte × Byte) 8) : loseBootCells r [] = r := by
  ext k hk
  · simp [loseBootCells]
  · simp [loseBootCells]

theorem exec_bootWriteEraseDone {s : State} {data : List Byte} (h : s.pfs.op = some (.bootWrite data .erase)) :
    exec .bootWriteEraseDone s = .next (s.setPfs { s.pfs with
      boot := Vector.replicate 8 (Config.erasedByte, Config.erasedByte), op := some (.bootWrite data .program) }) := by
  simp only [exec, execBootWriteEraseDone, h]

/-- The record as the read-back finds it decides how the write ends (R157). -/
theorem exec_bootWriteProgramDone {s : State} {data : List Byte} (lost : LostCells)
    (h : s.pfs.op = some (.bootWrite data .program)) :
    exec (.bootWriteProgramDone lost) s = .next (pump
      (eraseResult (decide (loseBootCells (bootCells data) lost = bootCells data))
        (s.setPfs { s.pfs with boot := loseBootCells (bootCells data) lost }))) := by
  simp only [exec, execBootWriteProgramDone, h, eraseResult, decide_eq_true_eq]

/-- Settles O30: the erased record and the programmed one cell by cell, and the read-back's result by `eraseResult_spec`. -/
theorem startupRecordWritePhases : Obligations.StartupRecordWritePhases := by
  intro s data lost
  refine ⟨fun h => ?_, fun h => ?_, fun h => ?_, fun h => ?_⟩
  · simp only [exec]
    unfold execBootWriteEraseDone
    split
    · exact absurd ‹_› (h _)
    · rfl
  · simp only [exec]
    unfold execBootWriteProgramDone
    split
    · exact absurd ‹_› (h _)
    · rfl
  · exact ⟨_, exec_bootWriteEraseDone h, rfl, fun k => by simp [Config.erasedByte], rfl, rfl, rfl, rfl, rfl⟩
  · refine ⟨_, exec_bootWriteProgramDone lost h, ?_⟩
    obtain ⟨hpfs, hdone, hfailed⟩ := eraseResult_spec (decide (loseBootCells (bootCells data) lost = bootCells data))
      (s.setPfs { s.pfs with boot := loseBootCells (bootCells data) lost })
    simp only [pump_frame, pump_latches, hpfs, eraseResult_lpc, eraseResult_csq, State.setPfs_lpc, State.setPfs_csq]
    refine ⟨trivial, trivial, trivial, by simp, fun hl => ?_, fun ⟨k, hk⟩ => ?_⟩
    · subst hl
      simp only [loseBootCells_nil, State.setPfs_pfs, bootCells_getElem, if_true, decide_true] at hdone ⊢
      exact ⟨trivial, fun k => ⟨trivial, by simp [cellOk]⟩, hdone trivial⟩
    · have hne : loseBootCells (bootCells data) lost ≠ bootCells data := fun e =>
        hk ((congrArg (·[k]) e).trans (bootCells_getElem data k))
      exact ⟨by simp [hne], hfailed (by simp [hne])⟩

end Sys2Proof.Machine
end

section
namespace Sys2Proof.Machine

/-! ## Erases (R151, R152) -/

/-- The store goes from `p` to `q` by the end of the erase of slot `i` with the cells `lost` not erased: the slot is EMPTY when
every byte reads back erased and stands otherwise, its protection as it was. -/
def SlotErased (i : Fin 8) (lost : LostCells) (p q : Store) : Prop :=
  q.directory[i].guarded = p.directory[i].guarded ∧ q.slots[i].protectMark = p.slots[i].protectMark ∧
  (blankBytes (loseCells [] lost) = true → q.directory[i].state = .empty ∧ q.directory[i].header = none ∧
    q.directory[i].check = none ∧ q.slots[i].bytes = [] ∧ q.slots[i].workMark = false) ∧
  (blankBytes (loseCells [] lost) = false → q.directory[i] = p.directory[i] ∧ q.slots[i].bytes = loseCells [] lost ∧
    q.slots[i].workMark = p.slots[i].workMark) ∧
  q.ws.content = p.ws.content ∧ q.boot = p.boot

theorem setRecord_content (p : Store) (i : Fin 8) (r : DirRecord) : (p.setRecord i r).ws.content = p.ws.content := by
  unfold Store.setRecord
  dsimp only
  split <;> rfl

theorem endErase_erased (p : Store) (i : Fin 8) (lost : LostCells) : SlotErased i lost p (p.endErase i lost) := by
  unfold Store.endErase
  dsimp only
  split
  · rename_i hb
    refine ⟨by simp [Store.setRecord], by simp, fun _ => by simp [Store.setRecord], fun hn => ?_, ?_, rfl⟩
    · simp [hb] at hn
    · exact setRecord_content p i _
  · rename_i hb
    exact ⟨rfl, by simp, fun hn => absurd hn hb, fun _ => by simp, rfl, rfl⟩

/-- The end of a slot's erase leaves every other slot, and the operation and its last result for what comes next. -/
theorem endErase_kept (p : Store) (i : Fin 8) (lost : LostCells) :
    (∀ k, k ≠ i → (p.endErase i lost).directory[k] = p.directory[k] ∧ (p.endErase i lost).slots[k] = p.slots[k]) ∧
    (p.endErase i lost).lastResult = p.lastResult := by
  unfold Store.endErase
  dsimp only
  split
  · refine ⟨fun k hk => ?_, rfl⟩
    have hne : (i : Nat) ≠ k := fun e => hk (Fin.ext e.symm)
    simp [Store.setRecord, hne]
  · refine ⟨fun k hk => ?_, rfl⟩
    have hne : (i : Nat) ≠ k := fun e => hk (Fin.ext e.symm)
    simp [hne]

/-- Work begun on another slot leaves the erased one (R152). -/
theorem SlotErased.beginWork {i k : Fin 8} {lost : LostCells} {p q : Store} (h : SlotErased i lost p q) (hk : i ≠ k) :
    SlotErased i lost p (q.beginWork k) := by
  obtain ⟨-, -, hother, -, hboot⟩ := beginWork_spec q k
  obtain ⟨hcontent, -⟩ := beginWork_ws q k
  obtain ⟨hdir, hslot⟩ := hother i hk
  simpa only [SlotErased, hdir, hslot, hcontent, hboot] using h

/-- An operation ended as its read-backs found (R154). -/
def OperationEnded (ok : Bool) (s t : State) : Prop :=
  t.pfs.op = none ∧
  (ok = true → t.pfs.lastResult = .ok ∧ (s.cdu.riseEn.getLsbD 12 = true → t.cdu.latches.getLsbD 12 = true)) ∧
  (ok = false → t.pfs.lastResult = .failVerify ∧ (s.cdu.riseEn.getLsbD 13 = true → t.cdu.latches.getLsbD 13 = true))

theorem eraseResult_ended (ok : Bool) (s : State) (q : Store) : OperationEnded ok s (pump (eraseResult ok (s.setPfs q))) := by
  obtain ⟨hpfs, hdone, hfailed⟩ := eraseResult_spec ok (s.setPfs q)
  simp only [OperationEnded, pump_frame, pump_latches, hpfs]
  refine ⟨trivial, fun h => ⟨by simp [h], hdone h⟩, fun h => ⟨by simp [h], hfailed h⟩⟩

/-- The store after an erase ended by its result. -/
theorem eraseResult_pump_pfs (ok : Bool) (s : State) (q : Store) : (pump (eraseResult ok (s.setPfs q))).pfs =
    { q with op := none, lastResult := if ok then .ok else .failVerify } := by
  simp [(eraseResult_spec ok (s.setPfs q)).1]

theorem exec_eraseDone {s : State} {i : Fin 8} (lost : LostCells) (h : s.pfs.op = some (.erase i)) :
    exec (.eraseDone lost) s =
      .next (pump (eraseResult (blankBytes (loseCells [] lost)) (s.setPfs (s.pfs.endErase i lost)))) := by
  simp only [exec, execEraseDone, h]

/-- After slot `i` the whole-store erase goes on to the next slot, or ends (R152). -/
theorem exec_eraseAllSlotDone {s : State} {i : Fin 8} {failed : Bool} (lost : LostCells)
    (h : s.pfs.op = some (.eraseAll i failed)) :
    (∀ k : Fin 8, k.val = i.val + 1 → exec (.eraseAllSlotDone lost) s = .next (s.setPfs
      { (s.pfs.endErase i lost).beginWork k with
        op := some (.eraseAll k (failed || !blankBytes (loseCells [] lost))) })) ∧
    (i = 7 → exec (.eraseAllSlotDone lost) s =
      .next (pump (eraseResult (!failed && blankBytes (loseCells [] lost)) (s.setPfs (s.pfs.endErase i lost))))) := by
  refine ⟨fun k hk => ?_, fun hi => ?_⟩
  · have hf : finOf 8 (i.val + 1) = some k := hk ▸ finOf_val k
    simp only [exec, execEraseAllSlotDone, h, hf]
    rfl
  · subst hi
    have hf : finOf 8 ((7 : Fin 8).val + 1) = none := rfl
    simp only [exec, execEraseAllSlotDone, h, hf, Bool.not_or, Bool.not_not]

theorem blankBytes_iff (bytes : List Byte) : blankBytes bytes = true ↔ ∀ b ∈ bytes, b = 0xFF := by
  simp [blankBytes, Config.erasedByte]

/-- Settles O29: the slot erased by `endErase_erased`, and after it the next slot's work or the end of the operation. -/
theorem erasesReadBack : Obligations.ErasesReadBack := by
  refine ⟨⟨rfl, blankBytes_iff⟩, fun s lost i => ?_⟩
  intro blank after ended
  have herased := endErase_erased s.pfs i lost
  obtain ⟨hother, hlast⟩ := endErase_kept s.pfs i lost
  refine ⟨fun h => ?_, fun h => ?_, fun h => ?_, fun failed h => ?_⟩
  · simp only [exec]
    unfold execEraseDone
    split
    · exact absurd ‹_› (h _)
    · rfl
  · simp only [exec]
    unfold execEraseAllSlotDone
    split
    · exact absurd ‹_› (h _ _)
    · rfl
  · have hpfs := eraseResult_pump_pfs blank s (s.pfs.endErase i lost)
    have hafter : SlotErased i lost s.pfs (pump (eraseResult blank (s.setPfs (s.pfs.endErase i lost)))).pfs := by
      rw [hpfs]
      exact herased
    refine ⟨_, exec_eraseDone lost h, hafter, eraseResult_ended _ s _, fun k hk => ?_⟩
    rw [hpfs]
    exact hother k hk
  · obtain ⟨hnext, hend⟩ := exec_eraseAllSlotDone lost h
    by_cases hi : i = 7
    · have hpfs := eraseResult_pump_pfs (!failed && blank) s (s.pfs.endErase i lost)
      have hafter : SlotErased i lost s.pfs
          (pump (eraseResult (!failed && blank) (s.setPfs (s.pfs.endErase i lost)))).pfs := by
        rw [hpfs]
        exact herased
      refine ⟨_, hend hi, hafter, fun k hk => by omega, fun k hk _ => ?_, fun _ => eraseResult_ended _ s _⟩
      rw [hpfs]
      exact hother k hk
    · obtain ⟨k, hk⟩ : ∃ k : Fin 8, k.val = i.val + 1 := ⟨⟨i.val + 1, by omega⟩, rfl⟩
      have hne : k ≠ i := by omega
      obtain ⟨hdir, hslot, hrest, -⟩ := beginWork_spec (s.pfs.endErase i lost) k
      obtain ⟨hdirk, hslotk⟩ := hother k hne
      rw [hdirk] at hdir
      rw [hslotk] at hslot
      have hcorrupt : ((s.pfs.endErase i lost).beginWork k).directory[k].state = .corrupt := by
        rw [hdir]
        rfl
      have hguarded : ((s.pfs.endErase i lost).beginWork k).directory[k].guarded = s.pfs.directory[k].guarded := by
        rw [hdir]
        rfl
      refine ⟨_, hnext k hk, herased.beginWork hne.symm, fun k' hk' => ?_, fun k' hki hk' => ?_, fun h7 => absurd h7 hi⟩
      · obtain rfl : k = k' := by omega
        exact ⟨rfl, hlast, rfl, hcorrupt, hguarded, hslot⟩
      · have hkk : k' ≠ k := by omega
        obtain ⟨hdir', hslot'⟩ := hrest k' hkk
        obtain ⟨hdir'', hslot''⟩ := hother k' hki
        exact ⟨hdir'.trans hdir'', hslot'.trans hslot''⟩

end Sys2Proof.Machine
end

section
namespace Sys2Proof.Machine

/-! ## Writing the working set (R140, R143, R144) -/

theorem savingOrLoading_iff (p : Store) :
    p.savingOrLoading = true ↔ (∃ i ph, p.op = some (.save i ph)) ∨ ∃ i ph, p.op = some (.load i ph) := by
  unfold Store.savingOrLoading
  split <;> simp_all

/-- The working set is open to writing (R140). -/
theorem openToWriting_iff (s : State) : openToWriting s = true ↔
    s.csq.state ≠ .starting ∧ (s.pxr.state = .idle ∨ s.pxr.state = .skip .none) ∧ s.csq.exposure = none ∧
      s.rme.job = none ∧ s.phc.finalise = none ∧ s.csq.queue = [] ∧ s.csq.active = none ∧
      s.phc.lin0.content = .empty ∧ s.phc.lin1.content = .empty ∧ s.phc.accF.state = .free ∧ s.phc.accB.state = .free ∧
      s.csq.state ≠ .switchDrain ∧ s.csq.state ≠ .switchLoad ∧
      ¬((∃ i p, s.pfs.op = some (.save i p)) ∨ ∃ i p, s.pfs.op = some (.load i p)) := by
  rw [← savingOrLoading_iff]
  simp only [openToWriting, startUpEnded, Bool.and_eq_true, decide_eq_true_eq, quiescent_iff, Bool.not_eq_true',
    Bool.not_eq_true, and_assoc]

/-- A write of the working set: the content is written when the set is open, and the write is refused when it is not,
whatever the link holds (R140). -/
theorem writeWhenOpen_answer (r : Response) (c : Content) (s : State) (l : Link) :
    (openToWriting s = true → (writeWhenOpen r c (s.setCml l)).1 = r ∧
      outsideLink (writeWhenOpen r c (s.setCml l)).2 = outsideLink (writeContent c s)) ∧
    (openToWriting s = false →
      writeWhenOpen r c (s.setCml l) = refuse (if s.pfs.savingOrLoading then .busy else .badState) (s.setCml l)) := by
  have ho : openToWriting (s.setCml l) = openToWriting s := rfl
  refine ⟨fun h => ?_, fun h => ?_⟩
  · rw [writeWhenOpen, if_pos (ho.trans h)]
    exact ⟨rfl, rfl⟩
  · rw [writeWhenOpen, if_neg (by simp [ho, h])]
    rfl

/-! ### The plain map (R144) -/

theorem flatMap_const_length {α β : Type} {f : α → List β} {n : Nat} {l : List α} (h : ∀ a ∈ l, (f a).length = n) :
    (l.flatMap f).length = l.length * n := by
  simp only [List.length_flatMap]
  rw [List.map_congr_left h]
  simp

/-- Entry `i` of the `j`-th of blocks of one length. -/
theorem flatMap_range_getElem? {α : Type} {f : Nat → List α} {n : Nat} (hf : ∀ j, (f j).length = n) {i j m : Nat}
    (hi : i < n) (hj : j < m) : ((List.range m).flatMap f)[n * j + i]? = (f j)[i]? := by
  induction m with
  | zero => omega
  | succ m ih =>
    have hl : ((List.range m).flatMap f).length = m * n := by
      rw [flatMap_const_length fun j _ => hf j, List.length_range]
    rw [List.range_succ, List.flatMap_append]
    by_cases hm : j < m
    · rw [List.getElem?_append_left (by rw [hl]; nlinarith), ih hm]
    · obtain rfl : j = m := by omega
      rw [List.getElem?_append_right (by rw [hl]; nlinarith), hl]
      simp [Nat.mul_comm]

theorem plainMap_length (w h : Nat) : (plainMap w h).length = (w / 16 + 1) * (h / 16 + 1) := by
  rw [plainMap, flatMap_const_length fun j _ => by rw [List.length_map, List.length_range], List.length_range,
    Nat.mul_comm]

theorem plainMap_node {w h i j : Nat} (hi : i ≤ w / 16) (hj : j ≤ h / 16) : (plainMap w h)[(w / 16 + 1) * j + i]? =
    some ((((i * 327680 + w / 2) / w : Nat) : Int), (((j * 262144 + h / 2) / h : Nat) : Int)) := by
  rw [plainMap, flatMap_range_getElem? (fun j => by rw [List.length_map, List.length_range]) (by omega) (by omega)]
  rw [List.getElem?_map, List.getElem?_range (by omega)]
  rfl

/-! ### The values of the header fields (R143) -/

section
variable {v : Word32}

theorem toInt_between {lo hi : Nat} (h : hi < 2147483648) :
    ((lo : Int) ≤ v.toInt ∧ v.toInt ≤ hi) ↔ lo ≤ v.toNat ∧ v.toNat ≤ hi := by
  have := v.isLt
  rw [BitVec.toInt_eq_toNat_cond]
  split <;> omega

/-- A value that a field takes, as a number without sign. -/
theorem toInt_small {hi : Nat} (h : v.toNat ≤ hi) (hh : hi < 2147483648) : v.toInt = v.toNat := by
  rw [BitVec.toInt_eq_toNat_cond, if_pos (by omega)]

variable (c : Content)

theorem withId_accepted (h : 1 ≤ v.toNat) (h' : v.toNat ≤ 65535) :
    c.withId v.toInt = some { c with profileId := v.toNat } := by
  simp [Content.withId, toInt_small h' (by decide), h, h']

theorem withId_refused (h : v.toNat = 0 ∨ 65535 < v.toNat) : c.withId v.toInt = none := by
  refine if_neg fun hv => ?_
  have := (toInt_between (lo := 1) (hi := 65535) (by decide)).1 hv
  omega

theorem withHead_bound (h : v.toNat ≤ 11) : c.withHead v.toInt = some { c with head := some v.toNat } := by
  have h255 : v.toNat ≠ 255 := by omega
  simp [Content.withHead, toInt_small h (by decide), h]
  omega

theorem withHead_unbound (h : v.toNat = 255) : c.withHead v.toInt = some { c with head := none } := by
  refine if_pos ?_
  rw [toInt_small h.le (by decide), h]
  rfl

theorem withHead_refused (h : 11 < v.toNat) (h' : v.toNat ≠ 255) : c.withHead v.toInt = none := by
  have h255 : v.toInt ≠ 255 := fun e => by
    have := (toInt_between (v := v) (lo := 255) (hi := 255) (by decide)).1 (by omega)
    omega
  rw [Content.withHead, if_neg h255, if_neg]
  intro hv
  have := (toInt_between (lo := 0) (hi := 11) (by decide)).1 hv
  omega

/-- A setting coded 0 and 1 has no other value. -/
theorem toInt_notFlag (h : 1 < v.toNat) : v.toInt ≠ 0 ∧ v.toInt ≠ 1 := by
  refine ⟨fun e => ?_, fun e => ?_⟩
  · have := (toInt_between (v := v) (lo := 0) (hi := 1) (by decide)).1 (by omega)
    omega
  · have := (toInt_between (v := v) (lo := 0) (hi := 1) (by decide)).1 (by omega)
    omega

/-- Contents that are there stay as they are when the setting for them is written again. -/
theorem some_getD_of_isSome {α : Type} {o : Option α} (h : o.isSome = true) (a : α) : some (o.getD a) = o := by
  cases o <;> simp_all

theorem withBankSet_values : c.withBankSet 0 = some { c with beam := none } ∧
    (c.beam.isSome = true → c.withBankSet 1 = some c) ∧
    (c.beam = none → c.withBankSet 1 = some
      { c with beam := some { gainB := List.replicate 357 4096, weight := List.replicate 357 128 } }) := by
  refine ⟨rfl, fun h => ?_, fun h => ?_⟩
  · exact congrArg (fun b => some { c with beam := b }) (some_getD_of_isSome h BeamTables.fresh)
  · exact congrArg (fun b => some { c with beam := some (b.getD BeamTables.fresh) }) h

theorem withBankSet_refused (h : 1 < v.toNat) : c.withBankSet v.toInt = none :=
  (if_neg (toInt_notFlag h).1).trans (if_neg (toInt_notFlag h).2)

theorem builtInCurve_eq : builtInCurve = (List.range 1025).map fun k => (k * 255 + 512) / 1024 := by
  unfold builtInCurve Config.toneEntries
  exact List.map_congr_left fun k _ => rfl

theorem withTone_values : c.withTone 0 = some { c with tone := none } ∧
    (c.tone.isSome = true → c.withTone 1 = some c) ∧
    (c.tone = none → c.withTone 1 = some
      { c with tone := some ((List.range 1025).map fun k => (k * 255 + 512) / 1024) }) := by
  have hone : c.withTone 1 = some { c with tone := some (c.tone.getD builtInCurve) } := (if_neg (by decide)).trans (if_pos rfl)
  refine ⟨rfl, fun h => ?_, fun h => ?_⟩
  · rw [hone, some_getD_of_isSome h]
  · rw [hone, h, Option.getD_none, builtInCurve_eq]

theorem withTone_refused (h : 1 < v.toNat) : c.withTone v.toInt = none :=
  (if_neg (toInt_notFlag h).1).trans (if_neg (toInt_notFlag h).2)

/-- An output size that R143 accepts. -/
theorem sizeOk_iff : sizeOk v.toInt = true ↔ 256 ≤ v.toNat ∧ v.toNat ≤ 1024 ∧ v.toNat % 16 = 0 := by
  simp only [sizeOk, decide_eq_true_eq, ← and_assoc]
  rw [show (256 : Int) ≤ v.toInt ∧ v.toInt ≤ 1024 ↔ _ from toInt_between (lo := 256) (hi := 1024) (by decide)]
  refine and_congr_right fun ⟨_, h⟩ => ?_
  rw [toInt_small h (by decide)]
  omega

theorem withSize_accepted (h : 256 ≤ v.toNat) (h' : v.toNat ≤ 1024) (hm : v.toNat % 16 = 0) :
    c.withWidth v.toInt = some { c with width := v.toNat, mesh := plainMap v.toNat c.height } ∧
    c.withHeight v.toInt = some { c with height := v.toNat, mesh := plainMap c.width v.toNat } := by
  have hok : sizeOk v.toInt = true := sizeOk_iff.2 ⟨h, h', hm⟩
  have hn : v.toInt.toNat = v.toNat := by
    rw [toInt_small h' (by decide)]
    rfl
  exact ⟨by rw [Content.withWidth, if_pos hok, hn], by rw [Content.withHeight, if_pos hok, hn]⟩

theorem withSize_refused (h : v.toNat < 256 ∨ 1024 < v.toNat ∨ v.toNat % 16 ≠ 0) :
    c.withWidth v.toInt = none ∧ c.withHeight v.toInt = none := by
  have hno : ¬sizeOk v.toInt = true := fun hok => by
    have := sizeOk_iff.1 hok
    omega
  exact ⟨if_neg hno, if_neg hno⟩

end

/-! ### The PSETs of the header fields (R143) -/

section
variable {i : Instr} {p : Param} {bank : Byte} {v : Word32} {s : State} {f : Content → Int → Option Content}

/-- A PSET of a header field with a value it takes is answered with the value as stored, or refused while the working set is not
open to writing (R140, R143). -/
theorem answers_header (hs : Served i s) (hq : requestOf i = some (psetRequest p bank 0 (word32Bytes v)))
    (hw : i.wellFormed = true) (hl : p ≠ .label) (hb : p.perBank = false)
    (hf : ∀ b u, writeParam p b .write (word32Bytes v) u = storeHeader v.toInt (f u.pfs.ws.content v.toInt) u)
    {c : Content} (hc : f s.pfs.ws.content v.toInt = some c) :
    (openToWriting s = true → Answers i 0x04 .ok (word32Bytes v) s (writeContent c s)) ∧
    (openToWriting s = false → Answers i 0x04 (if s.pfs.savingOrLoading then .busy else .badState) [] s s) := by
  have owner (b : Bank) (l : Link) : writeParam p b .write (word32Bytes v) (s.setCml l) =
      writeWhenOpen ⟨.ok, word32Bytes v⟩ c (s.setCml l) := by
    rw [hf, State.setCml_pfs, hc, ← le32s_toInt v]
    rfl
  refine ⟨fun ho => answers_psetStyled hs hq hw hl hb rfl (.inl rfl) fun b l => ?_,
    fun ho => answers_psetStyled hs hq hw hl hb rfl (.inl rfl) fun b l => ?_⟩ <;>
    obtain ⟨hopen, hshut⟩ := writeWhenOpen_answer ⟨.ok, word32Bytes v⟩ c s l
  · rw [owner]
    exact hopen ho
  · rw [owner, hshut ho]
    exact ⟨rfl, rfl⟩

/-- A value that the field does not take is refused in every state (R143). -/
theorem answers_header_refused (hs : Served i s) (hq : requestOf i = some (psetRequest p bank 0 (word32Bytes v)))
    (hw : i.wellFormed = true) (hl : p ≠ .label) (hb : p.perBank = false)
    (hf : ∀ b u, writeParam p b .write (word32Bytes v) u = storeHeader v.toInt (f u.pfs.ws.content v.toInt) u)
    (hc : f s.pfs.ws.content v.toInt = none) : Answers i 0x04 .badParam [] s s :=
  answers_psetStyled hs hq hw hl hb rfl (.inl rfl) fun b l => by
    rw [hf, State.setCml_pfs, hc]
    exact ⟨rfl, rfl⟩

/-- The owner of each header field of one number stores the content that the field's value gives. -/
theorem writeParam_header :
    let owner (p : Param) (f : Content → Int → Option Content) : Prop :=
      ∀ b u, writeParam p b .write (word32Bytes v) u = storeHeader v.toInt (f u.pfs.ws.content v.toInt) u
    owner .profileId Content.withId ∧ owner .headBind Content.withHead ∧ owner .bankSet Content.withBankSet ∧
    owner .outWidth Content.withWidth ∧ owner .outHeight Content.withHeight ∧ owner .hasTone Content.withTone := by
  rw [← fromLe32s_word32Bytes v]
  exact ⟨fun _ _ => rfl, fun _ _ => rfl, fun _ _ => rfl, fun _ _ => rfl, fun _ _ => rfl, fun _ _ => rfl⟩

end

/-- A PSET of LABEL goes to its owner with its 16 bytes (R143, R181). -/
theorem checkPset_label (bank : Byte) {label : List Byte} (h : label.length = 16) (u : State) :
    checkPset .label bank 0 label u = writeLabel label u := by
  have hst : UpdateStyle.ofByte 0 = some .write := rfl
  have hw : psetWidthOk (byte Param.label.code) label.length = true := by simp [psetWidthOk, Param.ofCode_code, h]
  simp only [checkPset, hst]
  rw [if_neg (by simp [Param.perBank]), if_neg (by simp), if_pos hw]
  rfl

theorem psetLabel_answers {bank : Byte} {label : List Byte} {s : State} (h : label.length = 16)
    (hs : Served (.psetLabel bank 0 label) s) :
    (openToWriting s = true → Answers (.psetLabel bank 0 label) 0x04 .ok label s
      (writeContent { s.pfs.ws.content with label } s)) ∧
    (openToWriting s = false → Answers (.psetLabel bank 0 label) 0x04
      (if s.pfs.savingOrLoading then .busy else .badState) [] s s) := by
  have hlen : lengthOk (psetRequest .label bank 0 label) = true := by
    have hof : Param.ofCode (byte Param.label.code) = some .label := Param.ofCode_code .label
    have hk : (psetRequest .label bank 0 label).kind.toNat = 0x04 := rfl
    simp only [lengthOk, hk]
    simp [psetRequest, psetLengthOk, psetWidthOk, h, hof]
  have owner (l : Link) : checkPset .label bank 0 label (s.setCml l) =
      writeWhenOpen ⟨.ok, label⟩ { s.pfs.ws.content with label } (s.setCml l) := checkPset_label bank h _
  refine ⟨fun ho => answers_served (q := psetRequest .label bank 0 label) hs rfl rfl rfl hlen fun l => ?_,
    fun ho => answers_refused (q := psetRequest .label bank 0 label) hs rfl rfl rfl hlen fun l => ?_⟩ <;>
    obtain ⟨hopen, hshut⟩ := writeWhenOpen_answer ⟨.ok, label⟩ { s.pfs.ws.content with label } s l
  · rw [owner]
    exact hopen ho
  · rw [owner]
    exact hshut ho

/-- Settles O52: each field by what its value gives the content, the label by its bytes, and the plain map node by node. -/
theorem psetHeaderFields : Obligations.PsetHeaderFields := by
  intro s bank v c put storeBusy shut field outside
  obtain ⟨hid, hhead, hbankSet, hwidth, hheight, htone⟩ := writeParam_header (v := v)
  obtain ⟨hbank0, hbankKept, hbankNew⟩ := withBankSet_values c
  obtain ⟨htone0, htoneKept, htoneNew⟩ := withTone_values c
  refine ⟨openToWriting_iff s, savingOrLoading_iff s.pfs, fun w h i j hi hj => ⟨plainMap_length w h, plainMap_node hi hj⟩,
    fun h h' hs => answers_header hs rfl rfl (by decide) rfl hid (withId_accepted c h h'),
    fun h hs => answers_header_refused hs rfl rfl (by decide) rfl hid (withId_refused c h),
    fun h hs => answers_header hs rfl rfl (by decide) rfl hhead (withHead_bound c h),
    fun h hs => answers_header hs rfl rfl (by decide) rfl hhead (withHead_unbound c h),
    fun h h' hs => answers_header_refused hs rfl rfl (by decide) rfl hhead (withHead_refused c h h'),
    ?_, ?_, ?_,
    fun h hs => answers_header_refused hs rfl rfl (by decide) rfl hbankSet (withBankSet_refused c h),
    ?_, ?_, ?_,
    fun h hs => answers_header_refused hs rfl rfl (by decide) rfl htone (withTone_refused c h),
    fun h h' hm => ⟨fun hs => answers_header hs rfl rfl (by decide) rfl hwidth (withSize_accepted c h h' hm).1,
      fun hs => answers_header hs rfl rfl (by decide) rfl hheight (withSize_accepted c h h' hm).2⟩,
    fun h => ⟨fun hs => answers_header_refused hs rfl rfl (by decide) rfl hwidth (withSize_refused c h).1,
      fun hs => answers_header_refused hs rfl rfl (by decide) rfl hheight (withSize_refused c h).2⟩,
    fun label h hs => psetLabel_answers h hs⟩
  · rintro rfl hs
    exact answers_header hs rfl rfl (by decide) rfl hbankSet hbank0
  · rintro rfl h hs
    exact answers_header hs rfl rfl (by decide) rfl hbankSet (hbankKept h)
  · rintro rfl h hs
    exact answers_header hs rfl rfl (by decide) rfl hbankSet (hbankNew h)
  · rintro rfl hs
    exact answers_header hs rfl rfl (by decide) rfl htone htone0
  · rintro rfl h hs
    exact answers_header hs rfl rfl (by decide) rfl htone (htoneKept h)
  · rintro rfl h hs
    exact answers_header hs rfl rfl (by decide) rfl htone (htoneNew h)

end Sys2Proof.Machine
end

section
namespace Sys2Proof.Machine

/-! ## TWRT (R141) -/

/-- A byte string of entries of one width is cut into those entries. -/
theorem chunks_flatten {n fuel : Nat} {es : List (List Byte)} (hn : 0 < n) (h : ∀ e ∈ es, e.length = n)
    (hf : es.length ≤ fuel) : chunks n fuel es.flatten = es := by
  induction es generalizing fuel with
  | nil => cases fuel <;> rfl
  | cons e es ih =>
    obtain ⟨fuel, rfl⟩ : ∃ k, fuel = k + 1 := Nat.exists_eq_add_one.2 (Nat.lt_of_lt_of_le (Nat.succ_pos _) hf)
    have he : e.length = n := h e List.mem_cons_self
    have hne : (e ++ es.flatten).isEmpty = false := by
      rw [List.isEmpty_eq_false_iff, ← List.length_pos_iff, List.length_append]
      omega
    rw [List.flatten_cons, chunks, if_neg (by rw [hne]; simp), List.take_left' he, List.drop_left' he,
      ih (fun e' he' => h e' (List.mem_cons_of_mem _ he')) (Nat.le_of_succ_le_succ hf)]

section
variable {code start : Nat} {entries : List (List Byte)}

theorem entryBytes_pos (code : Nat) : 0 < entryBytes code := by
  unfold entryBytes
  split
  · decide
  · split <;> decide

theorem flatten_length (h : ∀ e ∈ entries, e.length = entryBytes code) :
    entries.flatten.length = entries.length * entryBytes code := by
  rw [List.length_flatten, List.map_congr_left h]
  simp

theorem bodyAt_twrtBody (hc : code < 256) : bodyAt (twrtBody code start entries) 0 = code := byte_toNat hc

theorem bodyAt16_twrtBody (hs : start < 65536) : bodyAt16 (twrtBody code start entries) 1 = start := le16_toNat hs

theorem twrtBody_length (h : ∀ e ∈ entries, e.length = entryBytes code) :
    (twrtBody code start entries).length = 3 + entries.length * entryBytes code := by
  rw [← flatten_length h]
  simp [twrtBody, le16]
  omega

theorem bodyEntries_twrtBody (h : ∀ e ∈ entries, e.length = entryBytes code) :
    bodyEntries code (twrtBody code start entries) = entries := by
  refine chunks_flatten (entryBytes_pos code) h ?_
  rw [twrtBody_length h]
  exact (Nat.le_mul_of_pos_right _ (entryBytes_pos code)).trans (Nat.le_add_left _ 3)

/-- Whole entries after the code and the start index make an allowed length (R141). -/
theorem lengthOk_twrt (hc : code < 256) (h : ∀ e ∈ entries, e.length = entryBytes code) :
    lengthOk ⟨0x20, twrtBody code start entries⟩ = true := by
  have hcode : ((twrtBody code start entries).headD 0).toNat = code := byte_toNat hc
  have hdef : lengthOk ⟨0x20, twrtBody code start entries⟩ = (decide (3 ≤ (twrtBody code start entries).length) &&
      decide (((twrtBody code start entries).length - 3) %
        entryBytes ((twrtBody code start entries).headD 0).toNat = 0)) := rfl
  rw [hdef, hcode, twrtBody_length h]
  simp

theorem chunkStatus_eq : chunkStatus code entries =
    if code = 3 ∧ ∃ e ∈ entries, 256 < fromLe e then .okClamped else .ok := by
  simp [chunkStatus]

theorem twrtOwner_body (hc : code < 256) (hs : start < 65536) (h : ∀ e ∈ entries, e.length = entryBytes code)
    (u : State) : twrtOwner (twrtBody code start entries) u =
      if chunkOk u.pfs.ws.content code start entries.length = false then refuse .badParam u
      else if absentBeam u.pfs.ws.content code then refuse .noBank u
      else writeWhenOpen ⟨chunkStatus code entries, []⟩ (u.pfs.ws.content.writeChunk code start entries) u := by
  simp only [twrtOwner, bodyAt_twrtBody hc, bodyAt16_twrtBody hs, bodyEntries_twrtBody h]

/-- The answers to TWRT, in R141's order of refusals. -/
theorem twrt_answers {s : State} (hc : code < 256) (hs : start < 65536) (h : ∀ e ∈ entries, e.length = entryBytes code)
    (hserved : Served (.twrt (twrtBody code start entries)) s) :
    let c := s.pfs.ws.content
    let answers := Answers (.twrt (twrtBody code start entries)) 0x20
    (chunkOk c code start entries.length = false → answers .badParam [] s s) ∧
    (chunkOk c code start entries.length = true → absentBeam c code = true → answers .noBank [] s s) ∧
    (chunkOk c code start entries.length = true → absentBeam c code = false →
      (openToWriting s = true →
        answers (chunkStatus code entries) [] s (writeContent (c.writeChunk code start entries) s)) ∧
      (openToWriting s = false → answers (if s.pfs.savingOrLoading then .busy else .badState) [] s s)) := by
  have owner := fun l => twrtOwner_body hc hs h (s.setCml l)
  have hlen := lengthOk_twrt (start := start) hc h
  refine ⟨fun hno => answers_refused hserved rfl rfl rfl hlen fun l => ?_,
    fun hok hb => answers_refused hserved rfl rfl rfl hlen fun l => ?_,
    fun hok hb => ⟨fun ho => answers_served hserved rfl rfl rfl hlen fun l => ?_,
      fun ho => answers_refused hserved rfl rfl rfl hlen fun l => ?_⟩⟩
  · rw [owner, State.setCml_pfs, hno]
    rfl
  · rw [owner, State.setCml_pfs, hok, hb]
    rfl
  · rw [owner, State.setCml_pfs, hok, hb]
    exact (writeWhenOpen_answer _ _ s l).1 ho
  · rw [owner, State.setCml_pfs, hok, hb]
    exact (writeWhenOpen_answer _ _ s l).2 ho

end

/-! ### A table after a chunk is written -/

section
variable {α : Type} {xs vals : List α} {start : Nat}

theorem writeEntries_length (h : start + vals.length ≤ xs.length) : (writeEntries xs start vals).length = xs.length := by
  simp [writeEntries]
  omega

/-- The table has the values sent from the start index on and the old ones elsewhere (R141). -/
theorem writeEntries_getElem? (h : start + vals.length ≤ xs.length) (k : Nat) :
    (writeEntries xs start vals)[k]? =
      if start ≤ k ∧ k < start + vals.length then vals[k - start]? else xs[k]? := by
  have htake : (xs.take start).length = start := by simp; omega
  rw [writeEntries, List.append_assoc]
  by_cases hlo : start ≤ k
  · rw [List.getElem?_append_right (by omega), htake]
    by_cases hhi : k < start + vals.length
    · rw [if_pos ⟨hlo, hhi⟩, List.getElem?_append_left (by omega)]
    · rw [if_neg (by omega), List.getElem?_append_right (by omega), List.getElem?_drop]
      congr 1
      omega
  · rw [if_neg (by omega), List.getElem?_append_left (by omega), List.getElem?_take, if_pos (by omega)]

/-- The same with the values given by the entries that were sent. -/
theorem writeEntries_map_getElem? {entries : List (List Byte)} {f : List Byte → α}
    (h : start + entries.length ≤ xs.length) (k : Nat) : (writeEntries xs start (entries.map f))[k]? =
      if start ≤ k ∧ k < start + entries.length then (entries[k - start]?).map f else xs[k]? := by
  have hlen : (entries.map f).length = entries.length := List.length_map f
  rw [writeEntries_getElem? (by rw [hlen]; exact h), hlen, List.getElem?_map]

end

/-- The curve that a TONE chunk is written into: the working set's, or the built-in one (R141). -/
theorem builtInCurve_length : builtInCurve.length = 1025 := by simp [builtInCurve_eq]

theorem builtInCurve_getElem? {k : Nat} (h : k < 1025) : builtInCurve[k]? = some ((k * 255 + 512) / 1024) := by
  simp [builtInCurve_eq, h]

/-- Settles O46: the answers by `twrt_answers`, and each table by `writeEntries_map_getElem?`. -/
theorem tableChunkWritten : Obligations.TableChunkWritten := by
  intro s code start entries hc hst hentries hserved fits
  have hfits : fits ↔ chunkOk s.pfs.ws.content code start entries.length = true := chunkOk_iff.symm
  obtain ⟨hbad, hnoBank, hwrite⟩ := twrt_answers hc hst hentries hserved
  refine ⟨fun hno => hbad (by rw [hfits] at hno; simpa using hno),
    fun hok hcode hb => hnoBank (hfits.1 hok) (absentBeam_iff.2 ⟨hcode, hb⟩), fun hok hb => ?_⟩
  have hpresent : absentBeam s.pfs.ws.content code = false := by
    rw [← Bool.not_eq_true, absentBeam_iff]
    exact fun ⟨hcode, hnone⟩ => hb hcode hnone
  obtain ⟨hopen, hshut⟩ := hwrite (hfits.1 hok) hpresent
  obtain ⟨-, -, -, hrange⟩ := hok
  refine ⟨fun ho => chunkStatus_eq ▸ hopen ho, hshut, ?_, ?_, fun b hbeam hgain hweight => ⟨?_, ?_⟩, ?_⟩
  · rintro rfl hlen k -
    exact writeEntries_map_getElem? (hrange.trans hlen.ge) k
  · rintro rfl hlen k -
    exact writeEntries_map_getElem? (hrange.trans hlen.ge) k
  · rintro rfl
    exact ⟨_, by simp only [Content.writeChunk, hbeam, Option.map_some],
      fun k _ => writeEntries_map_getElem? (hrange.trans hgain.ge) k⟩
  · rintro rfl
    exact ⟨_, by simp only [Content.writeChunk, hbeam, Option.map_some],
      fun k _ => writeEntries_map_getElem? (f := weightEntry) (hrange.trans hweight.ge) k⟩
  · rintro rfl htone
    have hlen : (s.pfs.ws.content.tone.getD builtInCurve).length = 1025 := by
      cases ht : s.pfs.ws.content.tone with
      | none => rw [Option.getD_none, builtInCurve_length]
      | some old => rw [Option.getD_some, htone old ht]
    have hfit : start + entries.length ≤ (s.pfs.ws.content.tone.getD builtInCurve).length := by simpa [hlen] using hrange
    refine ⟨writeEntries (s.pfs.ws.content.tone.getD builtInCurve) start (entries.map fromLe), rfl, ?_,
      fun k hk => ⟨fun hlo hhi => ?_, fun hout => ?_⟩⟩
    · rw [writeEntries_length (by simpa using hfit), hlen]
    · rw [writeEntries_map_getElem? hfit, if_pos ⟨hlo, hhi⟩]
    · rw [writeEntries_map_getElem? hfit, if_neg (by omega)]
      refine ⟨fun hnone => ?_, fun old hold => ?_⟩
      · rw [hnone, Option.getD_none, builtInCurve_getElem? hk]
      · rw [hold, Option.getD_some]

end Sys2Proof.Machine
end

section
namespace Sys2Proof.Machine

/-! ## The check value of a profile (R145) -/

/-- One bit of R145's CRC-32: the bit that leaves the remainder, against the message's bit, decides on the generator. -/
def crc32Bit (b : Byte) (c : Word32) (k : Nat) : Word32 :=
  c <<< 1 ^^^ if c.getLsbD 31 = b.getLsbD (7 - k) then 0#32 else 0x04C11DB7#32

/-- A message byte mixed in at the top gives its bits to the remainder one by one. -/
theorem crc32Step_mixed (b : Byte) (c : Word32) {k : Nat} (hk : k < 8) :
    crc32Step (c ^^^ (b.setWidth 32 <<< (24 + k))) = crc32Bit b c k ^^^ (b.setWidth 32 <<< (24 + (k + 1))) := by
  have hout : (c ^^^ (b.setWidth 32 <<< (24 + k))).msb = (c.getLsbD 31 ^^ b.getLsbD (7 - k)) := by
    have hbit : 31 - (24 + k) = 7 - k := by omega
    have hin : ¬31 < 24 + k := by omega
    simp [BitVec.msb_eq_getLsbD_last, hbit, hin]
  have hshift : (c ^^^ (b.setWidth 32 <<< (24 + k))) <<< 1 = c <<< 1 ^^^ (b.setWidth 32 <<< (24 + (k + 1))) := by
    rw [BitVec.shiftLeft_xor_distrib, ← BitVec.shiftLeft_add]
    rfl
  rw [crc32Step, hout, hshift, crc32Bit]
  cases c.getLsbD 31 <;> cases b.getLsbD (7 - k) <;> simp [BitVec.xor_assoc, BitVec.xor_comm _ 79764919#32]

theorem crc32Step_iterate (b : Byte) (c : Word32) {n : Nat} (hn : n ≤ 8) :
    Nat.iterate crc32Step n (c ^^^ (b.setWidth 32 <<< 24)) =
      (List.range n).foldl (crc32Bit b) c ^^^ (b.setWidth 32 <<< (24 + n)) := by
  induction n with
  | zero => rfl
  | succ n ih =>
    rw [Function.iterate_succ_apply', ih (by omega), crc32Step_mixed b _ (by omega), List.range_succ, List.foldl_append]
    rfl

theorem crc32Byte_eq (c : Word32) (b : Byte) : crc32Byte c b = (List.range 8).foldl (crc32Bit b) c := by
  rw [crc32Byte, crc32Step_iterate b c (Nat.le_refl 8), BitVec.shiftLeft_eq_zero (by decide), BitVec.xor_zero]

/-- R145's check value, before its complement: from all ones, byte after byte. -/
theorem crc32_bits : ~~~(crc32 []) = 0xFFFFFFFF#32 ∧ ∀ (bytes : List Byte) (b : Byte),
    ~~~(crc32 (bytes ++ [b])) = (List.range 8).foldl (crc32Bit b) (~~~(crc32 bytes)) := by
  refine ⟨BitVec.not_not, fun bytes b => ?_⟩
  simp only [crc32, BitVec.not_not, List.foldl_append, List.foldl_cons, List.foldl_nil, crc32Byte_eq]

/-! ## The stored form of a profile (R145) -/

theorem le16s_eq (v : Int) : le16s v = le16 (v % 65536).toNat := by
  rw [le16s, BitVec.toNat_ofInt]
  rfl

theorem headByte_eq (o : Option Nat) : headByte o = (match o with | none => 255#8 | some k => BitVec.ofNat 8 k) := by
  cases o <;> rfl

theorem stored_layout (c : Content) :
    let two (v : Nat) : List Byte := [BitVec.ofNat 8 v, BitVec.ofNat 8 (v / 256)]
    let signed (v : Int) : List Byte := two (v % 65536).toNat
    c.stored =
      (two c.profileId ++
        [match c.head with | none => 255#8 | some k => BitVec.ofNat 8 k, if c.beam.isSome = true then 1#8 else 0#8] ++
        two c.width ++ two c.height ++ [if c.tone.isSome = true then 1#8 else 0#8] ++ c.label) ++
      c.mesh.flatMap (fun p => signed p.1 ++ signed p.2) ++ c.gainF.flatMap two ++
      (match c.beam with | some b => b.gainB.flatMap two ++ b.weight.flatMap two | none => []) ++
      (match c.tone with | some x => x.map (BitVec.ofNat 8) | none => []) := by
  have hmesh : meshBytes = fun p : Int × Int => le16 (p.1 % 65536).toNat ++ le16 (p.2 % 65536).toNat := by
    funext p
    rw [meshBytes, le16s_eq, le16s_eq]
  rw [Content.stored, StoredHeader.bytes, Content.header, headByte_eq, hmesh]
  rfl

theorem storedHeader_length {h : StoredHeader} (hl : h.label.length = 16) : h.bytes.length = 25 := by
  simp [StoredHeader.bytes, le16, hl]

theorem storedHeader_label (h : StoredHeader) : h.bytes.drop 9 = h.label := rfl

/-- The header's 25 bytes come first in the stored form. -/
theorem stored_take {c : Content} (hl : c.label.length = 16) : c.stored.take 25 = c.header.bytes := by
  simp only [Content.stored, List.append_assoc]
  exact List.take_left' (storedHeader_length (h := c.header) hl)

/-- A byte appended below a word. -/
theorem toNat_append_byte {n : Nat} (x : BitVec n) (b : Byte) : (x ++ b).toNat = x.toNat * 256 + b.toNat := by
  rw [BitVec.toNat_append, ← Nat.shiftLeft_add_eq_or_of_lt b.isLt, Nat.shiftLeft_eq]

theorem word32Bytes_append (b3 b2 b1 b0 : Byte) : word32Bytes (b3 ++ b2 ++ b1 ++ b0) = [b0, b1, b2, b3] := by
  have h3 := b3.isLt
  have h2 := b2.isLt
  have h1 := b1.isLt
  have h0 := b0.isLt
  have hn : (b3 ++ b2 ++ b1 ++ b0).toNat = ((b3.toNat * 256 + b2.toNat) * 256 + b1.toNat) * 256 + b0.toNat := by
    simp only [toNat_append_byte]
  simp only [word32Bytes, le32, hn, List.cons.injEq, and_true]
  refine ⟨?_, ?_, ?_, ?_⟩ <;> apply BitVec.eq_of_toNat_eq <;> simp [byte] <;> omega

/-! ## The phases of a save (R150) -/

theorem exec_saveProgramDone {s : State} {i : Fin 8} (lost : LostCells) (h : s.pfs.op = some (.save i .program)) :
    exec (.saveProgramDone lost) s = .next (pump (endSave i lost s)) := by
  simp only [exec, execSaveProgramDone, h]

/-- A save whose read-back gives the check value. -/
theorem endSave_saved {s : State} {i : Fin 8} {lost : LostCells} {bytes : List Byte}
    (hb : bytes = loseCells (programmedBytes s.pfs.ws.content) lost)
    (hc : crc32 (slotBytes bytes s.pfs.ws.content.stored.length) = crc32 s.pfs.ws.content.stored) :
    (pump (endSave i lost s)).pfs = { s.pfs.saved i bytes with op := none, lastResult := .ok } ∧
    (s.cdu.riseEn.getLsbD 12 = true → (pump (endSave i lost s)).cdu.latches.getLsbD 12 = true) := by
  subst hb
  have he : endSave i lost s =
      storeDone (s.setPfs (s.pfs.saved i (loseCells (programmedBytes s.pfs.ws.content) lost))) := if_pos hc
  rw [he]
  simp only [pump_frame, pump_latches]
  exact ⟨by simp, storeDone_latched⟩

/-- A save whose read-back gives another check value. -/
theorem endSave_failed {s : State} {i : Fin 8} {lost : LostCells} {bytes : List Byte}
    (hb : bytes = loseCells (programmedBytes s.pfs.ws.content) lost)
    (hc : crc32 (slotBytes bytes s.pfs.ws.content.stored.length) ≠ crc32 s.pfs.ws.content.stored) :
    (pump (endSave i lost s)).pfs = { s.pfs with
      slots := s.pfs.slots.set i { s.pfs.slots[i] with bytes := bytes }, op := none, lastResult := .failVerify } ∧
    (s.cdu.riseEn.getLsbD 13 = true → (pump (endSave i lost s)).cdu.latches.getLsbD 13 = true) := by
  subst hb
  have he : endSave i lost s = storeFailed .failVerify (s.setPfs { s.pfs with
      slots := s.pfs.slots.set i
        { s.pfs.slots[i] with bytes := loseCells (programmedBytes s.pfs.ws.content) lost } }) := if_neg hc
  rw [he]
  simp only [pump_frame, pump_latches]
  exact ⟨by simp, storeFailed_latched .failVerify⟩

/-- Settles O28: the check value by `crc32_bits`, the stored form by its layout, and the end of a save by what its read-back
gives. -/
theorem savePhases : Obligations.SavePhases := by
  refine ⟨crc32_bits, fun c => ⟨stored_layout c, fun hl => ?_⟩, word32Bytes_append,
    fun s i => ⟨fun h => ?_, fun lost h => ?_, fun h => ?_, fun h => ⟨?_, fun lost bytes hb => ⟨fun hc => ?_, fun hc => ?_⟩⟩⟩⟩
  · rw [stored_take hl]
    rfl
  · simp only [exec]
    unfold execSaveEraseDone
    split
    · exact absurd ‹_› (h _)
    · rfl
  · simp only [exec]
    unfold execSaveProgramDone
    split
    · exact absurd ‹_› (h _)
    · rfl
  · simp only [exec, execSaveEraseDone, h]
  · obtain ⟨hpfs, hlatched⟩ := endSave_saved (s := s) (i := i) (lost := []) rfl
      (congrArg crc32 (slotBytes_append s.pfs.ws.content.stored _))
    refine ⟨_, exec_saveProgramDone [] h, ?_⟩
    rw [hpfs]
    refine ⟨rfl, rfl, by simp [Store.saved], ?_, rfl, fun k hk => ?_, hlatched⟩
    · simp [Store.saved, loseCells, programmedBytes]
    · have hne : (i : Nat) ≠ k := fun e => hk (Fin.ext e.symm)
      simp [Store.saved, hne]
  · obtain ⟨hpfs, hlatched⟩ := endSave_saved (i := i) hb hc
    refine ⟨_, exec_saveProgramDone lost h, ?_⟩
    rw [hpfs]
    exact ⟨rfl, rfl, rfl, rfl, rfl, hlatched⟩
  · obtain ⟨hpfs, hlatched⟩ := endSave_failed (i := i) hb hc
    refine ⟨_, exec_saveProgramDone lost h, ?_⟩
    rw [hpfs]
    refine ⟨rfl, rfl, rfl, rfl, by simp, fun k hk => ?_, hlatched⟩
    have hne : (i : Nat) ≠ k := fun e => hk (Fin.ext e.symm)
    simp [hne]

end Sys2Proof.Machine
end

section
namespace Sys2Proof.Machine

/-! ## Reading the stored form back (R145) -/

theorem readEntries_succ (bytes : List Byte) (start n count : Nat) : readEntries bytes start n (count + 1) =
    slotBytes (bytes.drop start) n :: readEntries bytes (start + n) n count := by
  have hfirst (i : Nat) : bytes.getD (start + n * 0 + i) Config.erasedByte =
      (bytes.drop start).getD i Config.erasedByte := by simp
  have hnext (k i : Nat) : bytes.getD (start + n * (k + 1) + i) Config.erasedByte =
      bytes.getD (start + n + n * k + i) Config.erasedByte := by
    congr 1
    ring
  simp only [readEntries, slotBytes, List.range_succ_eq_map, List.map_cons, List.map_map, Function.comp_def, hfirst, hnext]

/-- A run of bytes stands in a slot's bytes from index `start` on. -/
def StandsAt (bytes : List Byte) (start : Nat) (run : List Byte) : Prop :=
  ∃ pre post, bytes = pre ++ (run ++ post) ∧ pre.length = start

theorem StandsAt.split {bytes a b : List Byte} {start : Nat} (h : StandsAt bytes start (a ++ b)) :
    StandsAt bytes start a ∧ StandsAt bytes (start + a.length) b := by
  obtain ⟨pre, post, rfl, rfl⟩ := h
  exact ⟨⟨pre, b ++ post, by simp only [List.append_assoc], rfl⟩,
    ⟨pre ++ a, post, by simp only [List.append_assoc], List.length_append⟩⟩

theorem standsAt_zero (run rest : List Byte) : StandsAt (run ++ rest) 0 run := ⟨[], rest, rfl, rfl⟩

/-- A table of entries of one width, read where it stands. -/
theorem readEntries_table {α : Type} {f : α → List Byte} {n start : Nat} {xs : List α} {bytes : List Byte}
    (h : StandsAt bytes start (xs.flatMap f)) (hf : ∀ x ∈ xs, (f x).length = n) :
    readEntries bytes start n xs.length = xs.map f := by
  induction xs generalizing start with
  | nil => rfl
  | cons x xs ih =>
    obtain rfl : (f x).length = n := hf x List.mem_cons_self
    obtain ⟨hfirst, hrest⟩ := h.split
    obtain ⟨pre, post, rfl, rfl⟩ := hfirst
    rw [List.length_cons, readEntries_succ, List.drop_left, slotBytes_append,
      ih hrest fun y hy => hf y (List.mem_cons_of_mem _ hy), List.map_cons]

/-- A table read where it stands and decoded entry by entry. -/
theorem readEntries_decoded {α : Type} {f : α → List Byte} {g : List Byte → α} {n start count : Nat} {xs : List α}
    {bytes : List Byte} (h : StandsAt bytes start (xs.flatMap f)) (hcount : xs.length = count)
    (hf : ∀ x ∈ xs, (f x).length = n) (hg : ∀ x ∈ xs, g (f x) = x) : (readEntries bytes start n count).map g = xs := by
  subst hcount
  rw [readEntries_table h hf, List.map_map]
  exact (List.map_congr_left hg).trans (List.map_id xs)

theorem fromLe_le16 {n : Nat} (h : n ≤ 65535) : fromLe (le16 n) = n := by
  have := le16_toNat (n := n) (by omega)
  simpa [fromLe, le16] using this

theorem fromLe_byte {n : Nat} (h : n ≤ 255) : fromLe [byte n] = n := by
  have := byte_toNat (n := n) (by omega)
  simpa [fromLe] using this

theorem fromLe16s_le16s {v : Int} (h : -32768 ≤ v) (h' : v ≤ 32767) : fromLe16s (le16s v) = v := by
  have hn : (v % 65536).toNat ≤ 65535 := by omega
  rw [le16s_eq, fromLe16s, fromLe_le16 hn]
  simp only [BitVec.toInt_ofNat', Int.bmod]
  split <;> omega

/-- A table of 357 16-bit numbers. -/
theorem readEntries_numbers {bytes : List Byte} {start : Nat} {xs : List Nat} (h : StandsAt bytes start (xs.flatMap le16))
    (hlen : xs.length = 357) (hle : ∀ x ∈ xs, x ≤ 65535) : (readEntries bytes start 2 357).map fromLe = xs :=
  readEntries_decoded h hlen (fun _ _ => rfl) fun x hx => fromLe_le16 (hle x hx)

/-- A MESH entry comes back from its four bytes. -/
theorem meshBytes_decoded {p : Int × Int} (h : -32768 ≤ p.1 ∧ p.1 ≤ 32767 ∧ -32768 ≤ p.2 ∧ p.2 ≤ 32767) :
    (fromLe16s ((meshBytes p).take 2), fromLe16s ((meshBytes p).drop 2)) = p := by
  obtain ⟨h1, h1', h2, h2'⟩ := h
  exact Prod.ext (fromLe16s_le16s h1 h1') (fromLe16s_le16s h2 h2')

section
variable (c : Content)

/-- The bytes of GAIN_B and WEIGHT in the stored form, none without them. -/
def Content.beamBytes : List Byte :=
  match c.beam with
  | some b => b.gainB.flatMap le16 ++ b.weight.flatMap le16
  | none => []

/-- The bytes of TONE in the stored form, none without it. -/
def Content.toneBytes : List Byte :=
  match c.tone with
  | some t => t.map byte
  | none => []

theorem stored_eq : c.stored =
    c.header.bytes ++ c.mesh.flatMap meshBytes ++ c.gainF.flatMap le16 ++ c.beamBytes ++ c.toneBytes := rfl

end

section
variable {c : Content} (h : c.wellFormed)
include h

/-- The lengths of the parts of the stored form (R138, R145). -/
theorem stored_lengths : c.header.bytes.length = 25 ∧
    (c.mesh.flatMap meshBytes).length = 4 * meshEntries c.header.width c.header.height ∧
    (c.gainF.flatMap le16).length = 2 * 357 ∧
    c.beamBytes.length = (if c.header.fb then 4 * 357 else 0) ∧
    c.toneBytes.length = (if c.header.hasTone then 1025 else 0) := by
  obtain ⟨-, -, -, -, -, -, -, -, hlabel, hmesh, -, hgain, -, hbeam, htone⟩ := h
  have hpairs (l : List Nat) : (l.flatMap le16).length = l.length * 2 := flatMap_const_length fun _ _ => rfl
  refine ⟨storedHeader_length (h := c.header) hlabel, ?_, ?_, ?_, ?_⟩
  · rw [flatMap_const_length (n := 4) fun _ _ => rfl, hmesh]
    exact Nat.mul_comm _ _
  · rw [hpairs, hgain]
  · cases hb : c.beam with
    | none => simp [Content.beamBytes, Content.header, hb]
    | some b =>
      obtain ⟨hgainB, -, hweight, -⟩ := hbeam b hb
      simp [Content.beamBytes, Content.header, hb, hpairs, hgainB, hweight]
  · cases ht : c.tone with
    | none => simp [Content.toneBytes, Content.header, ht]
    | some t => simp [Content.toneBytes, Content.header, ht, (htone t ht).1]

theorem header_length_stored : c.header.length = c.stored.length := by
  obtain ⟨hhead, hmesh, hgain, hbeam, htone⟩ := stored_lengths h
  simp only [stored_eq, List.length_append, hhead, hmesh, hgain, hbeam, htone, StoredHeader.length, Config.gainEntries,
    Config.toneEntries]

/-- Where the parts of the stored form stand. -/
theorem stored_standsAt (rest : List Byte) :
    let mesh := meshEntries c.header.width c.header.height
    let bytes := c.stored ++ rest
    StandsAt bytes 25 (c.mesh.flatMap meshBytes) ∧ StandsAt bytes (25 + 4 * mesh) (c.gainF.flatMap le16) ∧
    StandsAt bytes (25 + 4 * mesh + 2 * 357) c.beamBytes ∧
    StandsAt bytes (25 + 4 * mesh + 2 * 357 + if c.header.fb then 4 * 357 else 0) c.toneBytes := by
  obtain ⟨hhead, hmesh, hgain, hbeam, -⟩ := stored_lengths h
  have hall : StandsAt (c.stored ++ rest) 0 (c.header.bytes ++ c.mesh.flatMap meshBytes ++ c.gainF.flatMap le16 ++
      c.beamBytes ++ c.toneBytes) := standsAt_zero c.stored rest
  obtain ⟨hallButTone, htoneAt⟩ := hall.split
  obtain ⟨hupToGain, hbeamAt⟩ := hallButTone.split
  obtain ⟨hupToMesh, hgainAt⟩ := hupToGain.split
  obtain ⟨-, hmeshAt⟩ := hupToMesh.split
  rw [Nat.zero_add, hhead] at hmeshAt
  rw [Nat.zero_add, List.length_append, hhead, hmesh] at hgainAt
  rw [Nat.zero_add, List.length_append, List.length_append, hhead, hmesh, hgain] at hbeamAt
  rw [Nat.zero_add, List.length_append, List.length_append, List.length_append, hhead, hmesh, hgain, hbeam] at htoneAt
  exact ⟨hmeshAt, hgainAt, hbeamAt, htoneAt⟩

/-! Each table, read where it stands. -/

variable (rest : List Byte)

theorem readContent_mesh : (readContent c.header (c.stored ++ rest)).mesh = c.mesh := by
  obtain ⟨hat, -⟩ := stored_standsAt h rest
  obtain ⟨-, -, -, -, -, -, -, -, -, hlen, hnode, -⟩ := h
  exact readEntries_decoded hat hlen (fun _ _ => rfl) fun p hp => meshBytes_decoded (hnode p hp)

theorem readContent_gainF : (readContent c.header (c.stored ++ rest)).gainF = c.gainF := by
  obtain ⟨-, hat, -⟩ := stored_standsAt h rest
  obtain ⟨-, -, -, -, -, -, -, -, -, -, -, hlen, hle, -⟩ := h
  exact readEntries_numbers hat hlen hle

theorem readContent_beam : (readContent c.header (c.stored ++ rest)).beam = c.beam := by
  obtain ⟨-, -, hat, -⟩ := stored_standsAt h rest
  obtain ⟨-, -, -, -, -, -, -, -, -, -, -, -, -, hbeam, -⟩ := h
  cases hb : c.beam with
  | none => simp [readContent, Content.header, hb]
  | some b =>
    obtain ⟨hgainB, hgainB', hweight, hweight'⟩ := hbeam b hb
    rw [Content.beamBytes, hb] at hat
    obtain ⟨hgainBAt, hweightAt⟩ := hat.split
    rw [flatMap_const_length (n := 2) fun _ _ => rfl, hgainB] at hweightAt
    have hgainBRead := readEntries_numbers hgainBAt hgainB hgainB'
    have hweightRead := readEntries_numbers hweightAt hweight fun w hw => (hweight' w hw).trans (by decide)
    have hfb : c.header.fb = true := by simp [Content.header, hb]
    simp only [readContent, hfb, if_true, Config.gainEntries]
    rw [hgainBRead, hweightRead]

theorem readContent_tone : (readContent c.header (c.stored ++ rest)).tone = c.tone := by
  obtain ⟨-, -, -, hat⟩ := stored_standsAt h rest
  obtain ⟨-, -, -, -, -, -, -, -, -, -, -, -, -, -, htone⟩ := h
  cases ht : c.tone with
  | none => simp [readContent, Content.header, ht]
  | some t =>
    obtain ⟨hlen, hle⟩ := htone t ht
    rw [Content.toneBytes, ht] at hat
    simp only [List.map_eq_flatMap] at hat
    have htoneRead := readEntries_decoded hat hlen (fun _ _ => rfl) fun v hv => fromLe_byte (hle v hv)
    have hhas : c.header.hasTone = true := by simp [Content.header, ht]
    simp only [readContent, hhas, if_true, Config.toneEntries]
    exact congrArg some htoneRead

/-- The stored form reads back as its content, whatever follows it in the slot. -/
theorem readContent_stored : readContent c.header (c.stored ++ rest) = c := by
  have hfields : readContent c.header (c.stored ++ rest) = { c with
      mesh := (readContent c.header (c.stored ++ rest)).mesh, gainF := (readContent c.header (c.stored ++ rest)).gainF,
      beam := (readContent c.header (c.stored ++ rest)).beam, tone := (readContent c.header (c.stored ++ rest)).tone } := rfl
  rw [hfields, readContent_mesh h, readContent_gainF h, readContent_beam h, readContent_tone h]

end

/-! ## The end of a load (R147, R115, R95) -/

/-- The state in which the sequencer hears that the load of slot `i` has ended (R147). -/
structure LoadEnded (cmd : Instr) (i : Fin 8) (s u : State) : Prop where
  csq : u.csq = s.csq
  hpb : u.hpb = s.hpb
  lpc : u.lpc = s.lpc
  pxr : u.pxr = s.pxr
  op : u.pfs.op = none
  copied : cmd = .copyPassDone → u.pfs.lastResult = .ok ∧ u.pfs.directory = s.pfs.directory ∧
    u.pfs.slots = s.pfs.slots ∧ (∀ ws, s.pfs.standby = some ws → u.pfs.ws = ws) ∧
    (s.cdu.riseEn.getLsbD 12 = true → u.cdu.latches.getLsbD 12 = true)
  failed : cmd ≠ .copyPassDone → u.pfs.lastResult = .corrupt ∧ u.pfs.ws.content = s.pfs.ws.content ∧
    u.pfs.directory[i] = corruptRecord s.pfs.directory[i].guarded ∧
    (∀ k, k ≠ i → u.pfs.directory[k] = s.pfs.directory[k]) ∧
    (s.cdu.riseEn.getLsbD 13 = true → u.cdu.latches.getLsbD 13 = true)

theorem exec_copyPassDone {s : State} {i : Fin 8} (h : s.pfs.op = some (.load i .copy)) : exec .copyPassDone s = .next (pump
    (loadCompleted (storeDone (s.setPfs { s.pfs with ws := s.pfs.standby.getD s.pfs.ws, standby := none })))) := by
  simp only [exec, execCopyPassDone, h]

theorem exec_verifyPassDone {s : State} {i : Fin 8} (lost : LostCells) (h : s.pfs.op = some (.load i .verify)) :
    exec (.verifyPassDone lost) s = .next (pump (endVerify i lost s)) := by
  simp only [exec, execVerifyPassDone, h]

theorem EndsLoad.completed {cmd : Instr} {i : Fin 8} {s : State} (h : EndsLoad cmd i s) :
    ∃ u, exec cmd s = .next (pump (loadCompleted u)) ∧ LoadEnded cmd i s u := by
  rcases h with ⟨rfl, hop⟩ | ⟨lost, h, bytes, rfl, hop, hh, rfl, hc⟩
  · refine ⟨_, exec_copyPassDone hop, by simp, by simp, by simp, by simp, by simp,
      fun _ => ⟨by simp, by simp, by simp, fun ws hws => by simp [hws], storeDone_latched⟩, by simp⟩
  · have he := exec_verifyPassDone lost hop
    rw [endVerify_fails hh hc] at he
    refine ⟨_, he, by simp, by simp, by simp, by simp, by simp, by simp,
      fun _ => ⟨by simp, ?_, ?_, fun k hk => ?_, storeFailed_latched .corrupt⟩⟩
    · simp [setRecord_content]
    · simp [Store.setRecord]
    · have hne : (i : Nat) ≠ k := fun e => hk (Fin.ext e.symm)
      simp [Store.setRecord, hne]

/-- A verify pass over contents that match their check begins the copy pass (R147). -/
theorem endVerify_copies {i : Fin 8} {lost : LostCells} {s : State} {h : StoredHeader} {bytes : List Byte}
    (hh : s.pfs.directory[i].header = some h) (hb : bytes = loseCells s.pfs.slots[i].bytes lost)
    (hc : crc32 (slotBytes bytes h.length) = storedCheck bytes h.length) :
    endVerify i lost s = s.setPfs { s.pfs with
      slots := s.pfs.slots.set i { s.pfs.slots[i] with bytes := bytes }, op := some (.load i .copy),
      standby := some { content := readContent h bytes, source := some i, modified := false } } := by
  subst hb
  simp only [endVerify, State.setPfs_pfs, verifiedHeader, hh, if_pos hc]
  rfl

theorem SwitchLeft.not_loading {held : Option Target} {s t : State} (h : SwitchLeft held s t) :
    t.csq.state ≠ .switchLoad := by
  obtain ⟨-, -, -, hhalt, hgo, -, -⟩ := h
  by_cases hc : s.csq.loadHalt = true ∧ HaltCauseHolds t
  · simp [hhalt hc.1 hc.2]
  · rw [hgo (by simpa [imp_iff_not_or] using hc)]
    split_ifs <;> simp

/-- A load that ends in SWITCH-LOAD leaves it (R115). -/
theorem LoadEnded.switchLeft {cmd : Instr} {i : Fin 8} {s u : State} (h : LoadEnded cmd i s u)
    (hs : s.csq.state = .switchLoad) : SwitchLeft s.csq.switchTarget s (pump (loadCompleted u)) := by
  have hu : loadCompleted u = switchExit u := by simp only [loadCompleted, h.csq, hs]
  have hleft := (switchExit_left u).pump
  rw [← hu] at hleft
  simpa only [SwitchLeft, h.csq, h.hpb, h.lpc] using hleft

/-- A load that ends in STARTING ends start-up (R95). -/
theorem LoadEnded.startUpEnds {cmd : Instr} {i : Fin 8} {s u : State} (h : LoadEnded cmd i s u)
    (hs : s.csq.state = .starting) : StartUpEnds s (pump (loadCompleted u)) := by
  have hu : loadCompleted u = endStartUp u := by simp only [loadCompleted, h.csq, hs]
  have hends := endStartUp_ends u
  rw [← hu] at hends
  have hc : HaltCauseHolds (pump (loadCompleted u)) ↔ HaltCauseHolds (loadCompleted u) :=
    HaltCauseHolds.congr (by simp) (by simp)
  simpa only [StartUpEnds, hc, pump_frame, h.csq, h.lpc, h.pxr] using hends

/-- Settles O27: the stored form read back table by table, and the end of a load by what it leaves the sequencer. -/
theorem loadPassesVerifyThenCopy : Obligations.LoadPassesVerifyThenCopy := by
  refine ⟨fun c rest h => ⟨readContent_stored h rest, header_length_stored h, ?_⟩,
    ⟨fun s lost => ⟨fun h => ?_, fun h => ?_, fun i h bytes hop hh hb => ⟨fun hc => ?_, fun hc hs => ?_⟩,
      fun i ws hop hws hs => ?_⟩, fun s cmd i hs hends => ?_⟩, fun s cmd i hs hends => ?_⟩
  · rw [header_length_stored h, slotBytes_append]
  · simp only [exec]
    unfold execVerifyPassDone
    split
    · exact absurd ‹_› (h _)
    · rfl
  · simp only [exec]
    unfold execCopyPassDone
    split
    · exact absurd ‹_› (h _)
    · rfl
  · refine ⟨_, exec_verifyPassDone lost hop, ?_⟩
    rw [endVerify_copies hh hb hc]
    simp
  · have hends : EndsLoad (.verifyPassDone lost) i s := .inr ⟨lost, h, bytes, rfl, hop, hh, hb, hc⟩
    obtain ⟨u, he, hu⟩ := hends.completed
    obtain ⟨hresult, hcontent, hrecord, hother, hlatched⟩ := hu.failed (by simp)
    refine ⟨_, he, ?_, ?_, ?_, ?_, ?_, (hu.switchLeft hs).not_loading, ?_, ?_⟩ <;>
      simp only [pump_frame, pump_latches, loadCompleted_frame]
    · exact hu.op
    · exact hresult
    · exact hcontent
    · rw [hrecord]
      rfl
    · rw [hrecord]
      rfl
    · exact hother
    · exact hlatched
  · have hends : EndsLoad .copyPassDone i s := .inl ⟨rfl, hop⟩
    obtain ⟨u, he, hu⟩ := hends.completed
    obtain ⟨hresult, hdirectory, hslots, hcopy, hlatched⟩ := hu.copied rfl
    refine ⟨_, he, ?_, ?_, ?_, ?_, ?_, (hu.switchLeft hs).not_loading, ?_⟩ <;>
      simp only [pump_frame, pump_latches, loadCompleted_frame]
    · exact hcopy ws hws
    · exact hu.op
    · exact hresult
    · exact hdirectory
    · exact hslots
    · exact hlatched
  · obtain ⟨u, he, hu⟩ := hends.completed
    exact ⟨_, he, hu.switchLeft hs⟩
  · obtain ⟨u, he, hu⟩ := hends.completed
    refine ⟨_, he, ?_, hu.startUpEnds hs, ?_, fun ws hcmd hws => ?_, fun hcmd => ?_⟩ <;>
      simp only [pump_frame, loadCompleted_frame]
    · exact hu.op
    · exact hu.hpb
    · obtain ⟨hresult, -, -, hcopy, -⟩ := hu.copied hcmd
      exact ⟨hcopy ws hws, hresult⟩
    · obtain ⟨hresult, hcontent, hrecord, -, -⟩ := hu.failed hcmd
      exact ⟨hcontent, hresult, by rw [hrecord]; rfl⟩

end Sys2Proof.Machine
end

section
namespace Sys2Proof.Machine

/-! ## The header in a slot's first bytes (R145, R158) -/

theorem slotBytes_header (bytes : List Byte) : slotBytes bytes 25 =
    [bytes.getD 0 0xFF, bytes.getD 1 0xFF, bytes.getD 2 0xFF, bytes.getD 3 0xFF, bytes.getD 4 0xFF, bytes.getD 5 0xFF,
      bytes.getD 6 0xFF, bytes.getD 7 0xFF, bytes.getD 8 0xFF] ++ (slotBytes bytes 25).drop 9 := rfl

/-- A slot begins with a header's bytes exactly when each of its fields stands in its place. -/
theorem slotBytes_eq_header (bytes : List Byte) (h : StoredHeader) : slotBytes bytes 25 = h.bytes ↔
    (bytes.getD 0 0xFF = byte h.profileId ∧ bytes.getD 1 0xFF = byte (h.profileId / 256)) ∧
    bytes.getD 2 0xFF = headByte h.head ∧ bytes.getD 3 0xFF = flagByte h.fb ∧
    (bytes.getD 4 0xFF = byte h.width ∧ bytes.getD 5 0xFF = byte (h.width / 256)) ∧
    (bytes.getD 6 0xFF = byte h.height ∧ bytes.getD 7 0xFF = byte (h.height / 256)) ∧
    bytes.getD 8 0xFF = flagByte h.hasTone ∧ (slotBytes bytes 25).drop 9 = h.label := by
  have hbytes : h.bytes = [byte h.profileId, byte (h.profileId / 256), headByte h.head, flagByte h.fb, byte h.width,
      byte (h.width / 256), byte h.height, byte (h.height / 256), flagByte h.hasTone] ++ h.label := rfl
  have hhead := slotBytes_header bytes
  generalize (slotBytes bytes 25).drop 9 = label at hhead ⊢
  rw [hhead, hbytes]
  simp only [List.cons_append, List.nil_append, List.cons.injEq, and_assoc]

section
variable {b b' : Byte}

/-- A 16-bit field and its two bytes. -/
theorem le16_field {n : Nat} : n ≤ 65535 ∧ b = byte n ∧ b' = byte (n / 256) ↔ b.toNat + 256 * b'.toNat = n := by
  have hb := b.isLt
  have hb' := b'.isLt
  simp only [← BitVec.toNat_inj, byte, BitVec.toNat_ofNat]
  omega

/-- A flag and its byte. -/
theorem flag_field {v : Bool} : b = flagByte v ↔ b.toNat ≤ 1 ∧ decide (b.toNat = 1) = v := by
  have hb := b.isLt
  cases v <;> simp [flagByte, ← BitVec.toNat_inj] <;> omega

/-- A head binding and its byte: 255 when unbound. -/
theorem head_field {o : Option Nat} : (∀ k, o = some k → k ≤ 11) ∧ b = headByte o ↔
    (b.toNat ≤ 11 ∨ b.toNat = 255) ∧ (if b.toNat = 255 then none else some b.toNat) = o := by
  have hb := b.isLt
  cases o with
  | none =>
    simp [headByte, byte, ← BitVec.toNat_inj]
    omega
  | some k =>
    simp only [headByte, byte, Option.some.injEq, Option.getD_some, forall_eq', ← BitVec.toNat_inj, BitVec.toNat_ofNat]
    split
    · simp
      omega
    · simp
      omega

end

theorem slotBytes_length (bytes : List Byte) (n : Nat) : (slotBytes bytes n).length = n := by simp [slotBytes]

/-- A header is read exactly from its own 25 bytes (R158). -/
theorem readHeader_iff (bytes : List Byte) (h : StoredHeader) :
    readHeader bytes = some h ↔ h.wellFormed ∧ slotBytes bytes 25 = h.bytes := by
  have hlabel : ((slotBytes bytes 25).drop 9).length = 16 := by rw [List.length_drop, slotBytes_length]
  rw [slotBytes_eq_header]
  obtain ⟨id, head, fb, w, ht, tone, label⟩ := h
  simp only [readHeader, Option.ite_none_right_eq_some, Option.some.injEq, StoredHeader.mk.injEq, StoredHeader.wellFormed]
  constructor
  · rintro ⟨⟨hid, hhead, hfb, htone, hwm, hw0, hw1, hhm, hh0, hh1⟩, hidEq, hheadEq, hfbEq, hwEq, hhEq, htoneEq, hlabelEq⟩
    obtain ⟨hidLe, hidBytes⟩ := le16_field.2 hidEq
    obtain ⟨hheadLe, hheadByte⟩ := head_field.2 ⟨hhead, hheadEq⟩
    obtain ⟨-, hwBytes⟩ := le16_field.2 hwEq
    obtain ⟨-, hhBytes⟩ := le16_field.2 hhEq
    rw [hidEq] at hid
    rw [hwEq] at hwm hw0 hw1
    rw [hhEq] at hhm hh0 hh1
    exact ⟨⟨hid, hidLe, hheadLe, hwm, hw0, hw1, hhm, hh0, hh1, hlabelEq ▸ hlabel⟩,
      hidBytes, hheadByte, flag_field.2 ⟨hfb, hfbEq⟩, hwBytes, hhBytes, flag_field.2 ⟨htone, htoneEq⟩, hlabelEq⟩
  · rintro ⟨⟨hid, hidLe, hheadLe, hwm, hw0, hw1, hhm, hh0, hh1, -⟩, hidBytes, hheadByte, hfbByte, hwBytes, hhBytes, htoneByte,
      hlabelEq⟩
    have hidEq := le16_field.1 ⟨hidLe, hidBytes⟩
    obtain ⟨hhead, hheadEq⟩ := head_field.1 ⟨hheadLe, hheadByte⟩
    obtain ⟨hfb, hfbEq⟩ := flag_field.1 hfbByte
    obtain ⟨htone, htoneEq⟩ := flag_field.1 htoneByte
    have hwEq := le16_field.1 ⟨hw1.trans (by decide), hwBytes⟩
    have hhEq := le16_field.1 ⟨hh1.trans (by decide), hhBytes⟩
    rw [← hidEq] at hid
    rw [← hwEq] at hwm hw0 hw1
    rw [← hhEq] at hhm hh0 hh1
    exact ⟨⟨hid, hhead, hfb, htone, hwm, hw0, hw1, hhm, hh0, hh1⟩, hidEq, hheadEq, hfbEq, hwEq, hhEq, htoneEq, hlabelEq⟩

/-- The check stored after `m` bytes, from its four bytes lowest first. -/
theorem storedCheck_eq (bytes : List Byte) (m : Nat) : storedCheck bytes m =
    bytes.getD (m + 3) 0xFF#8 ++ bytes.getD (m + 2) 0xFF#8 ++ bytes.getD (m + 1) 0xFF#8 ++ bytes.getD m 0xFF#8 := by
  apply BitVec.eq_of_toNat_eq
  have hlist : (List.range 4).map (fun i => bytes.getD (m + i) Config.erasedByte) =
      [bytes.getD m 0xFF#8, bytes.getD (m + 1) 0xFF#8, bytes.getD (m + 2) 0xFF#8, bytes.getD (m + 3) 0xFF#8] := rfl
  rw [storedCheck, hlist, toNat_append_byte, toNat_append_byte, toNat_append_byte, BitVec.toNat_ofNat]
  have h0 := (bytes.getD m 0xFF#8).isLt
  have h1 := (bytes.getD (m + 1) 0xFF#8).isLt
  have h2 := (bytes.getD (m + 2) 0xFF#8).isLt
  have h3 := (bytes.getD (m + 3) 0xFF#8).isLt
  simp only [fromLe]
  omega

/-! ## The scan's classes (R158) -/

/-- A record with a header and a check exactly when its slot is VALID (R146). -/
def DirRecord.coherent (r : DirRecord) : Prop :=
  (r.header.isSome = true ↔ r.state = .valid) ∧ (r.check.isSome = true ↔ r.state = .valid)

/-- A slot's contents that make it VALID by themselves, with header `h`. -/
def StoreSlot.Holds (x : StoreSlot) (h : StoredHeader) : Prop :=
  x.workMark = false ∧ blankBytes x.bytes = false ∧ readHeader x.bytes = some h ∧
    crc32 (slotBytes x.bytes h.length) = storedCheck x.bytes h.length

section
variable {x : StoreSlot}

theorem classifySlot_marked (h : x.workMark = true) : classifySlot x = corruptRecord x.protectMark := if_pos h

theorem classifySlot_blank (h : x.workMark = false) (hb : blankBytes x.bytes = true) :
    classifySlot x = { state := .empty, guarded := x.protectMark, header := none, check := none } := by
  simp [classifySlot, h, hb]

theorem classifySlot_holds {h : StoredHeader} (hx : x.Holds h) : classifySlot x =
    { state := .valid, guarded := x.protectMark, header := some h, check := some (storedCheck x.bytes h.length) } := by
  obtain ⟨hw, hb, hr, hc⟩ := hx
  simp [classifySlot, hw, hb, hr, hc]

theorem classifySlot_damaged (hw : x.workMark = false) (hb : blankBytes x.bytes = false) (hx : ∀ h, ¬x.Holds h) :
    classifySlot x = corruptRecord x.protectMark := by
  have hbad (h : StoredHeader) (hr : readHeader x.bytes = some h) :
      crc32 (slotBytes x.bytes h.length) ≠ storedCheck x.bytes h.length := fun hc => hx h ⟨hw, hb, hr, hc⟩
  cases hr : readHeader x.bytes with
  | none => simp [classifySlot, hw, hb, hr]
  | some h => simp [classifySlot, hw, hb, hr, hbad h hr]

/-- The four classes of R158, of a slot by itself. -/
theorem classifySlot_cases (x : StoreSlot) :
    (classifySlot x = corruptRecord x.protectMark ∧ ∀ h, ¬x.Holds h) ∨
    (classifySlot x = { state := .empty, guarded := x.protectMark, header := none, check := none } ∧ ∀ h, ¬x.Holds h) ∨
    ∃ h, x.Holds h ∧ classifySlot x =
      { state := .valid, guarded := x.protectMark, header := some h, check := some (storedCheck x.bytes h.length) } := by
  by_cases hw : x.workMark = true
  · exact .inl ⟨classifySlot_marked hw, fun h ⟨hw', _⟩ => by simp [hw] at hw'⟩
  · rw [Bool.not_eq_true] at hw
    by_cases hb : blankBytes x.bytes = true
    · exact .inr (.inl ⟨classifySlot_blank hw hb, fun h ⟨_, hb', _⟩ => by simp [hb] at hb'⟩)
    · rw [Bool.not_eq_true] at hb
      by_cases hx : ∃ h, x.Holds h
      · obtain ⟨h, hx⟩ := hx
        exact .inr (.inr ⟨h, hx, classifySlot_holds hx⟩)
      · exact .inl ⟨classifySlot_damaged hw hb (not_exists.1 hx), not_exists.1 hx⟩

theorem classifySlot_guarded (x : StoreSlot) : (classifySlot x).guarded = x.protectMark := by
  rcases classifySlot_cases x with ⟨hx, -⟩ | ⟨hx, -⟩ | ⟨h, -, hx⟩ <;> simp [hx, corruptRecord]

theorem classifySlot_coherent (x : StoreSlot) : (classifySlot x).coherent := by
  rcases classifySlot_cases x with ⟨hx, -⟩ | ⟨hx, -⟩ | ⟨h, -, hx⟩ <;>
    simp [hx, DirRecord.coherent, corruptRecord]

theorem classifySlot_validId {n : Nat} : (classifySlot x).validId = some n ↔ ∃ h, x.Holds h ∧ h.profileId = n := by
  rcases classifySlot_cases x with ⟨hx, hno⟩ | ⟨hx, hno⟩ | ⟨h, hholds, hx⟩
  · simp [hx, hno, DirRecord.validId, corruptRecord]
  · simp [hx, hno, DirRecord.validId]
  · have huniq (k : StoredHeader) (hk : x.Holds k) : k = h := by
      obtain ⟨-, -, hr, -⟩ := hholds
      obtain ⟨-, -, hr', -⟩ := hk
      exact Option.some.inj (hr'.symm.trans hr)
    rw [hx]
    simp only [DirRecord.validId, if_true, Option.map_some, Option.some.injEq]
    exact ⟨fun e => ⟨h, hholds, e⟩, fun ⟨k, hk, e⟩ => huniq k hk ▸ e⟩

end

/-- A lower-numbered slot is VALID by itself with the profile id that slot `i` holds. -/
def IdBelow (slots : Vector StoreSlot 8) (i : Fin 8) : Prop :=
  ∃ j, j < i ∧ (classifySlot slots[j]).validId = (classifySlot slots[i]).validId

section
variable {slots : Vector StoreSlot 8} {i : Fin 8}

/-- A slot VALID by itself is CORRUPT in the scan's directory when a lower one has its profile id, and every other slot is as
it is by itself (R158). -/
theorem scanDirectory_cases (slots : Vector StoreSlot 8) (i : Fin 8) :
    ((classifySlot slots[i]).state = .valid ∧ IdBelow slots i ∧
      (scanDirectory slots)[i] = corruptRecord (classifySlot slots[i]).guarded) ∨
    (¬((classifySlot slots[i]).state = .valid ∧ IdBelow slots i) ∧ (scanDirectory slots)[i] = classifySlot slots[i]) := by
  have hany : (allStoreSlots.any fun j => j < i && (classifySlot slots[j]).validId = (classifySlot slots[i]).validId) = true ↔
      IdBelow slots i := by
    simp [IdBelow, List.any_eq_true, mem_allStoreSlots]
  have hget : (scanDirectory slots)[i] = if (classifySlot slots[i]).state = .valid ∧
      (allStoreSlots.any fun j => j < i && (classifySlot slots[j]).validId = (classifySlot slots[i]).validId) = true then
        corruptRecord (classifySlot slots[i]).guarded else classifySlot slots[i] := by
    simp [scanDirectory]
  by_cases h : (classifySlot slots[i]).state = .valid ∧ IdBelow slots i
  · exact .inl ⟨h.1, h.2, hget.trans (if_pos ⟨h.1, hany.2 h.2⟩)⟩
  · exact .inr ⟨h, hget.trans (if_neg fun ⟨hv, hb⟩ => h ⟨hv, hany.1 hb⟩)⟩

/-- A VALID record of the scan is the slot's own, and no lower slot has its profile id. -/
theorem scanDirectory_valid (h : (scanDirectory slots)[i].state = .valid) :
    (scanDirectory slots)[i] = classifySlot slots[i] ∧ ¬IdBelow slots i := by
  rcases scanDirectory_cases slots i with ⟨-, -, he⟩ | ⟨hn, he⟩
  · rw [he] at h
    cases h
  · exact ⟨he, fun hb => hn ⟨he ▸ h, hb⟩⟩

theorem validId_some {r : DirRecord} {n : Nat} (h : r.validId = some n) : r.state = .valid := by
  unfold DirRecord.validId at h
  split at h
  · assumption
  · cases h

/-- The profile ids below a slot are those of the VALID slots there, by themselves or in the scan's directory: the lowest slot
of an id keeps it. -/
theorem scanDirectory_idBelow (n : Nat) : (∃ j, j < i ∧ (scanDirectory slots)[j].validId = some n) ↔
    ∃ j, j < i ∧ (classifySlot slots[j]).validId = some n := by
  constructor
  · rintro ⟨j, hj, hid⟩
    obtain ⟨he, -⟩ := scanDirectory_valid (validId_some hid)
    exact ⟨j, hj, he ▸ hid⟩
  · rintro ⟨j, hj, hid⟩
    induction j using WellFoundedLT.induction with
    | _ j ih =>
      rcases scanDirectory_cases slots j with ⟨-, ⟨k, hk, hsame⟩, -⟩ | ⟨-, he⟩
      · exact ih k hk (hk.trans hj) (hsame.trans hid)
      · exact ⟨j, hj, he ▸ hid⟩

/-- No two VALID slots of the scan's directory share a profile id (R146). -/
theorem scanDirectory_unique {j : Fin 8} (hij : i ≠ j) (hi : (scanDirectory slots)[i].state = .valid)
    (hj : (scanDirectory slots)[j].state = .valid) : (scanDirectory slots)[i].validId ≠ (scanDirectory slots)[j].validId := by
  obtain ⟨hei, hbi⟩ := scanDirectory_valid hi
  obtain ⟨hej, hbj⟩ := scanDirectory_valid hj
  rw [hei, hej]
  intro he
  rcases lt_or_gt_of_ne hij with h | h
  · exact hbj ⟨i, h, he⟩
  · exact hbi ⟨j, h, he.symm⟩

theorem scanDirectory_coherent (slots : Vector StoreSlot 8) (i : Fin 8) : (scanDirectory slots)[i].coherent := by
  rcases scanDirectory_cases slots i with ⟨-, -, he⟩ | ⟨-, he⟩ <;> rw [he]
  · simp [DirRecord.coherent, corruptRecord]
  · exact classifySlot_coherent _

/-- The class of a slot in the scan's directory `d` by the slot's contents `x` (R158). -/
def ScanClasses (d : Vector DirRecord 8) (x : StoreSlot) (i : Fin 8) : Prop :=
  d[i].guarded = x.protectMark ∧
  (x.workMark = true → d[i].state = .corrupt) ∧
  (x.workMark = false → blankBytes x.bytes = true → d[i].state = .empty) ∧
  (∀ h, x.Holds h →
    ((∀ j, j < i → d[j].validId ≠ some h.profileId) → d[i].state = .valid) ∧
    ((∃ j, j < i ∧ d[j].validId = some h.profileId) → d[i].state = .corrupt)) ∧
  (x.workMark = false → blankBytes x.bytes = false → (∀ h, ¬x.Holds h) → d[i].state = .corrupt) ∧
  (d[i].state = .valid → ∃ h, x.Holds h ∧ d[i].header = some h ∧ d[i].check = some (storedCheck x.bytes h.length))

theorem scanDirectory_guarded (slots : Vector StoreSlot 8) (i : Fin 8) :
    (scanDirectory slots)[i].guarded = slots[i].protectMark := by
  rcases scanDirectory_cases slots i with ⟨-, -, he⟩ | ⟨-, he⟩ <;> rw [he]
  · exact classifySlot_guarded _
  · exact classifySlot_guarded _

/-- A slot that is not VALID by itself has its own class in the scan's directory. -/
theorem scanDirectory_alone (h : (classifySlot slots[i]).state ≠ .valid) :
    (scanDirectory slots)[i] = classifySlot slots[i] := by
  rcases scanDirectory_cases slots i with ⟨hv, -, -⟩ | ⟨-, he⟩
  · exact absurd hv h
  · exact he

theorem scanDirectory_classes (slots : Vector StoreSlot 8) (i : Fin 8) :
    ScanClasses (scanDirectory slots) slots[i] i := by
  refine ⟨scanDirectory_guarded slots i, fun hw => ?_, fun hw hb => ?_, fun h hx => ?_, fun hw hb hx => ?_, fun hv => ?_⟩
  · have hc := classifySlot_marked hw
    rw [scanDirectory_alone (by rw [hc]; simp [corruptRecord]), hc]
    rfl
  · have hc := classifySlot_blank hw hb
    rw [scanDirectory_alone (by rw [hc]; simp), hc]
  · have hid : (classifySlot slots[i]).validId = some h.profileId := classifySlot_validId.2 ⟨h, hx, rfl⟩
    have hbelow : (∃ j, j < i ∧ (scanDirectory slots)[j].validId = some h.profileId) ↔ IdBelow slots i := by
      rw [scanDirectory_idBelow, IdBelow, hid]
    rcases scanDirectory_cases slots i with ⟨-, hb, he⟩ | ⟨hn, he⟩
    · obtain ⟨j, hj, hsame⟩ := hbelow.2 hb
      exact ⟨fun hno => absurd hsame (hno j hj), fun _ => by rw [he]; rfl⟩
    · have hv : (classifySlot slots[i]).state = .valid := validId_some hid
      exact ⟨fun _ => by rw [he, hv], fun hb => absurd ⟨hv, hbelow.1 hb⟩ hn⟩
  · have hc := classifySlot_damaged hw hb hx
    rw [scanDirectory_alone (by rw [hc]; simp [corruptRecord]), hc]
    rfl
  · obtain ⟨he, -⟩ := scanDirectory_valid hv
    rw [he] at hv ⊢
    rcases classifySlot_cases slots[i] with ⟨hc, -⟩ | ⟨hc, -⟩ | ⟨h, hx, hc⟩ <;> rw [hc] at hv ⊢
    · cases hv
    · cases hv
    · exact ⟨h, hx, rfl, rfl⟩

end

/-! ## The end of the scan (R95, R158) -/

/-- What start-up's choice of its load leaves of the store. -/
theorem startUpProgress_store (s : State) : (startUpProgress s).pfs.directory = s.pfs.directory ∧
    (startUpProgress s).pfs.slots = s.pfs.slots ∧ (startUpProgress s).csq.scanDone = s.csq.scanDone := by
  unfold startUpProgress
  split
  · dsimp only
    split
    · rename_i i hi
      obtain ⟨k, -, hk⟩ := Option.bind_eq_some_iff.1 hi
      obtain ⟨⟨hv, -⟩, -⟩ := ((boundSlot_spec _ k).1 i).1 hk
      rw [beginLoad_valid hv]
      exact ⟨rfl, rfl, rfl⟩
    · refine ⟨by simp, by simp, ?_⟩
      unfold endStartUp
      dsimp only
      split <;> rfl
  · exact ⟨rfl, rfl, rfl⟩

/-- The part with the scan's directory, before start-up goes on. -/
def scanned (s : State) : State :=
  (s.setPfs { s.pfs with directory := scanDirectory s.pfs.slots }).setCsq { s.csq with scanDone := true }

theorem exec_startupScanDone {s : State} (hs : s.csq.state = .starting) (hd : s.csq.scanDone = false) :
    exec .startupScanDone s = .next (pump (startUpProgress (scanned s))) := by
  simp only [exec, execStartupScanDone, hs, hd, and_self, if_true]
  rfl

end Sys2Proof.Machine
end

section
namespace Sys2Proof.Machine

/-! ## Start-up is entered by a full reset alone (R94) -/

section
variable {s : State}

theorem completeExposure_state (s : State) : (completeExposure s).csq.state = s.csq.state := by
  cases hx : s.csq.exposure with
  | none => simp only [completeExposure, hx]
  | some r =>
    obtain ⟨r', u, v, c, -, he, hcsq, -⟩ := completeExposure_parts hx
    rw [he, State.setCdu_csq, sequencerCompleted_state, hcsq]

theorem sequencerAbandon_starting {why : AbandonReason} (h : (sequencerAbandon why s).csq.state = .starting) :
    s.csq.state = .starting := by
  unfold sequencerAbandon at h
  split at h
  · exact h
  · simpa using abandonExposure_state h

theorem dropFrame_state (s : State) : (dropFrame s).csq.state = s.csq.state := by
  obtain ⟨hcsq, -⟩ := dropFrame_spec s
  rw [hcsq]

theorem haltFor_starting {why : AbandonReason} (h : (haltFor why s).csq.state = .starting) : s.csq.state = .starting := by
  unfold haltFor at h
  split at h
  · exact h
  · exact h
  · simp [enter] at h

theorem haltExit_starting (h : (haltExit s).csq.state = .starting) : s.csq.state = .starting := by
  unfold haltExit at h
  split at h
  · simp only [enter, State.setCsq_csq] at h
    split at h
    · cases h
    · exact absurd h (runOrIdle_ne_starting s)
  · exact h

theorem afterTemperature_starting (h : (afterTemperature s).csq.state = .starting) : s.csq.state = .starting := by
  have h' : (examineCutoff s).csq.state = .starting := by simpa [afterTemperature] using h
  unfold examineCutoff at h'
  dsimp only at h'
  split at h'
  · exact h'
  · split at h'
    · simpa using haltFor_starting h'
    · simpa using haltExit_starting h'

theorem switchExit_starting (s : State) : (switchExit s).csq.state ≠ .starting := by
  simp only [switchExit, State.setCsq_csq]
  split_ifs
  · simp
  · simp
  · exact runOrIdle_ne_starting s

/-- The end of a load does not enter STARTING, and leaves it (R95). -/
theorem loadCompleted_starting (s : State) : (loadCompleted s).csq.state ≠ .starting := by
  unfold loadCompleted
  split
  · obtain ⟨-, -, -, -, hhalt, hgo, -⟩ := endStartUp_ends s
    by_cases hc : HaltCauseHolds (endStartUp s)
    · simp [hhalt hc]
    · rw [hgo hc]
      split <;> simp
  · exact switchExit_starting s
  · assumption

theorem takeTarget_state (t : Target) (s : State) : (takeTarget t s).csq.state = s.csq.state := by
  unfold takeTarget
  split <;> rfl

theorem headChangeReported_state (k : Fin 12) (s : State) : (headChangeReported k s).csq.state = s.csq.state := by
  unfold headChangeReported
  split
  · rfl
  · split
    · rfl
    · exact takeTarget_state _ s

theorem reportHeadChange_pfs (last : Option (Fin 12)) (c : Classification) (s : State) :
    (reportHeadChange last c s).pfs = s.pfs := by
  unfold reportHeadChange
  split
  · split <;> simp
  · rfl

theorem reportHeadChange_state (last : Option (Fin 12)) (c : Classification) (s : State) :
    (reportHeadChange last c s).csq.state = s.csq.state := by
  unfold reportHeadChange
  split
  · split
    · rfl
    · rw [headChangeReported_state]
      simp
  · rfl

theorem leaveStill_starting (s : State) : (leaveStill s).csq.state ≠ .starting := runOrIdle_ne_starting s

theorem closeOpenLine_state (s : State) : (closeOpenLine s).csq.state = s.csq.state := by
  unfold closeOpenLine closeLine receiveLine markRecord
  dsimp only
  (repeat' split) <;> simp

theorem closeOpenLine_pfs (s : State) : (closeOpenLine s).pfs = s.pfs := by
  unfold closeOpenLine closeLine receiveLine markRecord
  dsimp only
  (repeat' split) <;> simp

end

/-! ## What the shared operations do to the directory (R146) -/

/-- A slot's record keeps its class, header and check, or the slot leaves the VALID state. -/
def DirRecord.KeptOrLost (r r' : DirRecord) : Prop :=
  (r'.state = r.state ∧ r'.header = r.header ∧ r'.check = r.check) ∨
    (r'.state ≠ .valid ∧ r'.header = none ∧ r'.check = none)

theorem DirRecord.KeptOrLost.refl (r : DirRecord) : r.KeptOrLost r := .inl ⟨rfl, rfl, rfl⟩

theorem DirRecord.KeptOrLost.trans {r r' r'' : DirRecord} (h : r.KeptOrLost r') (h' : r'.KeptOrLost r'') :
    r.KeptOrLost r'' := by
  rcases h' with ⟨h1, h2, h3⟩ | h'
  · simpa only [DirRecord.KeptOrLost, h1, h2, h3] using h
  · exact .inr h'

theorem corruptRecord_lost (r : DirRecord) (guarded : Bool) : r.KeptOrLost (corruptRecord guarded) :=
  .inr ⟨by simp [corruptRecord], rfl, rfl⟩

/-- The part goes from `s` to `t` with no new VALID slot, no save begun, the content of a save as it was, and start-up not
entered. -/
structure DirectoryMove (s t : State) : Prop where
  record : ∀ i : Fin 8, s.pfs.directory[i].KeptOrLost t.pfs.directory[i]
  saving : ∀ i p, t.pfs.op = some (.save i p) →
    (∃ p', s.pfs.op = some (.save i p')) ∧ t.pfs.ws.content = s.pfs.ws.content
  starting : t.csq.state = .starting → s.csq.state = .starting

theorem DirectoryMove.refl (s : State) : DirectoryMove s s := ⟨fun _ => .refl _, fun _ p h => ⟨⟨p, h⟩, rfl⟩, id⟩

theorem DirectoryMove.trans {s u t : State} (h : DirectoryMove s u) (h' : DirectoryMove u t) : DirectoryMove s t := by
  refine ⟨fun i => (h.record i).trans (h'.record i), fun i p ht => ?_, fun ht => h.starting (h'.starting ht)⟩
  obtain ⟨⟨p', hu⟩, hcontent⟩ := h'.saving i p ht
  obtain ⟨hs, hcontent'⟩ := h.saving i p' hu
  exact ⟨hs, hcontent.trans hcontent'⟩

/-- The store as it was. -/
theorem DirectoryMove.of_pfs {s t : State} (h : t.pfs = s.pfs) (hs : t.csq.state = .starting → s.csq.state = .starting) :
    DirectoryMove s t :=
  ⟨fun i => by rw [h]; exact .refl _, fun i p ht => ⟨⟨p, h ▸ ht⟩, by rw [h]⟩, hs⟩

/-- The store and the sequencer as they were. -/
theorem DirectoryMove.of_frame {s t : State} (h : t.pfs = s.pfs) (hc : t.csq = s.csq) : DirectoryMove s t :=
  .of_pfs h (by rw [hc]; exact id)

/-- A move told of another part with the same store and sequencer. -/
theorem DirectoryMove.from_frame {s u t : State} (m : DirectoryMove u t) (h : u.pfs = s.pfs) (hc : u.csq = s.csq) :
    DirectoryMove s t := .trans (.of_frame h hc) m

/-- The store with no save after it, the sequencer as it was. -/
theorem DirectoryMove.of_idle {s t : State} (hr : ∀ i : Fin 8, s.pfs.directory[i].KeptOrLost t.pfs.directory[i])
    (ho : ∀ i p, t.pfs.op ≠ some (.save i p)) (hc : t.csq = s.csq) : DirectoryMove s t :=
  ⟨hr, fun i p ht => absurd ht (ho i p), by rw [hc]; exact id⟩

/-- Records kept or lost keep the invariant; what a save running after them must find is for the caller to show. -/
theorem DirectoryInv.of_records {s t : State} (h : DirectoryInv s)
    (hr : ∀ i : Fin 8, s.pfs.directory[i].KeptOrLost t.pfs.directory[i])
    (hsave : ∀ i p, t.pfs.op = some (.save i p) → t.csq.state ≠ .starting ∧ ∀ (j : Fin 8) (k : StoredHeader), j ≠ i →
      s.pfs.directory[j].header = some k → k.profileId ≠ t.pfs.ws.content.profileId) : DirectoryInv t := by
  obtain ⟨hcoherent, hunique, -⟩ := h
  have hheader (i : Fin 8) (k : StoredHeader) (hk : t.pfs.directory[i].header = some k) :
      s.pfs.directory[i].header = some k := by
    rcases hr i with ⟨-, hh, -⟩ | ⟨-, hh, -⟩
    · exact hh ▸ hk
    · rw [hh] at hk
      cases hk
  refine ⟨fun i => ?_, fun i j k l hij hk hl => hunique i j k l hij (hheader i k hk) (hheader j l hl), fun i p ht => ?_⟩
  · rcases hr i with ⟨hs, hh, hc⟩ | ⟨hs, hh, hc⟩
    · rw [hs, hh, hc]
      exact hcoherent i
    · simp [-Fin.getElem_fin, hs, hh, hc]
  · obtain ⟨hstarting, hid⟩ := hsave i p ht
    exact ⟨hstarting, fun j k hj hk => hid j k hj (hheader j k hk)⟩

/-- A move of the directory keeps its invariant. -/
theorem DirectoryInv.of_move {s t : State} (h : DirectoryInv s) (m : DirectoryMove s t) : DirectoryInv t := by
  refine h.of_records m.record fun i p ht => ?_
  obtain ⟨-, -, hsaving⟩ := h
  obtain ⟨⟨p', hs⟩, hcontent⟩ := m.saving i p ht
  obtain ⟨hstarting, hid⟩ := hsaving i p' hs
  rw [hcontent]
  exact ⟨fun hst => hstarting (m.starting hst), hid⟩

theorem pump_directory (s : State) : DirectoryMove s (pump s) := .of_frame (by simp) (by simp)

theorem setRecord_lost {p : Store} {i : Fin 8} {r : DirRecord} (h : p.directory[i].KeptOrLost r) (k : Fin 8) :
    p.directory[k].KeptOrLost (p.setRecord i r).directory[k] := by
  by_cases hk : k = i
  · subst hk
    simpa [Store.setRecord] using h
  · have hne : (i : Nat) ≠ k := fun e => hk (Fin.ext e.symm)
    simpa [Store.setRecord, hne] using DirRecord.KeptOrLost.refl _

theorem storeDone_directory (s : State) : DirectoryMove s (storeDone s) :=
  .of_idle (fun _ => by simpa using .refl _) (by simp) (by simp)

theorem storeFailed_directory (r : LastResult) (s : State) : DirectoryMove s (storeFailed r s) :=
  .of_idle (fun _ => by simpa using .refl _) (by simp) (by simp)

theorem loadCompleted_directory (s : State) : DirectoryMove s (loadCompleted s) :=
  .of_pfs (by simp) fun h => absurd h (loadCompleted_starting s)

/-- A load begun, or failed at once, is no save (R147). -/
theorem beginLoad_directory (i : Fin 8) (s : State) : DirectoryMove s (beginLoad i s) := by
  unfold beginLoad
  split
  · exact .of_idle (fun _ => .refl _) (by simp) rfl
  · exact (storeFailed_directory .corrupt s).trans (loadCompleted_directory _)

theorem startUpProgress_directory (s : State) : DirectoryMove s (startUpProgress s) := by
  unfold startUpProgress
  split
  · rename_i h
    obtain ⟨hs, -⟩ := h
    refine .trans (u := s.setCsq { s.csq with loadChosen := true }) (.of_pfs rfl id) ?_
    dsimp only
    split
    · exact beginLoad_directory _ _
    · exact .of_pfs (by simp) fun _ => hs
  · exact .refl s

theorem adopt_directory (c : Classification) (s : State) : DirectoryMove s (adopt c s) := by
  let u := reportHeadChange s.hpb.lastHead c (s.setHpb (s.hpb.adopt c))
  have hu : DirectoryMove s (report .headPresent (headPresent u) u) :=
    .of_pfs (by simp [u, reportHeadChange_pfs]) (by simp [u, reportHeadChange_state])
  unfold adopt
  refine .trans (.trans (.trans ?_ (.of_pfs (by simp) haltExit_starting)) (pump_directory _)) (startUpProgress_directory _)
  split
  · exact hu.trans (.of_pfs (by simp [u]) haltFor_starting)
  · exact hu

theorem useClassification_directory (c : Classification) (s : State) : DirectoryMove s (useClassification c s) := by
  unfold useClassification
  split
  · exact .of_frame rfl rfl
  · split
    · exact adopt_directory c s
    · exact .of_frame rfl rfl

theorem afterTemperature_directory (s : State) : DirectoryMove s (afterTemperature s) :=
  .of_pfs (by simp) afterTemperature_starting

theorem abandonExposure_directory (why : AbandonReason) (next : ReceiverState) (s : State) :
    DirectoryMove s (abandonExposure why next s) := .of_pfs (by simp) abandonExposure_state

theorem endReadout_directory (s : State) : DirectoryMove s (endReadout s) := by
  unfold endReadout judgeReadout
  dsimp only
  split
  · exact (abandonExposure_directory _ _ _).from_frame rfl rfl
  · split
    · exact (abandonExposure_directory _ _ _).from_frame (by simp) (by simp)
    · exact .of_pfs (by simp) (by simp [completeExposure_state])

theorem carryTrigger_directory (plan : TriggerPlan) (s : State) : DirectoryMove s (carryTrigger plan s) := by
  cases plan with
  | first buffer => exact .of_pfs rfl id
  | second =>
    unfold carryTrigger
    dsimp only
    split <;> exact .of_pfs rfl id
  | dark => exact .of_pfs rfl id
  | still b =>
    unfold carryTrigger
    dsimp only
    split
    · cases b <;> exact .of_pfs rfl id
    · exact .refl s

theorem offerStream_directory (w : Waiting) (s : State) : DirectoryMove s (offerStream w s) := by
  unfold offerStream
  dsimp only
  split
  · exact .of_pfs (by simp [startRender]) (by simp [startRender, takeWaiting])
  · exact .of_pfs (by simp) (by simp [takeWaiting])

theorem completeSend_directory (snd : Send) (s : State) : DirectoryMove s (completeSend snd s) := by
  unfold completeSend
  dsimp only
  split
  · exact .of_pfs (by simp [finishStill]) (by simp [finishStill])
  · exact .of_frame rfl rfl

/-- A verify pass that fails takes its slot's VALID state away (R147). -/
theorem endVerify_directory (i : Fin 8) (lost : LostCells) (s : State) : DirectoryMove s (endVerify i lost s) := by
  unfold endVerify
  dsimp only
  split
  · exact .of_idle (fun _ => .refl _) (by simp) rfl
  · refine .trans (.of_idle (t := storeFailed .corrupt _) (fun k => ?_) (by simp) (by simp))
      (loadCompleted_directory _)
    rw [storeFailed_pfs]
    exact setRecord_lost (p := { s.pfs with slots := _ }) (corruptRecord_lost _ _) k

theorem beginWork_lost (p : Store) (i k : Fin 8) : p.directory[k].KeptOrLost (p.beginWork i).directory[k] :=
  setRecord_lost (corruptRecord_lost _ _) k

theorem endErase_lost (p : Store) (i : Fin 8) (lost : LostCells) (k : Fin 8) :
    p.directory[k].KeptOrLost (p.endErase i lost).directory[k] := by
  unfold Store.endErase
  dsimp only
  split
  · exact setRecord_lost (.inr ⟨by simp, rfl, rfl⟩) k
  · exact .refl _

theorem eraseResult_directory (ok : Bool) {s : State} {p : Store}
    (h : ∀ k : Fin 8, s.pfs.directory[k].KeptOrLost p.directory[k]) : DirectoryMove s (eraseResult ok (s.setPfs p)) := by
  obtain ⟨hpfs, -⟩ := eraseResult_spec ok (s.setPfs p)
  refine .of_idle (fun k => ?_) (fun j q hq => ?_) (by simp [eraseResult_csq])
  · rw [hpfs]
    exact h k
  · rw [hpfs] at hq
    cases hq

theorem rxByte_pfs (s : State) (b : Byte) : (rxByte s b).pfs = s.pfs := by
  unfold rxByte
  dsimp only
  (repeat' split) <;> simp

theorem rxBytes_pfs (bytes : List Byte) (s : State) : (bytes.foldl rxByte s).pfs = s.pfs := by
  induction bytes generalizing s with
  | nil => rfl
  | cons b bs ih => simp [ih, rxByte_pfs]

/-- A soft reset cuts a save off and does not go back to STARTING (R155, R182). -/
theorem endSending_directory (x : Sending) (s : State) : DirectoryMove s (endSending x s) := by
  unfold endSending
  split
  · exact .of_frame rfl rfl
  · split
    · refine ⟨fun _ => .refl _, fun i p h => by simp [softReset, Store.softReset] at h, fun h => ?_⟩
      simp only [softReset, Sequencer.softReset] at h
      split at h <;> cases h
    · exact .of_frame rfl rfl

end Sys2Proof.Machine
end

section
namespace Sys2Proof.Machine

/-! ## What the requests do to the directory -/

theorem serve_directory {owner : State → Answer} (ho : ∀ u, DirectoryMove u (owner u).2) (q : Request) (s : State) :
    DirectoryMove s (serve q owner s) :=
  serve_keeps (P := DirectoryMove s) (fun _ _ h => h.trans (.of_frame rfl rfl)) (fun _ _ h => h.trans (.of_frame rfl rfl))
    (fun u h => h.trans (ho u)) q s (.refl s)

/-- The working set is written with no save running (R140). -/
theorem writeWhenOpen_directory (r : Response) (c : Content) (s : State) : DirectoryMove s (writeWhenOpen r c s).2 := by
  unfold writeWhenOpen
  split
  · rename_i ho
    obtain ⟨-, -, -, -, -, -, -, -, -, -, -, -, -, hbusy⟩ := (openToWriting_iff s).1 ho
    exact .of_idle (fun _ => .refl _) (fun i p h => hbusy (.inl ⟨i, p, h⟩)) rfl
  · exact .refl s

theorem storeHeader_directory (v : Int) (c : Option Content) (s : State) : DirectoryMove s (storeHeader v c s).2 := by
  cases c with
  | none => exact .refl s
  | some c => exact writeWhenOpen_directory _ c s

theorem storeMask_pfs {put : Word16 → State → State} {s : State} (st : UpdateStyle) (old : Word16) (v : Int)
    (h : ∀ m, (put m s).pfs = s.pfs) : (storeMask st old v put s).2.pfs = s.pfs := by
  unfold storeMask
  split
  · exact h _
  · rfl

theorem writeParam_directory (p : Param) (b : Bank) (st : UpdateStyle) (value : List Byte) (s : State) :
    DirectoryMove s (writeParam p b st value s).2 := by
  cases p with
  | align | depth => exact storeQuiescent_keeps (.refl s) _ _ fun _ => .of_frame rfl rfl
  | readoutTimeout | patchLimit | darkEvery | clipLevel | fill | sendPeriod | probePeriod | deadband | target | expo
  | level | min | max | ceiling => exact .of_frame rfl rfl
  | interval => exact .of_pfs rfl id
  | blackMode | policy | sendMode | streamFormat | noticeEn | mode | steer =>
    exact storeChoice_keeps (.refl s) _ _ fun _ => .of_frame rfl rfl
  | paced | autoswitch => exact storeChoice_keeps (.refl s) _ _ fun _ => .of_pfs rfl id
  | blackLevel =>
    simp only [writeParam, writeBlackLevel]
    split <;> exact .of_frame rfl rfl
  | riseEn | fallEn => exact .of_frame (storeMask_pfs _ _ _ fun _ => rfl) (storeMask_csq _ _ _ fun _ => rfl)
  | profileId | headBind | bankSet | outWidth | outHeight | hasTone => exact storeHeader_directory _ _ s
  | label => exact writeWhenOpen_directory _ _ s
  | derateStart =>
    simp only [writeParam, writeDerateStart]
    split
    · exact .refl s
    · exact (afterTemperature_directory _).from_frame rfl rfl
  | cutoff =>
    simp only [writeParam, writeCutoff]
    split
    · exact .refl s
    · exact (afterTemperature_directory _).from_frame rfl rfl

theorem checkPset_directory (p : Param) (bank style : Byte) (value : List Byte) (s : State) :
    DirectoryMove s (checkPset p bank style value s).2 := by
  unfold checkPset
  split
  · split
    · exact .refl s
    · split
      · exact .refl s
      · split
        · exact writeParam_directory _ _ _ _ s
        · exact .refl s
  · exact .refl s

theorem psetOwner_directory (body : List Byte) (s : State) : DirectoryMove s (psetOwner body s).2 := by
  unfold psetOwner
  split
  · split
    · exact checkPset_directory _ _ _ _ s
    · exact .refl s
  · exact .refl s

theorem sgoOwner_directory (body : List Byte) (s : State) : DirectoryMove s (sgoOwner body s).2 := by
  unfold sgoOwner
  split
  · exact .refl s
  · split
    · exact .refl s
    · simp only [accept, requestStream]
      split
      · exact .of_pfs rfl id
      · refine .of_pfs rfl fun h => ?_
        simp only [State.setCsq_csq] at h
        split at h
        · cases h
        · exact h

theorem stopStream_directory (s : State) : DirectoryMove s (stopStream s) := by
  have hw : DirectoryMove s (withdrawStream s) := by
    refine .of_pfs rfl fun h => ?_
    simp only [withdrawStream, State.setCsq_csq] at h
    split at h
    · cases h
    · exact h
  refine hw.trans ?_
  unfold stopStream dropStopped
  split
  · split
    · exact .of_pfs (by simp) (by simp [dropFrame_state])
    · exact .refl _
  · exact .refl _

theorem stilOwner_directory (body : List Byte) (s : State) : DirectoryMove s (stilOwner body s).2 := by
  unfold stilOwner
  (repeat' split) <;> exact .of_pfs rfl id

theorem scanOwner_directory (body : List Byte) (s : State) : DirectoryMove s (scanOwner body s).2 := by
  unfold scanOwner
  dsimp only
  split
  · refine .of_pfs ?_ fun h => absurd h (leaveStill_starting _)
    simp only [accept, cancelActive, leaveStill_frame, dropActive_frame]
    split <;> simp
  · (repeat' split) <;> exact .of_pfs rfl id

theorem zsetOwner_pfs (body : List Byte) (s : State) : (zsetOwner body s).2.pfs = s.pfs := by
  unfold zsetOwner
  split
  · simp
  · rfl

theorem twrtOwner_directory (body : List Byte) (s : State) : DirectoryMove s (twrtOwner body s).2 := by
  unfold twrtOwner
  dsimp only
  split
  · exact .refl s
  · split
    · exact .refl s
    · exact writeWhenOpen_directory _ _ s

theorem pactOwner_directory (body : List Byte) (s : State) : DirectoryMove s (pactOwner body s).2 := by
  unfold pactOwner
  split
  · exact .of_pfs (by simp) (by simp [takeTarget_state])
  · exact .refl s

theorem persOwner_directory (body : List Byte) (s : State) : DirectoryMove s (persOwner body s).2 := by
  unfold persOwner
  split
  · exact .refl s
  · split
    · exact .refl s
    · split
      · exact .refl s
      · exact .of_idle (fun k => beginWork_lost _ _ k) (by simp [beginOperation]) rfl

theorem sersOwner_directory (s : State) : DirectoryMove s (sersOwner s).2 := by
  unfold sersOwner
  split
  · exact .refl s
  · refine .of_idle (fun k => .trans (r' := s.pfs.unprotected.directory[k]) (.inl ?_) (beginWork_lost _ _ k))
      (by simp [beginOperation]) rfl
    simp [Store.unprotected]

theorem pprtOwner_directory (body : List Byte) (s : State) : DirectoryMove s (pprtOwner body s).2 := by
  unfold pprtOwner
  split
  · exact .refl s
  · rename_i i _
    split
    · exact .refl s
    · rename_i ho
      split
      · exact .refl s
      · refine .of_idle (fun k => .inl ?_) (fun j p h => ?_) rfl
        · by_cases hk : k = i
          · subst hk
            simp [accept, Store.protectSlot]
          · have hne : (i : Nat) ≠ k := fun e => hk (Fin.ext e.symm)
            simp [accept, Store.protectSlot, hne]
        · have hop : s.pfs.op = some (.save j p) := h
          simp [hop] at ho

theorem bwrtOwner_directory (body : List Byte) (s : State) : DirectoryMove s (bwrtOwner body s).2 := by
  unfold bwrtOwner
  split
  · exact .refl s
  · split
    · exact .refl s
    · exact .of_idle (fun _ => .refl _) (by simp [beginOperation]) rfl

/-- During start-up a request that is not served then does not reach its owner (R176). -/
theorem serve_starting {q : Request} {s : State} (hs : s.csq.state = .starting) (hk : startUpKind q.kind = false)
    (owner : State → Answer) : serve q owner s = serve q (refuse .busy) s := by
  have hu : startUpEnded (bring q s) = false := by simp [startUpEnded, hs]
  have hex : examine q owner (bring q s) = examine q (refuse .busy) (bring q s) := by
    simp [examine, hu, hk]
  simp only [serve, take, hex]

theorem psavOwner_csq (body : List Byte) (s : State) : (psavOwner body s).2.csq = s.csq := by
  unfold psavOwner
  (repeat' split) <;> rfl

/-- PSAV begins a save only when no other VALID slot holds the working set's profile id (R149). -/
theorem DirectoryInv.psavOwner {s : State} (h : DirectoryInv s) (hs : s.csq.state ≠ .starting) (body : List Byte) :
    DirectoryInv (Machine.psavOwner body s).2 := by
  unfold Machine.psavOwner
  split
  · exact h
  · rename_i i _
    split
    · exact h
    · split
      · exact h
      · split
        · exact h
        · split
          · exact h
          · rename_i hid
            refine h.of_records (fun k => beginWork_lost _ i k) fun j p hop => ⟨hs, fun k hdr hk hh he => hid ?_⟩
            obtain ⟨rfl, -⟩ : i = j ∧ WritePhase.erase = p := by simpa [beginOperation] using hop
            obtain ⟨hcoherent, -⟩ := h
            obtain ⟨hheader, -⟩ := hcoherent k
            have hv : s.pfs.directory[k].state = .valid := hheader.1 (by rw [hh]; rfl)
            obtain ⟨hcontent, -⟩ := beginWork_ws s.pfs i
            exact (idElsewhere_iff _ _).2 ⟨k, hdr, hk, hv, hh, he.trans (by rw [← hcontent]; rfl)⟩

theorem DirectoryInv.servePsav {s : State} (h : DirectoryInv s) (body : List Byte) :
    DirectoryInv (serve ⟨0x23, body⟩ (Machine.psavOwner body) s) := by
  by_cases hs : s.csq.state = .starting
  · rw [serve_starting hs rfl]
    exact h.of_move (serve_directory (fun u => .refl u) _ s)
  · obtain ⟨hkept, -⟩ := serve_keeps (P := fun u => DirectoryInv u ∧ u.csq.state ≠ .starting) (fun _ _ h => h)
      (fun _ _ h => h) (owner := Machine.psavOwner body)
      (fun u ⟨hu, hus⟩ => ⟨hu.psavOwner hus body, by rw [psavOwner_csq]; exact hus⟩) ⟨0x23, body⟩ s ⟨h, hs⟩
    exact hkept

end Sys2Proof.Machine
end

section
namespace Sys2Proof.Machine

/-! ## New VALID slots (R150, R158) -/

/-- A save that ends well makes its slot VALID with a profile id that no other VALID slot has (R149, R150). -/
theorem DirectoryInv.endSave {s : State} (h : DirectoryInv s) {i : Fin 8} {p : WritePhase}
    (hop : s.pfs.op = some (.save i p)) (lost : LostCells) : DirectoryInv (pump (endSave i lost s)) := by
  by_cases hc : crc32 (slotBytes (loseCells (programmedBytes s.pfs.ws.content) lost) s.pfs.ws.content.stored.length) =
      crc32 s.pfs.ws.content.stored
  · obtain ⟨hpfs, -⟩ := endSave_saved (i := i) rfl hc
    obtain ⟨hcoherent, hunique, hsaving⟩ := h
    obtain ⟨-, hid⟩ := hsaving i p hop
    have hdir (k : Fin 8) : (k = i ∧ (pump (Machine.endSave i lost s)).pfs.directory[k] =
          { state := .valid, guarded := false, header := some s.pfs.ws.content.header,
            check := some (crc32 s.pfs.ws.content.stored) }) ∨
        (k ≠ i ∧ (pump (Machine.endSave i lost s)).pfs.directory[k] = s.pfs.directory[k]) := by
      rw [hpfs]
      by_cases hk : k = i
      · subst hk
        simp [Store.saved]
      · have hne : (i : Nat) ≠ k := fun e => hk (Fin.ext e.symm)
        simp [Store.saved, hk, hne]
    refine ⟨fun k => ?_, fun k l a b hkl ha hb => ?_, fun k q hq => by rw [hpfs] at hq; cases hq⟩
    · rcases hdir k with ⟨-, he⟩ | ⟨-, he⟩ <;> rw [he]
      · simp
      · exact hcoherent k
    · rcases hdir k with ⟨rfl, he⟩ | ⟨hk, he⟩ <;> rcases hdir l with ⟨rfl, he'⟩ | ⟨hl, he'⟩ <;>
        rw [he] at ha <;> rw [he'] at hb
      · exact absurd rfl hkl
      · cases ha
        exact (hid l b hl hb).symm
      · cases hb
        exact hid k a hk ha
      · exact hunique k l a b hkl ha hb
  · obtain ⟨hpfs, -⟩ := endSave_failed (i := i) rfl hc
    refine h.of_move (.of_idle (fun k => ?_) (fun k q hq => ?_) (by simp [endSave_csq]))
    · rw [hpfs]
      exact .refl _
    · rw [hpfs] at hq
      cases hq

/-- The scan's directory meets the invariant, in STARTING, where no save runs (R158). -/
theorem DirectoryInv.scanned {s : State} (h : DirectoryInv s) (hs : s.csq.state = .starting) : DirectoryInv (scanned s) := by
  obtain ⟨-, -, hsaving⟩ := h
  have hvalid (i : Fin 8) (k : StoredHeader) (hk : (scanDirectory s.pfs.slots)[i].header = some k) :
      (scanDirectory s.pfs.slots)[i].state = .valid ∧ (scanDirectory s.pfs.slots)[i].validId = some k.profileId := by
    obtain ⟨hheader, -⟩ := scanDirectory_coherent s.pfs.slots i
    have hv := hheader.1 (by rw [hk]; rfl)
    exact ⟨hv, by rw [DirRecord.validId, if_pos hv, hk]; rfl⟩
  refine ⟨scanDirectory_coherent s.pfs.slots, fun i j a b hij ha hb he => ?_, fun i p hop => ?_⟩
  · obtain ⟨hi, hida⟩ := hvalid i a ha
    obtain ⟨hj, hidb⟩ := hvalid j b hb
    exact scanDirectory_unique hij hi hj (by rw [hida, hidb, he])
  · obtain ⟨hno, -⟩ := hsaving i p hop
    exact absurd hs hno

end Sys2Proof.Machine
end

section
namespace Sys2Proof.Machine

/-! ## Every command (R146) -/

/-- Every command but a full reset, the end of the scan, PSAV and a save's end moves the directory only as the shared operations
do. -/
theorem exec_directory {i : Instr} {s t : State} (h1 : i ≠ .fullReset) (h2 : i ≠ .startupScanDone)
    (h3 : ∀ body, i ≠ .psav body) (h4 : ∀ lost, i ≠ .saveProgramDone lost) (h : exec i s = .next t) : DirectoryMove s t := by
  cases i with
  | fullReset => exact absurd rfl h1
  | startupScanDone => exact absurd rfl h2
  | psav body => exact absurd rfl (h3 body)
  | saveProgramDone lost => exact absurd rfl (h4 lost)
  | trigger =>
    simp only [exec, execTrigger] at h
    split at h <;> cases h
    · exact carryTrigger_directory _ s
    · exact .refl s
  -- the pixel port and the timers
  | exposureEnd | frameOpen | pixelWord _ | intervalExpiry | probePeriodExpiry =>
    simp only [exec, execExposureEnd, execFrameOpen, execPixelWord, execIntervalExpiry, execProbePeriodExpiry] at h
    (repeat' split at h) <;> cases h <;> exact .of_pfs rfl id
  | lineOpen =>
    simp only [exec, execLineOpen] at h
    have hclose : DirectoryMove s (closeOpenLine s) := .of_pfs (closeOpenLine_pfs s) (by simp [closeOpenLine_state])
    split at h
    · split at h <;> cases h <;> exact hclose.trans (.of_pfs rfl id)
    · cases h; exact .refl s
  | lineClose => cases h; exact .of_pfs (closeOpenLine_pfs s) (by simp [closeOpenLine_state])
  | frameClose =>
    simp only [exec, execFrameClose] at h
    have hclose : DirectoryMove s (closeOpenLine s) := .of_pfs (closeOpenLine_pfs s) (by simp [closeOpenLine_state])
    split at h <;> cases h
    · exact (hclose.trans (endReadout_directory _)).trans (pump_directory _)
    · exact .of_frame rfl rfl
    · exact .refl s
  | readoutTimeout =>
    simp only [exec, execReadoutTimeout] at h
    split at h <;> cases h
    · exact .refl s
    · exact (abandonExposure_directory _ _ s).trans (pump_directory _)
  -- stills, the remap engine and the video port
  | foldComplete _ | sendStart | sendPeriodExpiry =>
    simp only [exec, execFoldComplete, execSendStart, execSendPeriodExpiry] at h
    split at h <;> cases h <;> exact .of_frame rfl rfl
  | stillStart =>
    simp only [exec, execStillStart] at h
    split at h
    · split at h
      · split at h <;> cases h
        · exact .of_pfs (by simp) (by simp)
        · exact .of_pfs (by simp [startStill]) (by simp [startStill])
      · cases h; exact .refl s
    · cases h; exact .refl s
  | finaliseStart =>
    simp only [exec, execFinaliseStart] at h
    split at h
    · split at h <;> cases h
      · exact .of_pfs rfl fun hs => absurd hs (leaveStill_starting _)
      · exact .refl s
    · cases h; exact .refl s
  | finaliseComplete | renderComplete =>
    simp only [exec, execFinaliseComplete, execRenderComplete] at h
    split at h <;> cases h <;> exact .of_pfs rfl id
  | renderStart =>
    simp only [exec, execRenderStart] at h
    split at h
    · split at h
      · cases h; exact (offerStream_directory _ s).trans (pump_directory _)
      · split at h <;> cases h
        · exact .of_pfs rfl id
        · exact .refl s
    · cases h; exact .refl s
  | sendComplete =>
    simp only [exec, execSendComplete] at h
    split at h <;> cases h
    · exact .refl s
    · exact completeSend_directory _ s
  | modemReady =>
    simp only [exec, execModemReady] at h
    split at h
    · cases h; exact .refl s
    · split at h <;> cases h
      · exact .of_frame rfl rfl
      · exact completeSend_directory _ s
  -- the switch and the store's phases
  | switchDrain =>
    simp only [exec, execSwitchDrain] at h
    split at h <;> cases h
    · exact .of_pfs rfl (by simp [enter])
    · exact .refl s
  | switchLoad =>
    simp only [exec, execSwitchLoad] at h
    split at h
    · have hl : DirectoryMove s (s.setCsq { s.csq with state := .switchLoad, switchTarget := none }) := .of_pfs rfl (by simp)
      split at h <;> cases h
      · exact (hl.trans (beginLoad_directory _ _)).trans (pump_directory _)
      · exact hl.trans (.of_pfs (by simp) fun hs => absurd hs (switchExit_starting _))
    · cases h; exact .refl s
  | verifyPassDone lost =>
    simp only [exec, execVerifyPassDone] at h
    split at h <;> cases h
    · exact (endVerify_directory _ lost s).trans (pump_directory _)
    · exact .refl s
  | copyPassDone =>
    simp only [exec, execCopyPassDone] at h
    split at h <;> cases h
    · let u := storeDone (s.setPfs { s.pfs with ws := s.pfs.standby.getD s.pfs.ws, standby := none })
      have hu : DirectoryMove s u := .of_idle (fun _ => .refl _) (by simp [u]) (by simp [u])
      exact (hu.trans (loadCompleted_directory u)).trans (pump_directory _)
    · exact .refl s
  | saveEraseDone =>
    simp only [exec, execSaveEraseDone] at h
    split at h <;> cases h
    · rename_i i hop
      exact ⟨fun _ => .refl _, fun j p hj => by simp_all, id⟩
    · exact .refl s
  | eraseDone lost =>
    simp only [exec, execEraseDone] at h
    split at h <;> cases h
    · exact (eraseResult_directory _ (endErase_lost s.pfs _ lost)).trans (pump_directory _)
    · exact .refl s
  | eraseAllSlotDone lost =>
    simp only [exec, execEraseAllSlotDone] at h
    split at h
    · split at h <;> cases h
      · exact .of_idle (fun k => (endErase_lost s.pfs _ lost k).trans (beginWork_lost _ _ k)) (by simp) rfl
      · exact (eraseResult_directory _ (endErase_lost s.pfs _ lost)).trans (pump_directory _)
    · cases h; exact .refl s
  | bootWriteEraseDone =>
    simp only [exec, execBootWriteEraseDone] at h
    split at h <;> cases h
    · exact .of_idle (fun _ => .refl _) (by simp) rfl
    · exact .refl s
  | bootWriteProgramDone lost =>
    simp only [exec, execBootWriteProgramDone] at h
    split at h <;> cases h
    · refine .trans ?_ (pump_directory _)
      split <;> exact .of_idle (fun _ => .refl _) (by simp) (by simp)
    · exact .refl s
  -- the probe's conversions
  | idConversionDone code =>
    simp only [exec, execIdConversionDone] at h
    split at h <;> cases h
    · exact ((useClassification_directory _ _).trans (pump_directory _)).from_frame rfl rfl
    · exact .refl s
  | tempConversionDone code =>
    simp only [exec, execTempConversionDone] at h
    split at h <;> cases h
    · exact ((afterTemperature_directory _).trans (pump_directory _)).from_frame rfl rfl
    · exact .refl s
  -- the link
  | frameReceived _ | byteGapTimeout | lenOutOfRange _ =>
    simp only [exec, execFrameReceived, execByteGapTimeout, execLenOutOfRange] at h
    refine .of_frame ?_ ?_ <;> (repeat' split at h) <;> cases h <;> simp [rxBytes_csq, rxByte_csq, rxBytes_pfs, rxByte_pfs]
  | frameSent =>
    simp only [exec, execFrameSent] at h
    split at h <;> cases h
    · exact .refl s
    · exact (endSending_directory _ s).trans (pump_directory _)
  | badKind kind body =>
    simp only [exec, execBadKind] at h
    split at h <;> cases h
    · exact .refl s
    · exact serve_directory (fun u => .refl u) _ s
  -- the requests that leave the store and the sequencer
  | idnt _ | rset _ | ltch _ => cases h; exact serve_directory (fun _ => .of_frame rfl rfl) _ s
  | stat _ | zget _ | plst _ | pget _ | trd _ | brd _ | hprb _ =>
    cases h
    refine serve_directory (fun u => .of_frame ?_ ?_) _ s <;>
      simp only [answerData, pgetOwner, trdOwner, brdOwner, accept, hprbOwner] <;> (repeat' split) <;> rfl
  | zset body => cases h; exact serve_directory (fun u => .of_frame (zsetOwner_pfs body u) (zsetOwner_csq body u)) _ s
  | twrt body => cases h; exact serve_directory (twrtOwner_directory body) _ s
  | pset body => cases h; exact serve_directory (psetOwner_directory body) _ s
  | psetLevel _ _ _ | psetMin _ _ _ | psetMax _ _ _ | psetExpo _ _ _ | psetMode _ _ _ | psetSteer _ _ _
  | psetCeiling _ _ _ | psetDerateStart _ _ _ | psetCutoff _ _ _ | psetSendMode _ _ _ | psetRiseEn _ _ _
  | psetFallEn _ _ _ | psetNoticeEn _ _ _ | psetOutWidth _ _ _ | psetOutHeight _ _ _ | psetBankSet _ _ _
  | psetHasTone _ _ _ | psetProfileId _ _ _ | psetHeadBind _ _ _ | psetLabel _ _ _ =>
    cases h; exact serve_directory (checkPset_directory _ _ _ _) _ s
  -- the requests of the sequencer and of the store
  | sgo body => cases h; exact serve_directory (sgoOwner_directory body) _ s
  | shlt _ => cases h; exact serve_directory stopStream_directory _ s
  | stil body => cases h; exact serve_directory (stilOwner_directory body) _ s
  | scan body => cases h; exact serve_directory (scanOwner_directory body) _ s
  | pact body => cases h; exact serve_directory (pactOwner_directory body) _ s
  | pers body => cases h; exact serve_directory (persOwner_directory body) _ s
  | sers _ => cases h; exact serve_directory sersOwner_directory _ s
  | pprt body => cases h; exact serve_directory (pprtOwner_directory body) _ s
  | bwrt body => cases h; exact serve_directory (bwrtOwner_directory body) _ s

end Sys2Proof.Machine
end

section
namespace Sys2Proof.Machine

/-- Every command keeps the directory's invariant (R146). -/
theorem DirectoryInv.exec {i : Instr} {s t : State} (h : DirectoryInv s) (he : exec i s = .next t) : DirectoryInv t := by
  by_cases h1 : i = .fullReset
  · subst h1
    cases he
    exact directoryInv_blank rfl rfl
  by_cases h2 : i = .startupScanDone
  · subst h2
    simp only [Machine.exec, execStartupScanDone] at he
    split at he <;> cases he
    · rename_i hc
      obtain ⟨hs, -⟩ := hc
      exact (h.scanned hs).of_move ((startUpProgress_directory _).trans (pump_directory _))
    · exact h
  by_cases h3 : ∃ body, i = .psav body
  · obtain ⟨body, rfl⟩ := h3
    cases he
    exact h.servePsav body
  by_cases h4 : ∃ lost, i = .saveProgramDone lost
  · obtain ⟨lost, rfl⟩ := h4
    simp only [Machine.exec, execSaveProgramDone] at he
    split at he <;> cases he
    · rename_i hop
      exact h.endSave hop lost
    · exact h
  exact h.of_move (exec_directory h1 h2 (not_exists.1 h3) (not_exists.1 h4) he)

/-- An idle moment leaves the store (R45). -/
theorem idleMoment_pfs (s : State) : (idleMoment s).pfs = s.pfs := by
  unfold idleMoment
  (repeat' split) <;> rfl

/-- Every step keeps the directory's invariant; the commands waiting have no part in it (R146). -/
theorem DirectoryInv.step {s t : State} (h : DirectoryInv s) (hstep : step s = .next t) : DirectoryInv t := by
  unfold Machine.step at hstep
  split at hstep
  · cases hstep
    exact h.of_move (.of_frame (idleMoment_pfs s) (idleMoment_csq s))
  · rename_i rest _
    exact DirectoryInv.exec (s := s.setPending rest) h hstep

/-- Settles O31: the header by `readHeader_iff`, the classes by `scanDirectory_classes`, and R146 over every step by
`DirectoryInv.step`. -/
theorem scanClassesSlots : Obligations.ScanClassesSlots := by
  refine ⟨crc32_bits, fun bytes h => ⟨?_, rfl⟩, fun bytes m => ⟨rfl, storedCheck_eq bytes m⟩, fun s t h => h.step,
    fun s hs hd => ⟨_, exec_startupScanDone hs hd, ?_⟩⟩
  · rw [readHeader_iff, StoredHeader.bytes, headByte_eq]
    rfl
  · obtain ⟨hdir, hslots, hdone⟩ := startUpProgress_store (scanned s)
    simp only [pump_frame, hdir, hslots, hdone]
    refine ⟨rfl, rfl, fun i => ?_⟩
    obtain ⟨hguarded, hmarked, hblank, hholds, hdamaged, hvalid⟩ := scanDirectory_classes s.pfs.slots i
    refine ⟨hguarded, hmarked, hblank, fun hw hb h hr hc => hholds h ⟨hw, hb, hr, hc⟩, fun hw hb hno => ?_, fun hv => ?_,
      fun j hj hv hv' => scanDirectory_unique hj.symm hv hv'⟩
    · exact hdamaged hw hb fun h ⟨_, _, hr, hc⟩ => hno h hr hc
    · obtain ⟨h, ⟨hw, hb, hr, hc⟩, hh, hk⟩ := hvalid hv
      exact ⟨hw, h, hr, hh, hc, hk⟩

end Sys2Proof.Machine
end

section
namespace Sys2Proof.Machine

/-! ## Identity conversions (R160, R161, R162) -/

/-! ### The classification of a code -/

/-- R161's distance from a nominal code as the band it gives. -/
theorem distance_le_iff (r k : Nat) :
    ((r : Int) - ((64 + 80 * k : Nat) : Int)).natAbs ≤ 12 ↔ 52 + 80 * k ≤ r ∧ r ≤ 76 + 80 * k := by omega

theorem bandOf_bounds {r : Nat} {k : Fin 12} (h : bandOf r = some k) : 52 + 80 * k.val ≤ r ∧ r ≤ 76 + 80 * k.val := by
  have hk := List.find?_some h
  exact (distance_le_iff r k).1 (of_decide_eq_true hk)

theorem bandOf_eq_none (r : Nat) : bandOf r = none ↔ ∀ k : Fin 12, r < 52 + 80 * k.val ∨ 76 + 80 * k.val < r := by
  have all (k : Fin 12) : k ∈ ([0, 1, 2, 3, 4, 5, 6, 7, 8, 9, 10, 11] : List (Fin 12)) := by revert k; decide
  simp only [bandOf, List.find?_eq_none, all, true_imp_iff, decide_eq_true_eq, distance_le_iff]
  exact forall_congr' fun k => by omega

/-- The bands do not overlap, so the band found is the only one a code lies in (R161). -/
theorem bandOf_eq_some (r : Nat) (k : Fin 12) : bandOf r = some k ↔ 52 + 80 * k.val ≤ r ∧ r ≤ 76 + 80 * k.val := by
  refine ⟨bandOf_bounds, fun hk => ?_⟩
  cases hb : bandOf r with
  | none => have := (bandOf_eq_none r).1 hb k; omega
  | some j =>
    have hj := bandOf_bounds hb
    exact congrArg some (Fin.ext (by omega))

/-- R161's table: each code has exactly the classification its row gives. -/
theorem classify_table (r : Nat) :
    (r < 16 → classify r = .shortLine) ∧ (1008 ≤ r → classify r = .openLine) ∧
    (∀ k : Fin 12, 52 + 80 * k.val ≤ r → r ≤ 76 + 80 * k.val → classify r = .head k) ∧
    (16 ≤ r → r < 1008 → (∀ k : Fin 12, r < 52 + 80 * k.val ∨ 76 + 80 * k.val < r) → classify r = .between) := by
  refine ⟨fun h => if_pos h, fun h => ?_, fun k hlo hhi => ?_, fun hlo hhi hout => ?_⟩
  · rw [classify, if_neg (by omega), if_pos h]
  · rw [classify, if_neg (by omega), if_neg (by omega), (bandOf_eq_some r k).2 ⟨hlo, hhi⟩]
  · rw [classify, if_neg (by omega), if_neg (by omega), (bandOf_eq_none r).2 hout]

/-! ### The probe when adoption uses a classification -/

/-- The probe after adoption has used a classification (R162): what `useClassification` makes of the probe alone. -/
def Probe.use (p : Probe) (c : Classification) : Probe :=
  if p.adopted = some c then { p with candidate := none }
  else if p.candidate = some c then p.adopt c
  else { p with candidate := some c }

theorem useClassification_hpb (c : Classification) (s : State) : (useClassification c s).hpb = s.hpb.use c := by
  unfold useClassification Probe.use
  split
  · rfl
  · split
    · exact adopt_hpb c s
    · rfl

/-- Adoption leaves the converter, the period timer and the latest readings (R162). -/
theorem Probe.use_keeps (p : Probe) (c : Classification) :
    (p.use c).conv = p.conv ∧ (p.use c).nextKind = p.nextKind ∧ (p.use c).forceHeld = p.forceHeld ∧
    (p.use c).periodTimer = p.periodTimer ∧ (p.use c).latestId = p.latestId ∧ (p.use c).latestClass = p.latestClass := by
  unfold Probe.use
  (repeat' split) <;> exact ⟨rfl, rfl, rfl, rfl, rfl, rfl⟩

/-- R162's table. -/
theorem Probe.use_table (p : Probe) (c : Classification) :
    (p.adopted = some c → (p.use c).candidate = none ∧ (p.use c).adopted = p.adopted) ∧
    (p.adopted ≠ some c → p.candidate ≠ some c → (p.use c).candidate = some c ∧ (p.use c).adopted = p.adopted) ∧
    (p.adopted ≠ some c → p.candidate = some c → (p.use c).candidate = none ∧ (p.use c).adopted = some c) := by
  refine ⟨fun ha => ?_, fun ha hc => ?_, fun ha hc => ?_⟩
  · rw [Probe.use, if_pos ha]
    exact ⟨rfl, rfl⟩
  · rw [Probe.use, if_neg ha, if_neg hc]
    exact ⟨rfl, rfl⟩
  · rw [Probe.use, if_neg ha, if_pos hc]
    exact ⟨rfl, rfl⟩

/-! ### The conversions' ends -/

theorem exec_idConversionDone {s : State} (h : s.hpb.conv = .convertingId) (r : Nat) :
    exec (.idConversionDone r) s = .next (pump (useClassification (classify r) (identityTaken r s))) := if_pos h

/-- An identity conversion's end, as the probe sees it: the code is taken, and adoption uses its classification. -/
theorem exec_idConversionDone_hpb {s : State} (h : s.hpb.conv = .convertingId) (r : Nat) :
    ∃ t, exec (.idConversionDone r) s = .next t ∧ t.hpb = (identityTaken r s).hpb.use (classify r) :=
  ⟨_, exec_idConversionDone h r, by simp [useClassification_hpb]⟩

theorem exec_tempConversionDone_hpb {s : State} (h : s.hpb.conv = .convertingTemp) (r : Nat) :
    ∃ t, exec (.tempConversionDone r) s = .next t ∧ t.hpb = (temperatureTaken r s).hpb :=
  ⟨_, exec_tempConversionDone h r, by simp⟩

/-- A completion of a conversion that does not run changes nothing (log entry 1). -/
theorem exec_conversionDone_stray (r : Nat) (s : State) :
    (s.hpb.conv ≠ .convertingId → exec (.idConversionDone r) s = .next s) ∧
    (s.hpb.conv ≠ .convertingTemp → exec (.tempConversionDone r) s = .next s) :=
  ⟨fun h => if_neg h, fun h => if_neg h⟩

/-- The release of the converter leaves the latest classification. -/
theorem release_latestClass (p : Probe) : p.release.latestClass = p.latestClass := by
  unfold Probe.release
  split <;> rfl

/-- Settles O33: R161's table by `classify_table`, R162's by `Probe.use_table` on the probe that has taken the code. -/
theorem identityCodesClassified : Obligations.IdentityCodesClassified := by
  refine ⟨fun r s hv => ?_, fun r s => ?_⟩
  · obtain ⟨hadopted, hcandidate, -⟩ := release_keeps s.hpb
    obtain ⟨hshort, hopen, hhead, hbetween⟩ := classify_table r
    obtain ⟨t, he, ht⟩ := exec_idConversionDone_hpb hv r
    obtain ⟨-, -, -, -, hid, hclass⟩ := (identityTaken r s).hpb.use_keeps (classify r)
    have htable := (identityTaken r s).hpb.use_table (classify r)
    rw [← ht] at hid hclass htable
    rw [show (identityTaken r s).hpb.adopted = _ from hadopted,
      show (identityTaken r s).hpb.candidate = _ from hcandidate] at htable
    exact ⟨t, classify r, he, hid, hclass, hshort, hopen, hhead, hbetween, htable⟩
  · by_cases hv : s.hpb.conv = .convertingTemp
    · obtain ⟨hadopted, hcandidate, -⟩ := release_keeps s.hpb
      obtain ⟨t, he, ht⟩ := exec_tempConversionDone_hpb hv r
      exact ⟨t, he, by rw [ht]; exact ⟨release_latestClass s.hpb, hcandidate, hadopted⟩⟩
    · obtain ⟨-, hstray⟩ := exec_conversionDone_stray r s
      exact ⟨s, hstray hv, rfl, rfl, rfl⟩

end Sys2Proof.Machine
end

section
namespace Sys2Proof.Machine

/-! ## HPRB, and the converter after a conversion (R160, R165) -/

/-! ### HPRB's options -/

/-- Option 0 reads the probe (R165). -/
theorem hprbOwner_read (s : State) : hprbOwner [0] s = accept (probeReadings s.hpb) s := rfl

/-- Option 1 reads the probe as it stands and then forces a conversion (R165). -/
theorem hprbOwner_force (s : State) : hprbOwner [1] s = accept (probeReadings s.hpb) (s.setHpb s.hpb.force) := rfl

/-- There is no further option (R165). -/
theorem hprbOwner_other {b : Byte} (hb : 1 < b.toNat) (s : State) : hprbOwner [b] s = refuse .badParam s := by
  have hbody : bodyAt [b] 0 = b.toNat := rfl
  simp only [hprbOwner, hbody]
  rw [if_neg (by omega), if_neg (by omega)]

theorem Probe.force_idle {p : Probe} (h : p.conv = .idle) : p.force = { p with conv := .convertingId, nextKind := .temp } :=
  if_pos h

theorem Probe.force_busy {p : Probe} (h : p.conv ≠ .idle) : p.force = { p with forceHeld := true } := if_neg h

/-- HPRB with option 1 leaves the probe forced, answered with its readings from before (R165). -/
theorem hprb_forces {s : State} (hs : Served (.hprb [1]) s) :
    Answers (.hprb [1]) 0x30 .ok (probeReadings s.hpb) s (s.setHpb s.hpb.force) :=
  answers_served (q := ⟨0x30, [1]⟩) hs rfl rfl rfl rfl fun l => by
    rw [hprbOwner_force]
    exact ⟨rfl, rfl⟩

/-! ### The converter -/

/-- What a completion makes of the converter (R160): IDLE, or a forced ID conversion; the force is spent and the period timer goes
on. -/
def Probe.Released (p q : Probe) : Prop :=
  q.forceHeld = false ∧ q.periodTimer = p.periodTimer ∧
    (p.forceHeld = false → q.conv = .idle ∧ q.nextKind = p.nextKind) ∧
    (p.forceHeld = true → q.conv = .convertingId ∧ q.nextKind = .temp)

theorem Probe.released_release (p : Probe) : p.Released p.release := by
  unfold Probe.Released Probe.release
  cases hf : p.forceHeld with
  | false => exact ⟨rfl, rfl, fun _ => ⟨rfl, rfl⟩, nofun⟩
  | true => exact ⟨rfl, rfl, nofun, fun _ => ⟨rfl, rfl⟩⟩

/-- The taking of an identity code and adoption leave the converter as released. -/
theorem released_identity (r : Nat) (s : State) (c : Classification) : s.hpb.Released ((identityTaken r s).hpb.use c) := by
  obtain ⟨hconv, hnext, hforce, htimer, -⟩ := (identityTaken r s).hpb.use_keeps c
  unfold Probe.Released
  rw [hconv, hnext, hforce, htimer]
  exact s.hpb.released_release

/-- Settles O48: HPRB by its option, and the end of either conversion by `Probe.Released`. -/
theorem probeForceAndCompletion : Obligations.ProbeForceAndCompletion := by
  refine ⟨fun s => ⟨fun hs => ?_, fun hs => ⟨fun hidle => ?_, fun hbusy => ?_⟩, fun b hb hs => ?_⟩, fun r s => ?_⟩
  · exact answers_served (q := ⟨0x30, [0]⟩) hs rfl rfl rfl rfl fun l => by
      rw [hprbOwner_read]
      exact ⟨rfl, rfl⟩
  · rw [← Probe.force_idle hidle]
    exact hprb_forces hs
  · rw [← Probe.force_busy hbusy]
    exact hprb_forces hs
  · exact answers_refused (q := ⟨0x30, [b]⟩) hs rfl rfl rfl rfl fun l => hprbOwner_other hb _
  · obtain ⟨hidStray, htempStray⟩ := exec_conversionDone_stray r s
    refine ⟨hidStray, htempStray, ?_⟩
    rintro i (⟨rfl, hv⟩ | ⟨rfl, hv⟩)
    · obtain ⟨t, he, ht⟩ := exec_idConversionDone_hpb hv r
      exact ⟨t, he, ht ▸ released_identity r s _⟩
    · obtain ⟨t, he, ht⟩ := exec_tempConversionDone_hpb hv r
      exact ⟨t, he, ht ▸ s.hpb.released_release⟩

end Sys2Proof.Machine
end

section
namespace Sys2Proof.Machine

/-! ## Moves of the conditions (R168, R169, R171)

What a shared operation can do to the Condition Unit and the link is said once by `ConditionsMove`, which composes while no level
source is reported twice. Over a whole command a move, or a write of a mask or of NOTICE_EN, comes first (`Announces`) and the
transmitter's choice after it (`TransmitterMove`); from the two follow the edges, the notices and `ConditionsInv`. -/

/-- The part goes from `s` to `t` with a latch set that was clear. -/
def NewlyLatched (s t : State) : Prop := ∃ n, s.cdu.latches.getLsbD n = false ∧ t.cdu.latches.getLsbD n = true

theorem EdgesLatch.keeps {s t : State} (h : EdgesLatch s t) {n : Nat} (hl : s.cdu.latches.getLsbD n = true) :
    t.cdu.latches.getLsbD n = true := by
  have hn := h n (BitVec.lt_of_getLsbD hl)
  split at hn
  · exact hn.2 (.inl hl)
  · exact hn.1 hl

/-- Edges over one part of a command and then another, no source's value changing in both. -/
theorem EdgesLatch.trans {s u t : State} (h : EdgesLatch s u) (h' : EdgesLatch u t) (hr : u.cdu.riseEn = s.cdu.riseEn)
    (hf : u.cdu.fallEn = s.cdu.fallEn)
    (hone : ∀ n, n < 16 → u.cdu.live.getLsbD n = s.cdu.live.getLsbD n ∨ t.cdu.live.getLsbD n = u.cdu.live.getLsbD n) :
    EdgesLatch s t := by
  intro n hn
  have hsu := h n hn
  have hut := h' n hn
  rw [hr, hf] at hut
  split at hsu
  · rename_i hlevel
    rw [if_pos hlevel] at hut ⊢
    rw [hut, hsu]
    rcases hone n hn with e | e <;> rw [e]
    · cases s.cdu.live.getLsbD n <;> simp
    · cases u.cdu.live.getLsbD n <;> simp
  · rename_i hevent
    rw [if_neg hevent] at hut ⊢
    exact ⟨hut.1 ∘ hsu.1, fun ht => (hut.2 ht).elim hsu.2 .inr⟩

/-- Latches and live values as they were. -/
theorem EdgesLatch.of_same {s t : State} (hl : t.cdu.latches = s.cdu.latches) (hv : t.cdu.live = s.cdu.live) :
    EdgesLatch s t := by
  intro n _
  rw [hl, hv]
  split
  · cases s.cdu.live.getLsbD n <;> simp
  · exact ⟨id, .inl⟩

theorem newlyLatched_same {s t : State} (hl : t.cdu.latches = s.cdu.latches) : ¬NewlyLatched s t := by
  rintro ⟨n, hs, ht⟩
  rw [hl, hs] at ht
  cases ht

/-- A source with a level, which its owner reports; the other sources are events, which are raised (R168). -/
def Source.isLevel (src : Source) : Bool := src.number ∈ [0, 2, 3, 4, 5, 6, 7, 15]

/-- The part goes from `s` to `t` by raising events and by reporting each of the sources `levels` at most once. -/
structure ConditionsMove (levels : List Source) (s t : State) : Prop where
  edges : EdgesLatch s t
  live : ∀ n, n < 16 → (∀ src ∈ levels, src.number ≠ n) → t.cdu.live.getLsbD n = s.cdu.live.getLsbD n
  eventLive : t.cdu.live &&& eventBits = s.cdu.live &&& eventBits
  riseEn : t.cdu.riseEn = s.cdu.riseEn
  fallEn : t.cdu.fallEn = s.cdu.fallEn
  noticeEn : t.cdu.noticeEn = s.cdu.noticeEn
  pending : t.cdu.noticePending = true ↔
    s.cdu.noticePending = true ∨ (s.cdu.noticeEn = true ∧ NewlyLatched s t)
  tx : t.cml.tx = s.cml.tx
  holding : s.cml.holding.length ≤ 2 → t.cml.holding.length ≤ 2

/-- One move after another, with no source reported in both. -/
theorem ConditionsMove.trans {l l' : List Source} {s u t : State} (h : ConditionsMove l s u) (h' : ConditionsMove l' u t)
    (hl : ∀ a ∈ l, ∀ b ∈ l', a.number ≠ b.number) : ConditionsMove (l ++ l') s t where
  edges := h.edges.trans h'.edges h.riseEn h.fallEn fun n hn => by
    by_cases hs : ∀ src ∈ l, src.number ≠ n
    · exact .inl (h.live n hn hs)
    · push Not at hs
      obtain ⟨a, ha, rfl⟩ := hs
      exact .inr (h'.live _ hn fun b hb => (hl a ha b hb).symm)
  live n hn hs := by
    rw [h'.live n hn fun b hb => hs b (List.mem_append_right _ hb), h.live n hn fun a ha => hs a (List.mem_append_left _ ha)]
  eventLive := h'.eventLive.trans h.eventLive
  riseEn := h'.riseEn.trans h.riseEn
  fallEn := h'.fallEn.trans h.fallEn
  noticeEn := h'.noticeEn.trans h.noticeEn
  pending := by
    have hnew : NewlyLatched s t ↔ NewlyLatched s u ∨ NewlyLatched u t := by
      refine ⟨fun ⟨n, hs, ht⟩ => ?_, ?_⟩
      · cases hu : u.cdu.latches.getLsbD n with
        | true => exact .inl ⟨n, hs, hu⟩
        | false => exact .inr ⟨n, hu, ht⟩
      · rintro (⟨n, hs, hu⟩ | ⟨n, hu, ht⟩)
        · exact ⟨n, hs, h'.edges.keeps hu⟩
        · refine ⟨n, Bool.eq_false_iff.2 fun hs => ?_, ht⟩
          rw [h.edges.keeps hs] at hu
          cases hu
    rw [h'.pending, h.pending, h.noticeEn, hnew]
    tauto
  tx := h'.tx.trans h.tx
  holding := h'.holding ∘ h.holding

/-- The Condition Unit and the frame being sent as they were, and no more requests held than there is room for. -/
structure ConditionsStand (s t : State) : Prop where
  cdu : t.cdu = s.cdu
  tx : t.cml.tx = s.cml.tx
  holding : s.cml.holding.length ≤ 2 → t.cml.holding.length ≤ 2

theorem ConditionsStand.of_frame {s t : State} (hc : t.cdu = s.cdu) (hl : t.cml = s.cml) : ConditionsStand s t :=
  ⟨hc, by rw [hl], by rw [hl]; exact id⟩

theorem ConditionsStand.move {s t : State} (h : ConditionsStand s t) (l : List Source) : ConditionsMove l s t where
  edges := .of_same (by rw [h.cdu]) (by rw [h.cdu])
  live _ _ _ := by rw [h.cdu]
  eventLive := by rw [h.cdu]
  riseEn := by rw [h.cdu]
  fallEn := by rw [h.cdu]
  noticeEn := by rw [h.cdu]
  pending := by simp [h.cdu, newlyLatched_same (s := s) (t := t) (by rw [h.cdu])]
  tx := h.tx
  holding := h.holding

section
variable {l : List Source} {s u t : State}

theorem ConditionsMove.of_frame (hc : t.cdu = s.cdu) (hl : t.cml = s.cml) : ConditionsMove l s t :=
  (ConditionsStand.of_frame hc hl).move l

theorem ConditionsMove.refl (l : List Source) (s : State) : ConditionsMove l s s := .of_frame rfl rfl

/-- A move after one that reports no level. -/
theorem ConditionsMove.after (h' : ConditionsMove l u t) (h : ConditionsMove [] s u) : ConditionsMove l s t :=
  h.trans h' (by simp)

/-- A move before one that reports no level. -/
theorem ConditionsMove.before (h : ConditionsMove l s u) (h' : ConditionsMove [] u t) : ConditionsMove l s t := by
  simpa using h.trans h' (by simp)

/-- A move told from another part with the same Condition Unit and link. -/
theorem ConditionsMove.from_frame (h : ConditionsMove l u t) (hc : u.cdu = s.cdu) (hl : u.cml = s.cml) :
    ConditionsMove l s t := h.after (.of_frame hc hl)

/-- A move told of another part with the same Condition Unit and link. -/
theorem ConditionsMove.to_frame (h : ConditionsMove l s u) (hc : t.cdu = u.cdu) (hl : t.cml = u.cml) :
    ConditionsMove l s t := h.before (.of_frame hc hl)

end

/-! ### Raising and reporting -/

/-- What an edge does to a latch: its own is set when it was or when the mask has its bit; the others stay (R169). -/
theorem Conditions.edge_latches (c : Conditions) (en : Word16) (src : Source) (n : Nat) (hn : n < 16) :
    (c.edge en src).latches.getLsbD n = (c.latches.getLsbD n || (decide (n = src.number) && en.getLsbD src.number)) := by
  unfold Conditions.edge
  by_cases he : en.getLsbD src.number = true
  · rw [if_pos he, he]
    by_cases hl : c.latches.getLsbD src.number = true
    · rw [if_pos hl]
      by_cases e : n = src.number <;> simp [e, hl, -BitVec.getLsbD_eq_getElem]
    · rw [if_neg hl]
      simp only [withSourceBit_getLsbD _ _ _ _ hn]
      by_cases e : n = src.number <;> simp [e, -BitVec.getLsbD_eq_getElem]
  · rw [if_neg he, Bool.eq_false_iff.2 he]
    simp

/-- An edge makes a notice pending exactly when its latch was clear and NOTICE_EN is on (R171). -/
theorem Conditions.edge_pending (c : Conditions) (en : Word16) (src : Source) :
    (c.edge en src).noticePending = true ↔ c.noticePending = true ∨ (c.noticeEn = true ∧
      c.latches.getLsbD src.number = false ∧ en.getLsbD src.number = true) := by
  unfold Conditions.edge
  by_cases he : en.getLsbD src.number = true
  · rw [if_pos he]
    by_cases hl : c.latches.getLsbD src.number = true
    · rw [if_pos hl]
      simp [hl, -BitVec.getLsbD_eq_getElem]
    · rw [if_neg hl]
      simp [he, Bool.eq_false_iff.2 hl, -BitVec.getLsbD_eq_getElem]
  · rw [if_neg he]
    simp [he, -BitVec.getLsbD_eq_getElem]

/-- A latch is new after an edge exactly when it was clear and the mask has its bit. -/
theorem newlyLatched_edge {s t : State} {en : Word16} {src : Source} (h : t.cdu.latches = (s.cdu.edge en src).latches) :
    NewlyLatched s t ↔ s.cdu.latches.getLsbD src.number = false ∧ en.getLsbD src.number = true := by
  constructor
  · rintro ⟨n, hs, ht⟩
    rw [h, Conditions.edge_latches _ _ _ _ (BitVec.lt_of_getLsbD ht), hs] at ht
    simp only [Bool.false_or, Bool.and_eq_true, decide_eq_true_eq] at ht
    obtain ⟨rfl, he⟩ := ht
    exact ⟨hs, he⟩
  · rintro ⟨hs, he⟩
    refine ⟨src.number, hs, ?_⟩
    rw [h, Conditions.edge_latches _ _ _ _ src.number_lt, he]
    simp

/-- An event raised (R168, R169). -/
theorem raise_conditions {src : Source} (h : src.isLevel = false) (s : State) : ConditionsMove [] s (raise src s) where
  edges n hn := by
    have hl : (raise src s).cdu.latches.getLsbD n = _ := s.cdu.edge_latches s.cdu.riseEn src n hn
    rw [hl, raise_live]
    split
    · rename_i hlevel
      have hne : n ≠ src.number := by
        rintro rfl
        exact of_decide_eq_false h hlevel
      cases s.cdu.live.getLsbD n <;> simp [hne]
    · refine ⟨fun hs => by rw [hs]; rfl, fun ht => ?_⟩
      by_cases e : n = src.number
      · subst e
        simpa using ht
      · exact .inl (by simpa [e] using ht)
  live n _ _ := by rw [raise_live]
  eventLive := by rw [raise_live]
  riseEn := raise_riseEn src s
  fallEn := s.cdu.edge_fallEn _ _
  noticeEn := s.cdu.edge_noticeEn _ _
  pending := by
    rw [newlyLatched_edge (t := raise src s) rfl]
    exact s.cdu.edge_pending _ _
  tx := rfl
  holding := id

theorem Source.eventBits_level {src : Source} (h : src.isLevel = true) : eventBits.getLsbD src.number = false := by
  cases src with
  | headChanged | sensorFault | frameDropped | stillDone | stillFailed | storeDone | storeFailed | linkError => cases h
  | _ => decide

/-- A level reported (R168, R169). -/
theorem report_conditions {src : Source} (h : src.isLevel = true) (v : Bool) (s : State) :
    ConditionsMove [src] s (report src v s) := by
  by_cases hv : s.cdu.live.getLsbD src.number = v
  · have he : report src v s = s := by
      rw [report, Conditions.report, if_pos hv, State.setCdu_self]
    rw [he]
    exact .refl _ s
  · let c : Conditions := { s.cdu with live := withSourceBit s.cdu.live src.number v }
    have hcdu : (report src v s).cdu = c.edge (if v then s.cdu.riseEn else s.cdu.fallEn) src := if_neg hv
    have hlive (n : Nat) (hn : n < 16) := report_live_bit src v s n hn
    have hother (n : Nat) (hn : n < 16) (hne : n ≠ src.number) :
        (report src v s).cdu.live.getLsbD n = s.cdu.live.getLsbD n := by rw [hlive n hn, if_neg hne]
    have hlatch (n : Nat) (hn : n < 16) : (report src v s).cdu.latches.getLsbD n = (s.cdu.latches.getLsbD n ||
        (decide (n = src.number) && (if v then s.cdu.riseEn else s.cdu.fallEn).getLsbD src.number)) := by
      rw [hcdu]
      exact c.edge_latches _ src n hn
    refine ⟨fun n hn => ?_, fun n hn hne => hother n hn (hne src (by simp)).symm, ?_, report_riseEn src v s,
      s.cdu.report_fallEn src v, s.cdu.report_noticeEn src v, ?_, rfl, id⟩
    · by_cases e : n = src.number
      · subst e
        rw [if_pos (of_decide_eq_true h), hlatch _ hn, hlive _ hn]
        cases v
        · simp [Bool.eq_true_of_not_eq_false hv, -BitVec.getLsbD_eq_getElem]
        · simp [Bool.eq_false_of_not_eq_true hv, -BitVec.getLsbD_eq_getElem]
      · rw [hlatch n hn, hother n hn e]
        split
        · cases s.cdu.live.getLsbD n <;> simp [e]
        · exact ⟨fun hs => by rw [hs]; rfl, fun ht => .inl (by simpa [e] using ht)⟩
    · refine BitVec.eq_of_getLsbD_eq fun n hn => ?_
      simp only [BitVec.getLsbD_and]
      by_cases e : n = src.number
      · subst e
        rw [Source.eventBits_level h, Bool.and_false, Bool.and_false]
      · rw [hother n hn e]
    · have hnew : NewlyLatched s (report src v s) ↔ _ := newlyLatched_edge (s := s.setCdu c) (by rw [hcdu]; rfl)
      rw [hnew, hcdu]
      exact c.edge_pending _ _

end Sys2Proof.Machine
end

section
namespace Sys2Proof.Machine

/-! ### Moves of the shared operations -/

theorem reportUnderlit_conditions (s : State) : ConditionsMove [.underlit] s (reportUnderlit s) := report_conditions rfl _ s

theorem reportZones_conditions (s : State) : ConditionsMove [.zoneOut, .glare] s (reportZones s) :=
  (report_conditions (src := .zoneOut) rfl _ s).trans (report_conditions (src := .glare) rfl _ _) (by decide)

theorem reportLamps_conditions (s : State) :
    ConditionsMove [.tempDerate, .tempFault, .lampCutoff, .underlit] s (reportLamps s) :=
  (((report_conditions (src := .tempDerate) rfl _ s).trans (report_conditions (src := .tempFault) rfl _ _)
    (by decide)).trans (report_conditions (src := .lampCutoff) rfl _ _) (by decide)).trans
    (reportUnderlit_conditions _) (by decide)

theorem takeZones_conditions (b : Bank) (n : Word32) (s : State) : ConditionsMove [.underlit] s (takeZones b n s) :=
  (reportUnderlit_conditions _).from_frame rfl rfl

theorem meteringCompleted_conditions (s : State) :
    ConditionsMove [.zoneOut, .glare, .underlit] s (meteringCompleted s) := by
  unfold meteringCompleted
  split
  · refine ConditionsMove.trans (l := [.zoneOut, .glare]) ?_ (takeZones_conditions _ _ _) (by decide)
    exact (reportZones_conditions _).from_frame rfl rfl
  · exact .refl _ s

theorem storeDone_conditions (s : State) : ConditionsMove [] s (storeDone s) :=
  (raise_conditions rfl _).from_frame rfl rfl

theorem storeFailed_conditions (r : LastResult) (s : State) : ConditionsMove [] s (storeFailed r s) :=
  (raise_conditions rfl _).from_frame rfl rfl

theorem failActive_conditions (a : StillTrack) (s : State) : ConditionsMove [] s (failActive a s) :=
  (raise_conditions rfl _).from_frame (by simp) (by simp)

theorem stillAbandoned_conditions (why : AbandonReason) (tag : Nat) (s : State) :
    ConditionsMove [] s (stillAbandoned why tag s) := by
  unfold stillAbandoned
  split
  · split
    · split
      · exact .of_frame rfl rfl
      · exact (failActive_conditions _ s).to_frame rfl rfl
    · exact .refl _ s
  · exact .refl _ s

theorem sequencerAbandoned_conditions (r : ExposureRecord) (why : AbandonReason) (s : State) :
    ConditionsMove [] s (sequencerAbandoned r why s) := by
  unfold sequencerAbandoned
  split
  · exact .of_frame rfl rfl
  · exact stillAbandoned_conditions why _ s
  · exact .refl _ s

/-- An abandonment raises events: STILL_FAILED where it fails the still, and SENSOR_FAULT (R17, R110). -/
theorem abandonExposure_conditions (why : AbandonReason) (next : ReceiverState) (s : State) :
    ConditionsMove [] s (abandonExposure why next s) := by
  unfold abandonExposure
  split
  · exact .refl _ s
  · refine .before ?_ (raise_conditions rfl _)
    exact (sequencerAbandoned_conditions _ why _).from_frame (by simp) (by simp)

/-- A completion reports the zones' levels and UNDERLIT, and may raise SENSOR_FAULT (R17, R71, R91). -/
theorem completeExposure_conditions (s : State) :
    ConditionsMove [.zoneOut, .glare, .underlit] s (completeExposure s) := by
  unfold completeExposure
  split
  · exact .refl _ s
  · rename_i r _
    let r' : ExposureRecord := { r with state := .complete, patchedLines := s.pxr.patched }
    let u := photometricEnd r' true
      ((s.setPxr (s.pxr.finish .idle)).setCsq { s.csq with exposure := none, lastEnded := some r' })
    have hu : ConditionsMove [.zoneOut, .glare, .underlit] s (sequencerCompleted r' (meteringCompleted u)) :=
      ((meteringCompleted_conditions u).from_frame (by simp [u]) (by simp [u])).to_frame (by simp) (by simp)
    dsimp only
    split
    · exact hu.before (raise_conditions rfl _)
    · exact hu

theorem sequencerAbandon_conditions (why : AbandonReason) (s : State) : ConditionsMove [] s (sequencerAbandon why s) := by
  unfold sequencerAbandon
  split
  · exact .refl _ s
  · exact (abandonExposure_conditions why _ (lampOff s)).from_frame rfl rfl

theorem haltAbandon_conditions (why : AbandonReason) (s : State) : ConditionsMove [] s (haltAbandon why s) := by
  unfold haltAbandon
  split
  · split
    · exact sequencerAbandon_conditions why s
    · exact .refl _ s
  · exact .refl _ s

theorem haltStill_conditions (s : State) : ConditionsMove [] s (haltStill s) := by
  unfold haltStill
  split
  · exact failActive_conditions _ s
  · exact .refl _ s

theorem haltFor_conditions (why : AbandonReason) (s : State) : ConditionsMove [] s (haltFor why s) := by
  unfold haltFor
  split
  · exact .refl _ s
  · exact .of_frame rfl rfl
  · have hd : ConditionsMove [] s (dropFrame (haltAbandon why s)) :=
      (haltAbandon_conditions why s).to_frame (by simp) (by simp)
    exact (hd.before (haltStill_conditions _)).to_frame rfl rfl

theorem haltExit_conditions (s : State) : ConditionsMove [] s (haltExit s) := .of_frame (by simp) (by simp)

theorem examineCutoff_conditions (s : State) : ConditionsMove [] s (examineCutoff s) := by
  unfold examineCutoff
  dsimp only
  split
  · exact .refl _ s
  · split
    · exact (haltFor_conditions _ _).from_frame rfl rfl
    · exact (haltExit_conditions _).from_frame rfl rfl

theorem afterTemperature_conditions (s : State) :
    ConditionsMove [.tempDerate, .tempFault, .lampCutoff, .underlit] s (afterTemperature s) :=
  (reportLamps_conditions _).after (examineCutoff_conditions s)

theorem loadCompleted_conditions (s : State) : ConditionsMove [] s (loadCompleted s) := .of_frame (by simp) (by simp)

theorem beginLoad_conditions (i : Fin 8) (s : State) : ConditionsMove [] s (beginLoad i s) := by
  unfold beginLoad
  split
  · exact .of_frame rfl rfl
  · exact (storeFailed_conditions .corrupt s).before (loadCompleted_conditions _)

theorem endVerify_conditions (i : Fin 8) (lost : LostCells) (s : State) : ConditionsMove [] s (endVerify i lost s) := by
  unfold endVerify
  dsimp only
  split
  · exact .of_frame rfl rfl
  · refine .before ?_ (loadCompleted_conditions _)
    exact (storeFailed_conditions .corrupt _).from_frame (by rfl) (by rfl)

theorem endSave_conditions (i : Fin 8) (lost : LostCells) (s : State) : ConditionsMove [] s (endSave i lost s) := by
  unfold endSave
  dsimp only
  split
  · exact (storeDone_conditions _).from_frame rfl rfl
  · exact (storeFailed_conditions _ _).from_frame rfl rfl

theorem eraseResult_conditions (ok : Bool) (s : State) : ConditionsMove [] s (eraseResult ok s) := by
  unfold eraseResult
  split
  · exact storeDone_conditions s
  · exact storeFailed_conditions _ s

theorem handRow_cml (y : Nat) (row : List Nat) (s : State) : (handRow y row s).cml = s.cml := by
  rw [handRow_blocks]
  rfl

theorem handRows_cml (y : Nat) (rows : List (List Nat)) (s : State) : (handRows y rows s).cml = s.cml := by
  induction rows generalizing y s with
  | nil => rfl
  | cons row rows ih => exact (ih _ _).trans (handRow_cml y row s)

theorem closeOpenLine_link (s : State) : (closeOpenLine s).cdu = s.cdu ∧ (closeOpenLine s).cml = s.cml := by
  unfold closeOpenLine closeLine receiveLine markRecord
  dsimp only
  (repeat' split) <;> simp [handRow_cml, handRows_cml]

/-- The end of a readout abandons its exposure or completes it (R12). -/
theorem endReadout_conditions (s : State) : ConditionsMove [.zoneOut, .glare, .underlit] s (endReadout s) := by
  have habandon (why : AbandonReason) (u : State) :
      ConditionsMove [.zoneOut, .glare, .underlit] u (abandonExposure why .idle u) :=
    (ConditionsMove.refl _ u).before (abandonExposure_conditions why .idle u)
  unfold endReadout judgeReadout
  dsimp only
  split
  · exact (habandon _ _).from_frame rfl rfl
  · split
    · exact (habandon _ _).from_frame (by simp) (by simp [handRows_cml])
    · exact (completeExposure_conditions _).from_frame (by simp) (by simp [handRows_cml])

theorem cancelActive_conditions (a : StillTrack) (s : State) : ConditionsMove [] s (cancelActive a s) := by
  unfold cancelActive
  refine .to_frame (u := if cancellable a.req.tag s = true then sequencerAbandon .cancelled s else s) ?_ (by simp) (by simp)
  split
  · exact sequencerAbandon_conditions _ s
  · exact .refl _ s

/-- The reservation of a slot raises FRAME_DROPPED where a READY stream frame makes room (R124, R125). -/
theorem reserveSlot_conditions (claim : Fin 4 × Bool) (kind : PictureKind) (s : State) :
    ConditionsMove [] s (reserveSlot claim kind s) := by
  unfold reserveSlot
  dsimp only
  split
  · exact (raise_conditions rfl _).from_frame rfl rfl
  · exact .of_frame rfl rfl

theorem startStill_conditions (q : StillRequest) (rest : List StillRequest) (claim : Fin 4 × Bool) (s : State) :
    ConditionsMove [] s (startStill q rest claim s) := by
  refine .to_frame (u := reserveSlot claim (.still q.tag) (s.setPhc _)) ?_ rfl rfl
  exact (reserveSlot_conditions claim _ _).from_frame rfl rfl

theorem offerStream_conditions (w : Waiting) (s : State) : ConditionsMove [] s (offerStream w s) := by
  unfold offerStream
  dsimp only
  split
  · refine .to_frame (u := reserveSlot _ .stream (takeWaiting s)) ?_ rfl rfl
    exact (reserveSlot_conditions _ _ _).from_frame rfl rfl
  · exact (raise_conditions rfl _).from_frame (by simp) (by simp [takeWaiting])

theorem finishStill_conditions (tag : Nat) (s : State) : ConditionsMove [] s (finishStill tag s) :=
  (raise_conditions rfl _).from_frame rfl rfl

theorem reportHeadChange_conditions (last : Option (Fin 12)) (c : Classification) (s : State) :
    ConditionsMove [] s (reportHeadChange last c s) := by
  unfold reportHeadChange
  split
  · split
    · exact .refl _ s
    · exact (raise_conditions (src := .headChanged) rfl s).before (.of_frame (by simp) (by simp))
  · exact .refl _ s

/-- A request that comes in joins the holding area while it has room, and else raises LINK_ERROR (R175). -/
theorem arrive_conditions (q : Request) (s : State) : ConditionsMove [] s (arrive q s) := by
  unfold arrive
  split
  · refine ConditionsStand.move ?_ _
    refine ⟨rfl, rfl, fun _ => ?_⟩
    simp only [State.setCml_cml, List.length_append, List.length_singleton]
    omega
  · exact raise_conditions rfl s

theorem setRx_conditions (rx : LinkRx) (s : State) : ConditionsMove [] s (setRx rx s) :=
  (show ConditionsStand s (setRx rx s) from ⟨rfl, rfl, id⟩).move _

theorem rxByte_conditions (s : State) (b : Byte) : ConditionsMove [] s (rxByte s b) := by
  unfold rxByte
  split
  · split
    · exact setRx_conditions _ s
    · exact .refl _ s
  · split <;> exact setRx_conditions _ s
  · split <;> exact setRx_conditions _ s
  · dsimp only
    split <;> exact setRx_conditions _ s
  · exact setRx_conditions _ s
  · dsimp only
    refine (setRx_conditions .hunt s).before ?_
    split
    · exact arrive_conditions _ _
    · exact raise_conditions rfl _

theorem rxBytes_conditions (bytes : List Byte) (s : State) : ConditionsMove [] s (bytes.foldl rxByte s) := by
  induction bytes generalizing s with
  | nil => exact .refl _ s
  | cons b bs ih => exact (rxByte_conditions s b).before (ih _)

end Sys2Proof.Machine
end

section
namespace Sys2Proof.Machine

/-! ### A command up to the transmitter's choice, and the choice (R171, R177) -/

/-- The part goes from `s` to `u` by a command up to the transmitter's choice: edges latch, a latch newly set makes a notice pending,
NOTICE_EN as it was neither makes nor cancels one, and the frame being sent goes on. -/
structure Announces (s u : State) : Prop where
  edges : EdgesLatch s u
  made : s.cdu.noticeEn = true → NewlyLatched s u → u.cdu.noticePending = true
  quiet : u.cdu.noticeEn = s.cdu.noticeEn →
    (s.cdu.noticeEn = false ∨ ∀ n, u.cdu.latches.getLsbD n = true → s.cdu.latches.getLsbD n = true) →
    u.cdu.noticePending = true → s.cdu.noticePending = true
  stays : u.cdu.noticeEn = s.cdu.noticeEn → s.cdu.noticePending = true → u.cdu.noticePending = true
  tx : u.cml.tx = s.cml.tx
  keeps : ConditionsInv s → ConditionsInv u

/-- The transmitter goes on from `u` to `t`: it waits, or, when idle, a notice begins to be sent, or a reply when none is pending
(R171, R177). -/
inductive TransmitterMove (u t : State) : Prop where
  | waits (cdu : t.cdu = u.cdu) (tx : t.cml.tx = u.cml.tx) (holding : t.cml.holding = u.cml.holding)
  | notice (idle : u.cml.tx = none) (due : u.cdu.noticePending = true)
      (cdu : t.cdu = { u.cdu with noticePending := false }) (started : NoticeStarted t)
      (holding : t.cml.holding = u.cml.holding)
  | reply (idle : u.cml.tx = none) (none_due : u.cdu.noticePending = false) (cdu : t.cdu = u.cdu) (f : LinkFrame) (b : Bool)
      (tx : t.cml.tx = some (.reply f b)) (holding : t.cml.holding = u.cml.holding)

/-- What a command does to the conditions, its notices included. -/
def ConditionsStep (s t : State) : Prop := ∃ u, Announces s u ∧ TransmitterMove u t

theorem pump_transmits (s : State) : TransmitterMove s (pump s) := by
  rcases pump_cases s with h | ⟨hidle, hdue, h⟩ | ⟨hidle, hnone, f, b, rest, -, h⟩ <;> rw [h]
  · exact .waits rfl rfl rfl
  · exact .notice hidle hdue rfl ⟨_, rfl⟩ rfl
  · exact .reply hidle hnone rfl f b rfl rfl

section
variable {l : List Source} {s u v t : State}

/-- What the transmitter leaves of the Condition Unit and the holding area. -/
theorem TransmitterMove.kept (m : TransmitterMove u t) : t.cdu.latches = u.cdu.latches ∧ t.cdu.live = u.cdu.live ∧
    t.cdu.noticeEn = u.cdu.noticeEn ∧ (t.cdu.noticePending = true → u.cdu.noticePending = true) ∧
    t.cml.holding = u.cml.holding := by
  cases m with
  | waits cdu _ holding => rw [cdu]; exact ⟨rfl, rfl, rfl, id, holding⟩
  | notice _ due cdu _ holding => rw [cdu]; exact ⟨rfl, rfl, rfl, fun _ => due, holding⟩
  | reply _ _ cdu _ _ _ holding => rw [cdu]; exact ⟨rfl, rfl, rfl, id, holding⟩

/-- A pending notice stays pending, or it begins to be sent by an idle transmitter. -/
theorem TransmitterMove.pending (m : TransmitterMove u t) (h : u.cdu.noticePending = true) :
    t.cdu.noticePending = true ∨ (u.cml.tx = none ∧ NoticeStarted t) := by
  cases m with
  | waits cdu => rw [cdu]; exact .inl h
  | notice idle _ _ started => exact .inr ⟨idle, started⟩
  | reply _ none_due => rw [h] at none_due; cases none_due

/-- A frame being sent goes on. -/
theorem TransmitterMove.sending (m : TransmitterMove u t) {x : Sending} (h : u.cml.tx = some x) : t.cml.tx = some x := by
  cases m with
  | waits _ tx => exact tx.trans h
  | notice idle => rw [h] at idle; cases idle
  | reply idle => rw [h] at idle; cases idle

/-- A notice that is being sent was being sent before, or was pending. -/
theorem TransmitterMove.notice_from (m : TransmitterMove u t) {f : LinkFrame} (h : t.cml.tx = some (.notice f)) :
    u.cml.tx = some (.notice f) ∨ u.cdu.noticePending = true := by
  cases m with
  | waits _ tx => exact .inl (tx ▸ h)
  | notice _ due => exact .inr due
  | reply _ _ _ f b tx => rw [tx] at h; cases h

/-- Once a frame is being sent the transmitter waits. -/
theorem TransmitterMove.trans (m : TransmitterMove u v) (m' : TransmitterMove v t) : TransmitterMove u t := by
  have hwait {x : Sending} (h : v.cml.tx = some x) : t.cdu = v.cdu ∧ t.cml.tx = v.cml.tx ∧ t.cml.holding = v.cml.holding := by
    cases m' with
    | waits cdu tx holding => exact ⟨cdu, tx, holding⟩
    | notice idle => rw [h] at idle; cases idle
    | reply idle => rw [h] at idle; cases idle
  cases m with
  | waits cdu tx holding =>
    cases m' with
    | waits cdu' tx' holding' => exact .waits (cdu'.trans cdu) (tx'.trans tx) (holding'.trans holding)
    | notice idle due cdu' started holding' =>
      exact .notice (tx ▸ idle) (cdu ▸ due) (cdu ▸ cdu') started (holding'.trans holding)
    | reply idle none_due cdu' f b tx' holding' =>
      exact .reply (tx ▸ idle) (cdu ▸ none_due) (cdu'.trans cdu) f b tx' (holding'.trans holding)
  | notice idle due cdu started holding =>
    obtain ⟨code, hx⟩ := started
    obtain ⟨cdu', tx', holding'⟩ := hwait hx
    exact .notice idle due (cdu'.trans cdu) ⟨code, by rw [tx', hx, cdu']⟩ (holding'.trans holding)
  | reply idle none_due cdu f b tx holding =>
    obtain ⟨cdu', tx', holding'⟩ := hwait tx
    exact .reply idle none_due (cdu'.trans cdu) f b (tx'.trans tx) (holding'.trans holding)

/-- A part with the latches, the live set and the holding area as they were, and no notice made pending. -/
theorem ConditionsInv.of_kept (h : ConditionsInv s) (hl : t.cdu.latches = s.cdu.latches) (hv : t.cdu.live = s.cdu.live)
    (hn : t.cdu.noticeEn = s.cdu.noticeEn) (hp : t.cdu.noticePending = true → s.cdu.noticePending = true)
    (hh : s.cml.holding.length ≤ 2 → t.cml.holding.length ≤ 2) : ConditionsInv t := by
  obtain ⟨hlive, hpending, hholding⟩ := h
  refine ⟨by rw [hv]; exact hlive, fun ht => ?_, hh hholding⟩
  rw [hn, hl]
  exact hpending (hp ht)

theorem TransmitterMove.keeps (m : TransmitterMove u t) (h : ConditionsInv u) : ConditionsInv t := by
  obtain ⟨hl, hv, hn, hp, hh⟩ := m.kept
  exact h.of_kept hl hv hn hp (by rw [hh]; exact id)

/-- A mask is not 0 exactly when it has a bit. -/
theorem mask_ne_zero_iff (m : Word16) : m ≠ 0 ↔ ∃ n, m.getLsbD n = true := by
  refine ⟨fun h => ?_, fun ⟨n, hn⟩ e => by simp [e] at hn⟩
  by_contra hno
  push Not at hno
  exact h (BitVec.eq_of_getLsbD_eq fun n _ => by simpa using hno n)

/-- A move makes a notice pending exactly for a latch newly set (R171). -/
theorem ConditionsMove.announces (h : ConditionsMove l s u) : Announces s u where
  edges := h.edges
  made hn hnew := h.pending.2 (.inr ⟨hn, hnew⟩)
  quiet _ hquiet hp := by
    rcases h.pending.1 hp with hs | ⟨hn, n, hs, hu⟩
    · exact hs
    · rcases hquiet with hoff | hnone
      · rw [hn] at hoff
        cases hoff
      · rw [hnone n hu] at hs
        cases hs
  stays _ hp := h.pending.2 (.inl hp)
  tx := h.tx
  keeps := by
    rintro ⟨hlive, hpending, hholding⟩
    refine ⟨h.eventLive.trans hlive, fun hu => ?_, h.holding hholding⟩
    rw [h.noticeEn, mask_ne_zero_iff]
    rcases h.pending.1 hu with hs | ⟨hn, n, -, hl⟩
    · obtain ⟨hn, hl⟩ := hpending hs
      obtain ⟨n, hl⟩ := (mask_ne_zero_iff _).1 hl
      exact ⟨hn, n, h.edges.keeps hl⟩
    · exact ⟨hn, n, hl⟩

/-- The same command told from another part that stands as the first. -/
theorem Announces.from_stand (h : Announces u t) (hs : ConditionsStand s u) : Announces s t := by
  obtain ⟨hc, ht, hh⟩ := hs
  obtain ⟨edges, made, quiet, stays, tx, keeps⟩ := h
  simp only [EdgesLatch, NewlyLatched, hc] at edges made quiet stays
  exact ⟨edges, made, quiet, stays, tx.trans ht, fun hi => keeps
    (hi.of_kept (by rw [hc]) (by rw [hc]) (by rw [hc]) (by rw [hc]; exact id) hh)⟩

/-- The same command told of another part that stands as the last. -/
theorem Announces.to_stand (h : Announces s u) (hs : ConditionsStand u t) : Announces s t := by
  obtain ⟨hc, ht, hh⟩ := hs
  obtain ⟨edges, made, quiet, stays, tx, keeps⟩ := h
  simp only [EdgesLatch, NewlyLatched, ← hc] at edges made quiet stays
  exact ⟨edges, made, quiet, stays, ht.trans tx, fun hi =>
    (keeps hi).of_kept (by rw [hc]) (by rw [hc]) (by rw [hc]) (by rw [hc]; exact id) hh⟩

theorem Announces.of_frame (hc : t.cdu = s.cdu) (hl : t.cml = s.cml) : Announces s t :=
  (ConditionsMove.of_frame (l := []) hc hl).announces

theorem Announces.refl (s : State) : Announces s s := .of_frame rfl rfl

/-! A command with the transmitter's choice: its edges (R169), its notices (R171) and the invariant. -/

theorem ConditionsStep.edges (h : ConditionsStep s t) : EdgesLatch s t := by
  obtain ⟨u, h, m⟩ := h
  obtain ⟨hl, hv, -⟩ := m.kept
  have he := h.edges
  simpa only [EdgesLatch, hl, hv] using he

theorem ConditionsStep.notices (h : ConditionsStep s t) (i : Instr) : NoticesMade i s t := by
  obtain ⟨u, h, m⟩ := h
  obtain ⟨hl, -, hn, hp, -⟩ := m.kept
  refine ⟨fun hon hnew => ?_, fun hsame hquiet => ⟨fun ht => ?_, fun f hf => ?_⟩, fun hsame hs => ?_, fun _ x hx => ?_⟩
  · rw [hl] at hnew
    exact (m.pending (h.made hon hnew)).imp_right fun ⟨hidle, hstarted⟩ => ⟨h.tx ▸ hidle, hstarted⟩
  · rw [hl] at hquiet
    exact h.quiet (hn ▸ hsame) hquiet (hp ht)
  · rw [hl] at hquiet
    exact (m.notice_from hf).imp (fun hu => h.tx ▸ hu) (h.quiet (hn ▸ hsame) hquiet)
  · exact (m.pending (h.stays (hn ▸ hsame) hs)).imp_right fun ⟨hidle, hstarted⟩ => ⟨.inl (h.tx ▸ hidle), hstarted⟩
  · exact m.sending (h.tx.trans hx)

theorem ConditionsStep.keeps (h : ConditionsStep s t) (hs : ConditionsInv s) : ConditionsInv t := by
  obtain ⟨u, h, m⟩ := h
  exact m.keeps (h.keeps hs)

theorem Announces.pumped (h : Announces s u) : ConditionsStep s (pump u) := ⟨u, h, pump_transmits u⟩

theorem Announces.step (h : Announces s t) : ConditionsStep s t := ⟨t, h, .waits rfl rfl rfl⟩

theorem ConditionsStep.of_frame (hc : t.cdu = s.cdu) (hl : t.cml = s.cml) : ConditionsStep s t :=
  (Announces.of_frame hc hl).step

theorem ConditionsStep.refl (s : State) : ConditionsStep s s := .of_frame rfl rfl

theorem ConditionsStep.transmit (h : ConditionsStep s u) (m : TransmitterMove u t) : ConditionsStep s t := by
  obtain ⟨v, h, m'⟩ := h
  exact ⟨v, h, m'.trans m⟩

theorem ConditionsStep.from_frame (h : ConditionsStep u t) (hc : u.cdu = s.cdu) (hl : u.cml = s.cml) :
    ConditionsStep s t := by
  obtain ⟨v, h, m⟩ := h
  exact ⟨v, h.from_stand (.of_frame hc hl), m⟩

end

theorem startUpProgress_transmits (s : State) : TransmitterMove s (startUpProgress s) := by
  obtain ⟨hcdu, -⟩ := startUpProgress_kept s
  exact .waits hcdu (by simp) (by simp)

/-- An adoption raises HEAD_CHANGED, reports HEAD_PRESENT and may halt the part; the transmitter's choice comes before start-up goes
on (R117, R164, R171). -/
theorem adopt_conditions (c : Classification) (s : State) : ConditionsStep s (adopt c s) := by
  let u := reportHeadChange s.hpb.lastHead c (s.setHpb (s.hpb.adopt c))
  have hu : ConditionsMove [] s u := (reportHeadChange_conditions _ c _).from_frame rfl rfl
  have hv : ConditionsMove [.headPresent] s (report .headPresent (headPresent u) u) :=
    (report_conditions rfl _ u).after hu
  unfold adopt
  refine ConditionsStep.transmit ?_ (startUpProgress_transmits _)
  refine (ConditionsMove.announces (l := [.headPresent]) ?_).pumped
  refine .before ?_ (haltExit_conditions _)
  split
  · exact hv.before (haltFor_conditions _ _)
  · exact hv

theorem useClassification_conditions (c : Classification) (s : State) : ConditionsStep s (useClassification c s) := by
  unfold useClassification
  split
  · exact .of_frame rfl rfl
  · split
    · exact adopt_conditions c s
    · exact .of_frame rfl rfl

/-- The completion of a still's first send raises STILL_DONE (R111, R130). -/
theorem completeSend_conditions (snd : Send) (s : State) : ConditionsStep s (completeSend snd s) := by
  unfold completeSend
  dsimp only
  split
  · exact ((finishStill_conditions _ _).from_frame (by rfl) (by rfl)).announces.pumped
  · exact .of_frame rfl rfl

end Sys2Proof.Machine
end

section
namespace Sys2Proof.Machine

/-! ### What the requests do to the conditions -/

/-- Bringing a request leaves the Condition Unit, unless the holding area has no room: then LINK_ERROR is raised and the request is
not the next to be taken (R175). -/
theorem bring_cases (q : Request) (s : State) : ConditionsStand s (bring q s) ∨
    (bring q s = raise .linkError s ∧ (bring q s).cml.nextRequest ≠ some q) := by
  unfold bring
  split
  · exact .inl (.of_frame rfl rfl)
  · rename_i hnext
    split
    · unfold arrive
      split
      · refine .inl ⟨rfl, rfl, fun _ => ?_⟩
        simp only [State.setCml_cml, List.length_append, List.length_singleton]
        omega
      · exact .inr ⟨rfl, hnext⟩
    · exact .inl (.of_frame rfl rfl)

/-- A request examined goes to its owner, or is refused with nothing changed (R176). -/
theorem examine_effect (q : Request) (owner : State → Answer) (s : State) :
    (examine q owner s).2 = s ∨ (examine q owner s).2 = (owner s).2 := by
  unfold examine
  split
  · exact .inl rfl
  · split
    · exact .inl rfl
    · split
      · exact .inl rfl
      · exact .inr rfl

theorem markTaken_length (holding : List HeldRequest) : (markTaken holding).length = holding.length := by
  induction holding with
  | nil => rfl
  | cons h hs ih =>
    unfold markTaken
    split <;> simp [ih]

theorem composeReply_stands (q : Request) (r : Response) (s : State) : ConditionsStand s (composeReply q r s) := by
  refine ⟨rfl, rfl, fun h => ?_⟩
  simpa only [composeReply, State.setCml_cml, markTaken_length] using h

/-- What serving a request does before the transmitter goes on: the request is taken, examined and answered, or it only comes in. -/
theorem serve_cases (q : Request) (owner : State → Answer) (s : State) :
    (∃ u, ConditionsStand s u ∧
      serve q owner s = pump (composeReply q (examine q owner u).1 (examine q owner u).2)) ∨
    ∃ u, ConditionsMove [] s u ∧ serve q owner s = pump u := by
  unfold serve take
  dsimp only
  rcases bring_cases q s with hb | ⟨hb, hnext⟩
  · split
    · exact .inl ⟨_, hb, rfl⟩
    · exact .inr ⟨_, hb.move [], rfl⟩
  · rw [if_neg hnext, hb]
    exact .inr ⟨_, raise_conditions rfl s, rfl⟩

/-- Serving a request does to the conditions what its owner does, and the transmitter goes on. -/
theorem serve_conditions {owner : State → Answer} (ho : ∀ u, Announces u (owner u).2) (q : Request) (s : State) :
    ConditionsStep s (serve q owner s) := by
  rcases serve_cases q owner s with ⟨u, hu, he⟩ | ⟨u, hu, he⟩ <;> rw [he]
  · have hx : Announces u (examine q owner u).2 := by
      rcases examine_effect q owner u with e | e <;> rw [e]
      · exact .refl u
      · exact ho u
    exact ((hx.from_stand hu).to_stand (composeReply_stands q _ _)).pumped
  · exact hu.announces.pumped

/-- The invariant is kept by serving a request whose owner keeps it. -/
theorem ConditionsInv.serve {owner : State → Answer} (ho : ∀ u, ConditionsInv u → ConditionsInv (owner u).2) {s : State}
    (h : ConditionsInv s) (q : Request) : ConditionsInv (serve q owner s) := by
  rcases serve_cases q owner s with ⟨u, hu, he⟩ | ⟨u, hu, he⟩ <;> rw [he]
  · have hkept := (hu.move []).announces.keeps h
    have hx : ConditionsInv (examine q owner u).2 := by
      rcases examine_effect q owner u with e | e <;> rw [e]
      · exact hkept
      · exact ho u hkept
    exact (((composeReply_stands q _ _).move []).announces.pumped).keeps hx
  · exact hu.announces.pumped.keeps h

/-- A request that is the next one once brought is taken when it comes (R175, R176). -/
theorem takes_of_bring {q : Request} {s : State} (h : (bring q s).cml.nextRequest = some q) : Takes q s := by
  unfold bring at h
  split at h
  · exact .inl h
  · rename_i hnext
    split at h
    · rename_i hrx
      unfold arrive at h
      split at h
      · rename_i hroom
        cases hr : s.cml.resetTaken with
        | true => simp [Link.nextRequest, hr] at h
        | false =>
          cases hf : s.cml.holding.find? fun x => !x.taken with
          | none => exact .inr ⟨hrx, hroom, by simpa using hf, hr⟩
          | some x =>
            have hnext' : s.cml.nextRequest = some x.request := by simp [Link.nextRequest, hr, hf]
            have hx : some x.request = some q := by simpa [Link.nextRequest, hr, List.find?_append, hf] using h
            exact absurd (hnext'.trans hx) hnext
      · exact absurd h hnext
    · exact absurd h hnext

/-- A request that is not served does not reach its owner: it is not taken, or start-up has not ended (R176). -/
theorem serve_unserved {q : Request} {s : State} (hk : startUpKind q.kind = false)
    (h : ¬(Takes q s ∧ startUpEnded s = true)) (owner : State → Answer) : serve q owner s = serve q (refuse .busy) s := by
  by_cases ht : Takes q s
  · refine serve_starting ?_ hk owner
    by_contra hs
    exact h ⟨ht, decide_eq_true hs⟩
  · have hnext : (bring q s).cml.nextRequest ≠ some q := fun e => ht (takes_of_bring e)
    simp only [serve, if_neg hnext]

/-- A write of a mask changes no latch and no notice (R170). -/
theorem Announces.of_masks {s t : State} (rise fall : Word16)
    (hc : t.cdu = { s.cdu with riseEn := rise, fallEn := fall }) (hl : t.cml = s.cml) : Announces s t where
  edges := .of_same (by rw [hc]) (by rw [hc])
  made _ hnew := absurd hnew (newlyLatched_same (by rw [hc]))
  quiet _ _ hp := by rw [hc] at hp; exact hp
  stays _ hp := by rw [hc]; exact hp
  tx := by rw [hl]
  keeps h := h.of_kept (by rw [hc]) (by rw [hc]) (by rw [hc]) (by rw [hc]; exact id) (by rw [hl]; exact id)

/-- A write of NOTICE_EN changes no latch; the value it holds changes nothing (R171). -/
theorem setNotice_announces (on : Bool) (s : State) : Announces s (s.setCdu (s.cdu.setNotice on)) := by
  by_cases hs : s.cdu.noticeEn = on
  · rw [Conditions.setNotice_same hs]
    exact .refl s
  · have hnoticeEn : (s.cdu.setNotice on).noticeEn = on := by rw [Conditions.setNotice, if_neg hs]
    have hlatches : (s.cdu.setNotice on).latches = s.cdu.latches := by rw [Conditions.setNotice, if_neg hs]
    have hlive : (s.cdu.setNotice on).live = s.cdu.live := by rw [Conditions.setNotice, if_neg hs]
    refine ⟨.of_same hlatches hlive, fun _ hnew => absurd hnew (newlyLatched_same hlatches),
      fun he => absurd (he.symm.trans hnoticeEn) hs, fun he => absurd (he.symm.trans hnoticeEn) hs, rfl, ?_⟩
    rintro ⟨hevents, hpending, hholding⟩
    refine ⟨by rw [State.setCdu_cdu, hlive]; exact hevents, fun hp => ?_, hholding⟩
    rw [State.setCdu_cdu, hnoticeEn, hlatches]
    rw [State.setCdu_cdu, Conditions.setNotice, if_neg hs] at hp
    simp only [Bool.and_eq_true, Bool.or_eq_true, decide_eq_true_eq] at hp
    obtain ⟨hon, hp⟩ := hp
    refine ⟨hon, hp.elim (fun hp => ?_) id⟩
    obtain ⟨-, hl⟩ := hpending hp
    exact hl

theorem setBankReport_conditions (b : Bank) (x : BankLamp) (s : State) :
    ConditionsMove [.underlit] s (setBankReport b x s) := (reportUnderlit_conditions _).from_frame rfl rfl

theorem writeWhenOpen_link (r : Response) (c : Content) (s : State) :
    (writeWhenOpen r c s).2.cdu = s.cdu ∧ (writeWhenOpen r c s).2.cml = s.cml := by
  unfold writeWhenOpen
  split <;> exact ⟨rfl, rfl⟩

theorem writeWhenOpen_announces (r : Response) (c : Content) (s : State) : Announces s (writeWhenOpen r c s).2 := by
  obtain ⟨hc, hl⟩ := writeWhenOpen_link r c s
  exact .of_frame hc hl

theorem storeHeader_announces (v : Int) (c : Option Content) (s : State) : Announces s (storeHeader v c s).2 := by
  cases c with
  | none => exact .refl s
  | some c => exact writeWhenOpen_announces _ c s

/-- The write of a parameter: the masks and NOTICE_EN are the Condition Unit's own; a lamp's setting may report UNDERLIT, and a thermal
limit every level of the lamps (R84, R91). -/
theorem writeParam_announces (p : Param) (b : Bank) (st : UpdateStyle) (value : List Byte) (s : State) :
    Announces s (writeParam p b st value s).2 := by
  cases p with
  | align | depth => exact storeQuiescent_keeps (.refl s) _ _ fun _ => .of_frame rfl rfl
  | readoutTimeout | patchLimit | darkEvery | clipLevel | fill | sendPeriod | probePeriod | deadband | target
  | interval => exact .of_frame rfl rfl
  | blackMode | policy | sendMode | streamFormat | paced | autoswitch =>
    exact storeChoice_keeps (.refl s) _ _ fun _ => .of_frame rfl rfl
  | mode | steer => exact storeChoice_keeps (.refl s) _ _ fun _ => (setBankReport_conditions _ _ s).announces
  | expo | level | min | max => exact (setBankReport_conditions _ _ s).announces
  | ceiling => exact ((reportUnderlit_conditions _).from_frame (by rfl) (by rfl)).announces
  | blackLevel =>
    simp only [writeParam, writeBlackLevel]
    split <;> exact .of_frame rfl rfl
  | riseEn =>
    simp only [writeParam, writeRiseEn, storeMask]
    split
    · exact .of_masks _ s.cdu.fallEn rfl rfl
    · exact .refl s
  | fallEn =>
    simp only [writeParam, writeFallEn, storeMask]
    split
    · exact .of_masks s.cdu.riseEn _ rfl rfl
    · exact .refl s
  | noticeEn => exact storeChoice_keeps (.refl s) _ _ fun on => setNotice_announces on s
  | profileId | headBind | bankSet | outWidth | outHeight | hasTone => exact storeHeader_announces _ _ s
  | label => exact writeWhenOpen_announces _ _ s
  | derateStart =>
    simp only [writeParam, writeDerateStart]
    split
    · exact .refl s
    · exact ((afterTemperature_conditions _).from_frame (by rfl) (by rfl)).announces
  | cutoff =>
    simp only [writeParam, writeCutoff]
    split
    · exact .refl s
    · exact ((afterTemperature_conditions _).from_frame (by rfl) (by rfl)).announces

theorem checkPset_announces (p : Param) (bank style : Byte) (value : List Byte) (s : State) :
    Announces s (checkPset p bank style value s).2 := by
  unfold checkPset
  split
  · split
    · exact .refl s
    · split
      · exact .refl s
      · split
        · exact writeParam_announces _ _ _ _ s
        · exact .refl s
  · exact .refl s

theorem psetOwner_announces (body : List Byte) (s : State) : Announces s (psetOwner body s).2 := by
  unfold psetOwner
  split
  · split
    · exact checkPset_announces _ _ _ _ s
    · exact .refl s
  · exact .refl s

theorem stopStream_announces (s : State) : Announces s (stopStream s) := by
  unfold stopStream dropStopped
  split
  · split
    · exact .of_frame (by simp [withdrawStream]) (by simp [withdrawStream])
    · exact .of_frame rfl rfl
  · exact .of_frame rfl rfl

theorem scanOwner_announces (body : List Byte) (s : State) : Announces s (scanOwner body s).2 := by
  unfold scanOwner
  dsimp only
  split
  · exact (cancelActive_conditions _ s).announces
  · (repeat' split) <;> exact .of_frame rfl rfl

theorem zsetOwner_announces (body : List Byte) (s : State) : Announces s (zsetOwner body s).2 := by
  unfold zsetOwner
  split
  · exact ((reportZones_conditions _).from_frame (by rfl) (by rfl)).announces
  · exact .refl s

theorem twrtOwner_announces (body : List Byte) (s : State) : Announces s (twrtOwner body s).2 := by
  unfold twrtOwner
  dsimp only
  split
  · exact .refl s
  · split
    · exact .refl s
    · exact writeWhenOpen_announces _ _ s

theorem pactOwner_announces (body : List Byte) (s : State) : Announces s (pactOwner body s).2 := by
  unfold pactOwner
  split
  · exact .of_frame (by simp) (by simp)
  · exact .refl s

/-- RSET changes the link alone, and neither the holding area nor what is being sent (R182). -/
theorem rsetOwner_announces (s : State) : Announces s (rsetOwner s).2 :=
  ((show ConditionsStand s (rsetOwner s).2 from ⟨rfl, rfl, id⟩).move []).announces

end Sys2Proof.Machine
end

section
namespace Sys2Proof.Machine

/-! ### Every command -/

theorem carryTrigger_link (plan : TriggerPlan) (s : State) :
    (carryTrigger plan s).cdu = s.cdu ∧ (carryTrigger plan s).cml = s.cml := by
  cases plan with
  | first id => exact ⟨rfl, rfl⟩
  | second =>
    unfold carryTrigger
    dsimp only
    split <;> exact ⟨rfl, rfl⟩
  | dark => exact ⟨rfl, rfl⟩
  | still b =>
    unfold carryTrigger
    dsimp only
    split
    · cases b <;> exact ⟨rfl, rfl⟩
    · exact ⟨rfl, rfl⟩

/-- The commands that carry no request, but FULL_RESET and FRAME_SENT. -/
theorem exec_conditions_events {i : Instr} {s t : State} (h : exec i s = .next t) (hi : requestOf i = none)
    (h1 : i ≠ .fullReset) (h2 : i ≠ .frameSent) : ConditionsStep s t := by
  cases i with
  | fullReset => exact absurd rfl h1
  | frameSent => exact absurd rfl h2
  | startupScanDone =>
    simp only [exec, execStartupScanDone] at h
    split at h <;> cases h
    · refine .from_frame (u := (s.setPfs { s.pfs with directory := scanDirectory s.pfs.slots }).setCsq
        { s.csq with scanDone := true }) ?_ rfl rfl
      exact (ConditionsStep.refl _).transmit ((startUpProgress_transmits _).trans (pump_transmits _))
    · exact .refl s
  | trigger =>
    simp only [exec, execTrigger] at h
    split at h <;> cases h
    · rename_i plan _
      obtain ⟨hc, hl⟩ := carryTrigger_link plan s
      exact .of_frame hc hl
    · exact .refl s
  -- the pixel port and the timers
  | exposureEnd | frameOpen | pixelWord _ | intervalExpiry | probePeriodExpiry =>
    simp only [exec, execExposureEnd, execFrameOpen, execPixelWord, execIntervalExpiry, execProbePeriodExpiry] at h
    (repeat' split at h) <;> cases h <;> exact .of_frame rfl rfl
  | lineOpen =>
    obtain ⟨hc, hl⟩ := closeOpenLine_link s
    simp only [exec, execLineOpen] at h
    split at h
    · split at h <;> cases h <;> exact .of_frame hc hl
    · cases h; exact .refl s
  | lineClose =>
    obtain ⟨hc, hl⟩ := closeOpenLine_link s
    cases h; exact .of_frame hc hl
  | frameClose =>
    obtain ⟨hc, hl⟩ := closeOpenLine_link s
    simp only [exec, execFrameClose] at h
    split at h <;> cases h
    · exact ((endReadout_conditions _).from_frame hc hl).announces.pumped
    · exact .of_frame rfl rfl
    · exact .refl s
  | readoutTimeout =>
    simp only [exec, execReadoutTimeout] at h
    split at h <;> cases h
    · exact .refl s
    · exact (abandonExposure_conditions _ _ s).announces.pumped
  -- stills, the remap engine and the video port
  | foldComplete _ | finaliseComplete | renderComplete | sendStart | sendPeriodExpiry =>
    simp only [exec, execFoldComplete, execFinaliseComplete, execRenderComplete, execSendStart, execSendPeriodExpiry] at h
    split at h <;> cases h <;> exact .of_frame rfl rfl
  | finaliseStart =>
    simp only [exec, execFinaliseStart] at h
    (repeat' split at h) <;> cases h <;> exact .of_frame rfl rfl
  | stillStart =>
    simp only [exec, execStillStart] at h
    split at h
    · split at h
      · split at h <;> cases h
        · exact ((raise_conditions (src := .stillFailed) rfl _).from_frame (by rfl) (by rfl)).announces.pumped
        · exact (startStill_conditions _ _ _ s).announces.pumped
      · cases h; exact .refl s
    · cases h; exact .refl s
  | renderStart =>
    simp only [exec, execRenderStart] at h
    split at h
    · split at h
      · cases h; exact (offerStream_conditions _ s).announces.pumped
      · split at h <;> cases h <;> exact .of_frame rfl rfl
    · cases h; exact .refl s
  | sendComplete =>
    simp only [exec, execSendComplete] at h
    split at h <;> cases h
    · exact .refl s
    · exact completeSend_conditions _ s
  | modemReady =>
    simp only [exec, execModemReady] at h
    split at h
    · cases h; exact .refl s
    · split at h <;> cases h
      · exact .of_frame rfl rfl
      · exact completeSend_conditions _ s
  -- the switch and the store's phases
  | switchDrain =>
    simp only [exec, execSwitchDrain] at h
    split at h <;> cases h <;> exact .of_frame rfl rfl
  | switchLoad =>
    simp only [exec, execSwitchLoad] at h
    split at h
    · split at h <;> cases h
      · exact ((beginLoad_conditions _ _).from_frame (by rfl) (by rfl)).announces.pumped
      · exact .of_frame (by simp) (by simp)
    · cases h; exact .refl s
  | verifyPassDone lost =>
    simp only [exec, execVerifyPassDone] at h
    split at h <;> cases h
    · exact (endVerify_conditions _ lost s).announces.pumped
    · exact .refl s
  | copyPassDone =>
    simp only [exec, execCopyPassDone] at h
    split at h <;> cases h
    · exact (((storeDone_conditions _).from_frame (by rfl) (by rfl)).before (loadCompleted_conditions _)).announces.pumped
    · exact .refl s
  | saveEraseDone | bootWriteEraseDone =>
    simp only [exec, execSaveEraseDone, execBootWriteEraseDone] at h
    split at h <;> cases h <;> exact .of_frame rfl rfl
  | saveProgramDone lost =>
    simp only [exec, execSaveProgramDone] at h
    split at h <;> cases h
    · exact (endSave_conditions _ lost s).announces.pumped
    · exact .refl s
  | eraseDone lost =>
    simp only [exec, execEraseDone] at h
    split at h <;> cases h
    · exact ((eraseResult_conditions _ _).from_frame (by rfl) (by rfl)).announces.pumped
    · exact .refl s
  | eraseAllSlotDone lost =>
    simp only [exec, execEraseAllSlotDone] at h
    split at h
    · split at h <;> cases h
      · exact .of_frame rfl rfl
      · exact ((eraseResult_conditions _ _).from_frame (by rfl) (by rfl)).announces.pumped
    · cases h; exact .refl s
  | bootWriteProgramDone lost =>
    simp only [exec, execBootWriteProgramDone] at h
    split at h <;> cases h
    · refine Announces.pumped (ConditionsMove.announces (l := []) ?_)
      split
      · exact (storeDone_conditions _).from_frame (by rfl) (by rfl)
      · exact (storeFailed_conditions _ _).from_frame (by rfl) (by rfl)
    · exact .refl s
  -- the probe's conversions
  | idConversionDone code =>
    simp only [exec, execIdConversionDone] at h
    split at h <;> cases h
    · exact ((useClassification_conditions _ _).from_frame (by rfl) (by rfl)).transmit (pump_transmits _)
    · exact .refl s
  | tempConversionDone code =>
    simp only [exec, execTempConversionDone] at h
    split at h <;> cases h
    · exact ((afterTemperature_conditions _).from_frame (by rfl) (by rfl)).announces.pumped
    · exact .refl s
  -- the link
  | frameReceived bytes => cases h; exact (rxBytes_conditions bytes s).announces.pumped
  | byteGapTimeout => cases h; exact (setRx_conditions _ s).announces.step
  | lenOutOfRange len =>
    simp only [exec, execLenOutOfRange] at h
    split at h <;> cases h
    · exact ((rxByte_conditions s _).before (rxByte_conditions _ _)).announces.step
    · exact (rxByte_conditions s _).announces.step
    · exact .refl s
  | _ => cases hi

/-- The requests, but LTCH where it is served. -/
theorem exec_conditions_requests {i : Instr} {s t : State} (h : exec i s = .next t) (hi : requestOf i ≠ none)
    (hltch : ∀ body, i = .ltch body → ¬Served i s) : ConditionsStep s t := by
  cases i with
  | badKind kind body =>
    simp only [exec, execBadKind] at h
    split at h <;> cases h
    · exact .refl s
    · exact serve_conditions (fun u => .refl u) _ s
  | ltch body =>
    have hunserved : ¬(Takes ⟨0x05, body⟩ s ∧ startUpEnded s = true) := fun ⟨ht, hup⟩ =>
      hltch body rfl ⟨⟨_, rfl, ht⟩, hup⟩
    cases h
    rw [serve_unserved rfl hunserved]
    exact serve_conditions (fun u => .refl u) _ s
  | idnt _ => cases h; exact serve_conditions (fun u => .refl u) _ s
  | rset _ => cases h; exact serve_conditions rsetOwner_announces _ s
  -- the requests that change neither the Condition Unit nor the link
  | stat _ | zget _ | plst _ | pget _ | trd _ | brd _ | hprb _ | sgo _ | stil _ | psav _ | pers _ | sers _ | pprt _
  | bwrt _ =>
    cases h
    refine serve_conditions (fun u => .of_frame ?_ ?_) _ s <;>
      simp only [answerData, pgetOwner, trdOwner, brdOwner, hprbOwner, sgoOwner, requestStream, stilOwner, psavOwner,
        persOwner, sersOwner, pprtOwner, bwrtOwner, accept] <;> (repeat' split) <;> rfl
  | pset body => cases h; exact serve_conditions (psetOwner_announces body) _ s
  | psetLevel _ _ _ | psetMin _ _ _ | psetMax _ _ _ | psetExpo _ _ _ | psetMode _ _ _ | psetSteer _ _ _
  | psetCeiling _ _ _ | psetDerateStart _ _ _ | psetCutoff _ _ _ | psetSendMode _ _ _ | psetRiseEn _ _ _
  | psetFallEn _ _ _ | psetNoticeEn _ _ _ | psetOutWidth _ _ _ | psetOutHeight _ _ _ | psetBankSet _ _ _
  | psetHasTone _ _ _ | psetProfileId _ _ _ | psetHeadBind _ _ _ | psetLabel _ _ _ =>
    cases h; exact serve_conditions (checkPset_announces _ _ _ _) _ s
  | shlt _ => cases h; exact serve_conditions stopStream_announces _ s
  | scan body => cases h; exact serve_conditions (scanOwner_announces body) _ s
  | zset body => cases h; exact serve_conditions (zsetOwner_announces body) _ s
  | twrt body => cases h; exact serve_conditions (twrtOwner_announces body) _ s
  | pact body => cases h; exact serve_conditions (pactOwner_announces body) _ s
  | _ => exact absurd rfl hi

/-- Every command but FULL_RESET, FRAME_SENT and a served LTCH. -/
theorem exec_conditions {i : Instr} {s t : State} (h : exec i s = .next t) (h1 : i ≠ .fullReset) (h2 : i ≠ .frameSent)
    (h3 : ∀ body, i = .ltch body → ¬Served i s) : ConditionsStep s t := by
  by_cases hi : requestOf i = none
  · exact exec_conditions_events h hi h1 h2
  · exact exec_conditions_requests h hi h3

end Sys2Proof.Machine
end

section
namespace Sys2Proof.Machine

/-! ### FRAME_SENT, LTCH and the resets (R172, R173, R176, R177) -/

/-- The part once the frame being sent has ended, before the transmitter's choice: it is idle, and a reply's held request has left
the holding area (R176). -/
def sendingEnded (x : Sending) (s : State) : State :=
  s.setCml { s.cml with
    tx := none,
    holding := match x with
      | .notice _ => s.cml.holding
      | .reply _ _ => s.cml.holding.tail }

theorem endSending_eq {x : Sending} (hx : ∀ f, x ≠ .reply f true) (s : State) : endSending x s = sendingEnded x s := by
  cases x with
  | notice f => rfl
  | reply f resets =>
    cases resets with
    | true => exact absurd rfl (hx f)
    | false => rfl

/-- The end of a frame that is not an RSET's OK (R177). -/
theorem exec_frameSent {s : State} {x : Sending} (h : s.cml.tx = some x) (hx : ∀ f, x ≠ .reply f true) :
    exec .frameSent s = .next (pump (sendingEnded x s)) := by
  simp only [exec, execFrameSent, h, endSending_eq hx]

theorem sendingEnded_holding (x : Sending) (s : State) : (sendingEnded x s).cml.holding.length ≤ s.cml.holding.length := by
  cases x with
  | notice f => exact le_refl _
  | reply f resets =>
    simp only [sendingEnded, State.setCml_cml, List.length_tail]
    omega

/-- At the end of a frame no latch changes, and a pending notice begins to be sent (R171, R177). -/
theorem sendingEnded_notices (x : Sending) (s : State) :
    EdgesLatch s (pump (sendingEnded x s)) ∧ NoticesMade .frameSent s (pump (sendingEnded x s)) := by
  have m := pump_transmits (sendingEnded x s)
  obtain ⟨hl, hv, -, hp, -⟩ := m.kept
  refine ⟨.of_same hl hv, fun _ hnew => absurd hnew (newlyLatched_same hl), fun _ _ => ⟨hp, fun f hf => ?_⟩,
    fun _ hs => ?_, fun hne => absurd rfl hne⟩
  · rcases m.notice_from hf with hidle | hdue
    · cases hidle
    · exact .inr hdue
  · exact (m.pending hs).imp_right fun ⟨_, hstarted⟩ => ⟨.inr rfl, hstarted⟩

theorem ConditionsInv.sendingEnded {s : State} (h : ConditionsInv s) (x : Sending) :
    ConditionsInv (pump (sendingEnded x s)) :=
  (pump_transmits _).keeps (h.of_kept rfl rfl rfl id (sendingEnded_holding x s).trans)

/-- A soft reset clears the latches and the holding area, and records three levels as 0 (R173, R175). -/
theorem ConditionsInv.softReset {s : State} (h : ConditionsInv s) : ConditionsInv (softReset s) := by
  obtain ⟨hlive, -, -⟩ := h
  refine ⟨?_, by simp [Machine.softReset, Conditions.softReset], by simp [Machine.softReset, Link.softReset]⟩
  rw [softReset_live, BitVec.and_assoc, BitVec.and_comm 0xFF1F, ← BitVec.and_assoc, hlive]
  rfl

theorem ConditionsInv.frameSent {s t : State} (h : ConditionsInv s) (he : exec .frameSent s = .next t) :
    ConditionsInv t := by
  cases htx : s.cml.tx with
  | none =>
    simp only [exec, execFrameSent, htx] at he
    cases he
    exact h
  | some x =>
    by_cases hx : ∃ f, x = .reply f true
    · obtain ⟨f, rfl⟩ := hx
      rw [exec_frameSent_reset htx] at he
      cases he
      exact h.softReset
    · rw [exec_frameSent htx (not_exists.1 hx)] at he
      cases he
      exact h.sendingEnded x

/-- LTCH clears the latches and cancels the pending notice (R172). -/
theorem ConditionsInv.ltchOwner {s : State} (h : ConditionsInv s) : ConditionsInv (ltchOwner s).2 := by
  obtain ⟨hlive, -, hholding⟩ := h
  exact ⟨hlive, nofun, hholding⟩

/-- Every command keeps the Condition Unit and the holding area in order. -/
theorem ConditionsInv.exec {i : Instr} {s t : State} (h : ConditionsInv s) (he : exec i s = .next t) : ConditionsInv t := by
  by_cases h1 : i = .fullReset
  · subst h1
    cases he
    exact fullReset_conditions s
  by_cases h2 : i = .frameSent
  · subst h2
    exact h.frameSent he
  by_cases h3 : ∃ body, i = .ltch body
  · obtain ⟨body, rfl⟩ := h3
    cases he
    exact h.serve (fun u hu => hu.ltchOwner) _
  exact (exec_conditions he h1 h2 fun body e => absurd ⟨body, e⟩ h3).keeps h

theorem idleMoment_link (s : State) : (idleMoment s).cdu = s.cdu ∧ (idleMoment s).cml = s.cml := by
  unfold idleMoment
  (repeat' split) <;> exact ⟨rfl, rfl⟩

/-- Every step keeps the invariant; the commands waiting have no part in it. -/
theorem ConditionsInv.step {s t : State} (h : ConditionsInv s) (hstep : step s = .next t) : ConditionsInv t := by
  unfold Machine.step at hstep
  split at hstep
  · cases hstep
    obtain ⟨hc, hl⟩ := idleMoment_link s
    exact (ConditionsStep.of_frame hc hl).keeps h
  · rename_i rest _
    exact ConditionsInv.exec (s := s.setPending rest) h hstep

/-- Settles O59: the invariant over every step by `ConditionsInv.step`; the edges and the notices of a command by `exec_conditions`,
and of the end of a frame by `sendingEnded_notices`. -/
theorem conditionsInvariantKept : Obligations.ConditionsInvariantKept := by
  refine ⟨fun s t h hstep => h.step hstep, fun i s t he h1 h3 h4 => ?_⟩
  by_cases h2 : i = .frameSent
  · subst h2
    cases htx : s.cml.tx with
    | none =>
      simp only [exec, execFrameSent, htx] at he
      cases he
      exact ⟨(ConditionsStep.refl s).edges, (ConditionsStep.refl s).notices _⟩
    | some x =>
      rw [exec_frameSent htx fun f e => h4 rfl f (e ▸ htx)] at he
      cases he
      exact sendingEnded_notices x s
  · have hstep := exec_conditions he h1 h2 h3
    exact ⟨hstep.edges, hstep.notices i⟩

end Sys2Proof.Machine
end

section
namespace Sys2Proof.Machine

/-! ## The end of a frame's sending and the line (R171, R174, R176, R177) -/

section
variable {s : State}

theorem pump_link (s : State) : (pump s).cml.rx = s.cml.rx ∧ (pump s).cml.holding = s.cml.holding ∧
    (pump s).cml.resetTaken = s.cml.resetTaken := by
  rcases pump_cases s with h | ⟨-, -, h⟩ | ⟨-, -, f, b, rest, -, h⟩ <;> rw [h] <;> exact ⟨rfl, rfl, rfl⟩

/-- An idle transmitter sends the pending notice before any reply (R171, R177). -/
theorem pump_notice (ht : s.cml.tx = none) (hn : s.cdu.noticePending = true) :
    pump s = (s.setCml { s.cml with tx := some (.notice (noticeFrame s)) }).setCdu { s.cdu with noticePending := false } := by
  simp only [pump, ht, hn, if_true]

/-- With no notice pending an idle transmitter sends the oldest reply (R177). -/
theorem pump_reply {f : LinkFrame} {b : Bool} {rest : List (LinkFrame × Bool)} (ht : s.cml.tx = none)
    (hn : s.cdu.noticePending = false) (hr : s.cml.replies = (f, b) :: rest) :
    pump s = s.setCml { s.cml with tx := some (.reply f b), replies := rest } := by
  simp only [pump, ht, hn, hr]
  rfl

end

/-- What the line carries while the frame `f` is being sent (R174). -/
theorem transmitBytes_frame {s : State} {x : Sending} {f : LinkFrame} (h : s.cml.tx = some x) (hf : x.frame = f) :
    ∃ hi lo, hi ++ lo = crc16 (byte (f.body.length + 1) :: f.kind :: f.body) ∧
      transmitBytes s = 0xA5 :: byte (f.body.length + 1) :: f.kind :: f.body ++ [hi, lo] := by
  obtain ⟨hi, lo, hcrc, hcheck⟩ := checkBytes_eq (byte (f.body.length + 1) :: f.kind :: f.body)
  refine ⟨hi, lo, hcrc, ?_⟩
  rw [transmitBytes_sending h, hf, frameOnLine, hcheck]
  rfl

/-- Settles O38: the end of a sending is the transmitter's choice in `sendingEnded`, taken case by case. -/
theorem frameSentFreesTransmitter : Obligations.FrameSentFreesTransmitter := by
  refine ⟨fun s => ⟨fun h => ?_, fun x htx hx => ⟨_, exec_frameSent htx hx, ?_⟩⟩,
    fun t h => ?_, fun t f h => ?_, fun t => rfl, byteOnLine_lineBits⟩
  · simp only [exec, execFrameSent, h]
  · obtain ⟨hrx, hholding, -⟩ := pump_link (sendingEnded x s)
    refine ⟨outsideLink_pump _, hrx, fun f hf => ?_, fun f hf => ?_, fun hn => ?_, fun hn f b rest hr => ?_, fun hn hr => ?_⟩
    · rw [hholding, hf]
      rfl
    · rw [hholding, hf]
      rfl
    · rw [pump_notice (s := sendingEnded x s) rfl hn]
      exact ⟨rfl, rfl, _, rfl, rfl, rfl⟩
    · rw [pump_reply (s := sendingEnded x s) rfl hn hr]
      exact ⟨rfl, rfl⟩
    · rw [pump_idle (s := sendingEnded x s) hn hr]
      rfl
  · have hidle := transmitBytes_idle h
    exact ⟨hidle, by rw [transmitBits, hidle]; rfl⟩
  · rcases h with h | ⟨b, h⟩
    · exact transmitBytes_frame h rfl
    · exact transmitBytes_frame h rfl

end Sys2Proof.Machine
end

section
namespace Sys2Proof.Machine

/-! ## LTCH and RSET (R172, R182) -/

/-- With an RSET taken no request is taken (R182). -/
theorem not_takes_of_resetTaken {s : State} (h : s.cml.resetTaken = true) (q : Request) : ¬Takes q s := by
  rintro (hnext | ⟨-, -, -, hr⟩)
  · simp [Link.nextRequest, h] at hnext
  · rw [h] at hr
    cases hr

/-- A served LTCH gives the latches and the live set as they stand, clears the latches and cancels the notice (R172). -/
theorem ltch_served {s : State} (hs : Served (.ltch []) s) : Completes (.ltch []) s fun t =>
    Answered 0x05 .ok (le16 s.cdu.latches.toNat ++ le16 s.cdu.live.toNat) (s.setCdu { s.cdu with latches := 0 }) t ∧
      t.cdu.latches = 0 ∧ t.cdu.noticePending = false := by
  obtain ⟨⟨q, hq, ht⟩, hup⟩ := hs
  obtain rfl : (⟨0x05, []⟩ : Request) = q := Option.some.inj hq
  obtain ⟨hold, he⟩ := serve_eq (owner := ltchOwner) ht rfl rfl (.inl hup)
  refine ⟨_, congrArg Host.Outcome.next he, ⟨newestReply_composed _ _ _, outsideLink_pump _⟩, pump_latches _, ?_⟩
  obtain ⟨hpending, -⟩ := pump_notPending (s := composeReply ⟨0x05, []⟩
    (ltchOwner (s.setCml { s.cml with holding := hold })).1 (ltchOwner (s.setCml { s.cml with holding := hold })).2) rfl
  exact hpending

/-- A served RSET is answered, and the link takes no further request (R182). -/
theorem rset_served {s : State} (hs : Served (.rset []) s) :
    Completes (.rset []) s fun t => Answered 0x3F .ok [] s t ∧ ∀ q, ¬Takes q t := by
  obtain ⟨⟨q, hq, ht⟩, hup⟩ := hs
  obtain rfl : (⟨0x3F, []⟩ : Request) = q := Option.some.inj hq
  obtain ⟨hold, he⟩ := serve_eq (owner := rsetOwner) ht rfl rfl (.inl hup)
  refine ⟨_, congrArg Host.Outcome.next he, ⟨newestReply_composed _ _ _, outsideLink_pump _⟩, not_takes_of_resetTaken ?_⟩
  obtain ⟨-, -, hreset⟩ := pump_link (composeReply ⟨0x3F, []⟩
    (rsetOwner (s.setCml { s.cml with holding := hold })).1 (rsetOwner (s.setCml { s.cml with holding := hold })).2)
  exact hreset

/-- Settles O42. -/
theorem latchesReadAndResetTaken : Obligations.LatchesReadAndResetTaken := fun _ => ⟨ltch_served, rset_served⟩

end Sys2Proof.Machine
end

section
namespace Sys2Proof.Machine

/-! ## The check value of a frame (R174) -/

section
variable {w : Nat} (g : BitVec w) (b : Byte)

/-- One step of a check value's remainder with the generator `g`, most significant bit first. -/
def crcStep (c : BitVec w) : BitVec w := if c.msb then c <<< 1 ^^^ g else c <<< 1

/-- One bit of the message: the bit that leaves the remainder, against bit `7 - k` of the byte, decides on the generator. -/
def crcBit (c : BitVec w) (k : Nat) : BitVec w :=
  c <<< 1 ^^^ if c.getLsbD (w - 1) = b.getLsbD (7 - k) then 0#w else g

/-- A byte standing at the top of the remainder gives its next bit to the step, and moves up by one. -/
theorem crcStep_mixed (c : BitVec w) {k : Nat} (hk : k < 8) (hw : 8 ≤ w) :
    crcStep g (c ^^^ (b.setWidth w <<< (w - 8 + k))) = crcBit g b c k ^^^ (b.setWidth w <<< (w - 8 + (k + 1))) := by
  have hout : (c ^^^ (b.setWidth w <<< (w - 8 + k))).msb = (c.getLsbD (w - 1) ^^ b.getLsbD (7 - k)) := by
    have hbit : w - 1 - (w - 8 + k) = 7 - k := by omega
    have hin : ¬w - 1 < w - 8 + k := by omega
    have hlast : w - 1 < w := by omega
    have hlow : 7 - k < w := by omega
    rw [BitVec.msb_eq_getLsbD_last, BitVec.getLsbD_xor, BitVec.getLsbD_shiftLeft, BitVec.getLsbD_setWidth, hbit]
    simp [hin, hlast, hlow]
  have hshift : (c ^^^ (b.setWidth w <<< (w - 8 + k))) <<< 1 = c <<< 1 ^^^ (b.setWidth w <<< (w - 8 + (k + 1))) := by
    rw [BitVec.shiftLeft_xor_distrib, ← BitVec.shiftLeft_add, Nat.add_assoc]
  rw [crcStep, hout, hshift, crcBit]
  cases c.getLsbD (w - 1) <;> cases b.getLsbD (7 - k) <;> simp [BitVec.xor_assoc, BitVec.xor_comm _ g]

/-- A byte mixed in at the top is taken bit by bit. -/
theorem crcStep_iterate (c : BitVec w) (hw : 8 ≤ w) {n : Nat} (hn : n ≤ 8) :
    Nat.iterate (crcStep g) n (c ^^^ (b.setWidth w <<< (w - 8))) =
      (List.range n).foldl (crcBit g b) c ^^^ (b.setWidth w <<< (w - 8 + n)) := by
  induction n with
  | zero => rfl
  | succ n ih =>
    rw [Function.iterate_succ_apply', ih (by omega), crcStep_mixed g b _ (by omega) hw, List.range_succ,
      List.foldl_append]
    rfl

end

theorem crc16Step_eq : crc16Step = crcStep 0x1021#16 := rfl

theorem crc16Byte_eq (c : Word16) (b : Byte) : crc16Byte c b = (List.range 8).foldl (crcBit 0x1021#16 b) c := by
  have hgone : b.setWidth 16 <<< (16 - 8 + 8) = 0#16 := BitVec.shiftLeft_eq_zero (by decide)
  have h := crcStep_iterate 0x1021#16 b c (by decide) (Nat.le_refl 8)
  rw [hgone, BitVec.xor_zero, ← crc16Step_eq] at h
  exact h

/-- R174's check value: from 0xFFFF, byte after byte. -/
theorem crc16_bits : crc16 [] = 0xFFFF#16 ∧ ∀ (bytes : List Byte) (b : Byte),
    crc16 (bytes ++ [b]) = (List.range 8).foldl (crcBit 0x1021#16 b) (crc16 bytes) := by
  refine ⟨rfl, fun bytes b => ?_⟩
  simp only [crc16, List.foldl_append, List.foldl_cons, List.foldl_nil, crc16Byte_eq]

/-- The bytes of a frame, its check value high byte first (R174). -/
theorem frameOnLine_eq (kind : Byte) (body : List Byte) : frameOnLine kind body =
    let c := crc16 (byte (body.length + 1) :: kind :: body)
    0xA5#8 :: byte (body.length + 1) :: kind :: body ++ [(c >>> 8).setWidth 8, c.setWidth 8] := rfl

/-! ## A frame at the receiver (R175) -/

section
variable {s : State}

/-- Bytes of a body still wanted are taken, and the check bytes are awaited. -/
theorem rxBytes_body {len kind : Byte} {more : List Byte} (hm : more ≠ []) : ∀ {got : List Byte} {s : State},
    s.cml.rx = .body len kind got → got.length + more.length + 1 = len.toNat →
      more.foldl rxByte s = setRx (.checkHigh len kind (got ++ more)) s := by
  induction more with
  | nil => exact absurd rfl hm
  | cons b bs ih =>
    intro got s hrx hlen
    rw [List.length_cons] at hlen
    cases bs with
    | nil =>
      have hlast : (got ++ [b]).length + 1 = len.toNat := by simpa using hlen
      simp only [List.foldl_cons, List.foldl_nil, rxByte, hrx, if_pos hlast]
    | cons b' bs =>
      have hmore : ¬(got ++ [b]).length + 1 = len.toNat := by simp at hlen ⊢; omega
      have hstep : rxByte s b = setRx (.body len kind (got ++ [b])) s := by
        simp only [rxByte, hrx, if_neg hmore]
      rw [List.foldl_cons, hstep, ih (by simp) (got := got ++ [b]) rfl (by simp at hlen ⊢; omega), List.append_assoc]
      rfl

/-- LEN, KIND and BODY are taken, and the check bytes are awaited. -/
theorem rxBytes_checked {kind : Byte} {body : List Byte} (hlen : body.length ≤ 240) (hrx : s.cml.rx = .length) :
    (byte (body.length + 1) :: kind :: body).foldl rxByte s =
      setRx (.checkHigh (byte (body.length + 1)) kind body) s := by
  have hbyte : (byte (body.length + 1)).toNat = body.length + 1 := byte_toNat (by omega)
  have hok : ¬((byte (body.length + 1)).toNat = 0 ∨ 241 < (byte (body.length + 1)).toNat) := by omega
  have hlenByte : rxByte s (byte (body.length + 1)) = setRx (.kind (byte (body.length + 1))) s := by
    simp only [rxByte, hrx, if_neg hok]
  rw [List.foldl_cons, List.foldl_cons, hlenByte]
  cases body with
  | nil => rfl
  | cons b bs =>
    have hmore : ¬(byte ((b :: bs).length + 1)).toNat = 1 := by rw [hbyte]; simp
    have hkind : rxByte (setRx (.kind (byte ((b :: bs).length + 1))) s) kind =
        setRx (.body (byte ((b :: bs).length + 1)) kind []) s := by
      simp only [rxByte, setRx, State.setCml_cml, if_neg hmore, State.setCml_setCml]
    rw [hkind, rxBytes_body (by simp) rfl (by rw [hbyte]; simp)]
    rfl

/-- A whole frame in HUNT: its request arrives when the check value is its CRC-16, and LINK_ERROR is raised when not. -/
theorem rxBytes_frame {kind hi lo : Byte} {body : List Byte} (hlen : body.length ≤ 240) (hrx : s.cml.rx = .hunt) :
    (0xA5#8 :: byte (body.length + 1) :: kind :: body ++ [hi, lo]).foldl rxByte s =
      if crc16 (byte (body.length + 1) :: kind :: body) = hi ++ lo then arrive ⟨kind, body⟩ s else raise .linkError s := by
  have hstart : rxByte s 0xA5#8 = setRx .length s := by
    simp only [rxByte, hrx]
    rfl
  have hback : setRx .hunt s = s := by
    rw [setRx, ← hrx]
    rfl
  have hcheck (len : Byte) : [hi, lo].foldl rxByte (setRx (.checkHigh len kind body) s) =
      if crc16 (len :: kind :: body) = hi ++ lo then arrive ⟨kind, body⟩ (setRx .hunt s)
      else raise .linkError (setRx .hunt s) := rfl
  rw [List.cons_append, List.foldl_cons, List.foldl_append, hstart, rxBytes_checked hlen rfl]
  exact (hcheck _).trans (by rw [hback])

end

/-! ## What arrives (R175) -/

section
variable {s : State}

/-- Setting a bit that is set changes nothing. -/
theorem withSourceBit_of_set {m : Word16} {src : Source} (h : m.getLsbD src.number = true) :
    withSourceBit m src.number true = m := by
  refine BitVec.eq_of_getLsbD_eq fun n hn => ?_
  rw [withSourceBit_getLsbD m src true n hn]
  split
  · next e => rw [e, h]
  · rfl

/-- What raising LINK_ERROR does, beside the notice it makes (R168, R169, R171). -/
theorem outsideLink_linkError (s : State) : outsideLink (raise .linkError s) = outsideLink (linkErrorRaised s) := by
  refine outsideLink_setCdu (linkErrorRaised s) (s.cdu.raise .linkError) ?_
  have hset : s.cdu.latches ||| 0x4000#16 = withSourceBit s.cdu.latches Source.linkError.number true := rfl
  have hbit : Source.linkError.number = 14 := rfl
  simp only [linkErrorRaised, State.setCdu_cdu, hset, Conditions.raise, Conditions.edge, ← hbit]
  by_cases hr : s.cdu.riseEn.getLsbD Source.linkError.number = true
  · by_cases hl : s.cdu.latches.getLsbD Source.linkError.number = true
    · simp only [if_pos hr, if_pos hl, withSourceBit_of_set hl]
    · simp only [if_pos hr, if_neg hl]
  · simp only [if_neg hr]

theorem linkErrorRaised_masked (h : s.cdu.riseEn.getLsbD 14 = false) : linkErrorRaised s = s := by
  simp only [linkErrorRaised, h]
  rfl

/-- LINK_ERROR raised and the transmitter going on: the link's receiver and holding area stand, and outside the link there is
LINK_ERROR's latch alone. -/
theorem pump_linkError (s : State) :
    (pump (raise .linkError s)).cml.rx = s.cml.rx ∧ (pump (raise .linkError s)).cml.holding = s.cml.holding ∧
    outsideLink (pump (raise .linkError s)) = outsideLink (linkErrorRaised s) ∧
    (s.cdu.riseEn.getLsbD 14 = true → (pump (raise .linkError s)).cdu.latches.getLsbD 14 = true) := by
  obtain ⟨hrx, hholding, -⟩ := pump_link (raise .linkError s)
  refine ⟨hrx, hholding, (outsideLink_pump _).trans (outsideLink_linkError s), fun h => ?_⟩
  rw [pump_latches]
  exact raise_latched (src := .linkError) h

theorem arrive_joins (q : Request) (h : s.cml.holding.length < 2) :
    arrive q s = s.setCml { s.cml with holding := s.cml.holding ++ [{ request := q, taken := false }] } := if_pos h

theorem arrive_lost (q : Request) (h : 2 ≤ s.cml.holding.length) : arrive q s = raise .linkError s :=
  if_neg (Nat.not_lt.2 h)

/-- A request that arrives with room in the holding area is its newest, and nothing else changes outside the link. -/
theorem pump_arrive_joins (q : Request) (h : s.cml.holding.length < 2) :
    (pump (arrive q s)).cml.rx = s.cml.rx ∧
    (pump (arrive q s)).cml.holding = s.cml.holding ++ [{ request := q, taken := false }] ∧
    outsideLink (pump (arrive q s)) = outsideLink s := by
  obtain ⟨hrx, hholding, -⟩ := pump_link (arrive q s)
  rw [hrx, hholding, outsideLink_pump, arrive_joins q h]
  exact ⟨rfl, rfl, rfl⟩

end

/-- Settles O36: the frame's bytes go through the receiver to the request's arrival. -/
theorem frameReceivedArrives : Obligations.FrameReceivedArrives := by
  refine ⟨crc16_bits, frameOnLine_eq, fun kind body s hlen hrx => ?_⟩
  obtain ⟨hi, lo, hcrc, hcheck⟩ := checkBytes_eq (byte (body.length + 1) :: kind :: body)
  have hline : frameOnLine kind body = 0xA5#8 :: byte (body.length + 1) :: kind :: body ++ [hi, lo] :=
    congrArg (0xA5#8 :: byte (body.length + 1) :: kind :: body ++ ·) hcheck
  have hbytes : (frameOnLine kind body).foldl rxByte s = arrive ⟨kind, body⟩ s := by
    rw [hline, rxBytes_frame hlen hrx, if_pos hcrc.symm]
  refine ⟨_, congrArg (fun t => Host.Outcome.next (pump t)) hbytes, ?_⟩
  rcases Nat.lt_or_ge s.cml.holding.length 2 with hroom | hfull
  · obtain ⟨hrx', hjoins, hout⟩ := pump_arrive_joins ⟨kind, body⟩ hroom
    exact ⟨hrx'.trans hrx, fun _ => ⟨hjoins, hout⟩, fun h => absurd hroom (Nat.not_lt.2 h)⟩
  · obtain ⟨hrx', hstands, hout, hlatch⟩ := pump_linkError s
    rw [arrive_lost _ hfull]
    exact ⟨hrx'.trans hrx, fun h => absurd h (Nat.not_lt.2 hfull),
      fun _ => ⟨hstands, hout, hlatch, fun h => by rw [hout, linkErrorRaised_masked h]⟩⟩

/-- Settles O37: a frame with other check bytes ends in LINK_ERROR, and a gap or a LEN out of range in HUNT. -/
theorem damagedFramesDiscarded : Obligations.DamagedFramesDiscarded := by
  refine ⟨crc16_bits, fun kind hi lo body s hlen hrx hcrc => ?_, fun s => rfl, fun len s hrange hrx => ?_⟩
  · have hbytes := (rxBytes_frame hlen hrx).trans (if_neg (Ne.symm hcrc))
    obtain ⟨hrx', hstands, hout, hlatch⟩ := pump_linkError s
    exact ⟨_, congrArg (fun t => Host.Outcome.next (pump t)) hbytes, hrx'.trans hrx, hstands, hout, hlatch⟩
  · have hout : len.toNat = 0 ∨ 241 < len.toNat := hrange.imp_left fun h => by rw [h]; rfl
    have hdrop : ∀ {u : State}, u.cml.rx = .length → rxByte u len = setRx .hunt u := fun hu => by
      simp only [rxByte, hu, if_pos hout]
    rcases hrx with hrx | hrx
    · have hstart : rxByte s Config.startByte = setRx .length s := by simp only [rxByte, hrx, if_true]
      simp only [exec, execLenOutOfRange, hrx, hstart]
      rw [hdrop rfl]
      rfl
    · simp only [exec, execLenOutOfRange, hrx]
      rw [hdrop hrx]
      rfl

end Sys2Proof.Machine
end

section
namespace Sys2Proof.Machine

/-! ## The requests' kinds and body lengths (R176 and the request index) -/

theorem replyKind_eq (kind : Byte) : replyKind kind = if kind.toNat < 0x80 then kind + 0x80 else kind := by
  simp only [replyKind, byte, BitVec.ofNat_add, BitVec.ofNat_toNat, BitVec.setWidth_eq]
  rfl

theorem startUpKind_iff (kind : Byte) : startUpKind kind = true ↔ kind.toNat ∈ [0x01, 0x02, 0x03] := by
  simp [startUpKind, or_assoc]

/-- The requests whose bodies have one length. -/
theorem lengthOk_fixed (kind : Byte) (body : List Byte) :
    let fits (n : Nat) : Prop := lengthOk ⟨kind, body⟩ = true ↔ body.length = n
    (kind.toNat ∈ [0x01, 0x05, 0x11, 0x25, 0x29, 0x3F] → fits 0) ∧
    (kind.toNat ∈ [0x02, 0x10, 0x13, 0x15, 0x22, 0x23, 0x24, 0x26, 0x27, 0x30] → fits 1) ∧
    (kind = 0x03 → fits 2) ∧ (kind = 0x12 → fits 15) ∧ (kind = 0x14 → fits 13) ∧ (kind = 0x21 → fits 5) ∧
    (kind = 0x28 → fits 8) := by
  have hfits {n : Nat} (h : lengthOk ⟨kind, body⟩ = decide (body.length = n)) :
      lengthOk ⟨kind, body⟩ = true ↔ body.length = n := by rw [h, decide_eq_true_eq]
  refine ⟨fun h => hfits ?_, fun h => hfits ?_, fun h => hfits ?_, fun h => hfits ?_, fun h => hfits ?_,
    fun h => hfits ?_, fun h => hfits ?_⟩
  · simp only [List.mem_cons, List.not_mem_nil, or_false] at h
    rcases h with h | h | h | h | h | h <;> simp only [lengthOk, h]
  · simp only [List.mem_cons, List.not_mem_nil, or_false] at h
    rcases h with h | h | h | h | h | h | h | h | h | h <;> simp only [lengthOk, h]
  all_goals
    subst h
    rfl

theorem entryBytes_table {table : Byte} (h : table.toNat ≤ 4) :
    entryBytes table.toNat = if table = 0 then 4 else if table = 4 then 1 else 2 := by
  have hnum (n : Nat) (hn : n < 256) : table = byte n ↔ table.toNat = n := by
    rw [← BitVec.toNat_inj, byte_toNat hn]
  have h0 : table = 0 ↔ table.toNat = 0 := hnum 0 (by decide)
  have h4 : table = 4 ↔ table.toNat = 4 := hnum 4 (by decide)
  have hbytes : ∀ n ≤ 4, entryBytes n = if n = 0 then 4 else if n = 4 then 1 else 2 := by decide
  simp only [h0, h4, hbytes _ h]

/-- TWRT's body is a table code, an index of two bytes and whole entries. -/
theorem lengthOk_twrt_iff {table : Byte} (h : table.toNat ≤ 4) (rest : List Byte) :
    lengthOk ⟨0x20, table :: rest⟩ = true ↔
      2 ≤ rest.length ∧ (rest.length - 2) % (if table = 0 then 4 else if table = 4 then 1 else 2) = 0 := by
  have hdef : lengthOk ⟨0x20, table :: rest⟩ =
      (decide (3 ≤ rest.length + 1) && decide ((rest.length + 1 - 3) % entryBytes table.toNat = 0)) := rfl
  have hroom : 3 ≤ rest.length + 1 ↔ 2 ≤ rest.length := by omega
  have hsub : rest.length + 1 - 3 = rest.length - 2 := by omega
  rw [hdef, Bool.and_eq_true, decide_eq_true_eq, decide_eq_true_eq, hroom, hsub, entryBytes_table h]

theorem ofCode_label {code : Byte} : Param.ofCode code = some .label ↔ code = 0x46 := Param.ofCode_eq_some

/-- PSET's body is a code, a bank, a style and a value of 4 or 16 bytes. -/
theorem lengthOk_pset (code bank style : Byte) (value : List Byte) :
    let ok := lengthOk ⟨0x04, code :: bank :: style :: value⟩
    (value.length ≠ 4 → value.length ≠ 16 → ok = false) ∧
    (value.length = 4 → code ≠ 0x46 → ok = true) ∧ (value.length = 16 → code = 0x46 → ok = true) ∧
    (value.length = 4 ∨ value.length = 16 → Param.ofCode code = none → ok = true) := by
  have hdef : lengthOk ⟨0x04, code :: bank :: style :: value⟩ =
      ((decide (value.length = 4) || decide (value.length = 16)) &&
        (!(knownParam code) || psetWidthOk code value.length || !Config.psetWidthIsLength)) := rfl
  have hwidth : psetWidthOk code value.length = decide (value.length = if code = 0x46 then 16 else 4) := by
    simp only [psetWidthOk, ofCode_label]
    split <;> rfl
  rw [hdef, hwidth]
  refine ⟨fun h4 h16 => by simp [h4, h16], fun h4 hc => ?_, fun h16 hc => ?_, fun hv hc => ?_⟩
  · rw [if_neg hc]
    simp [h4]
  · rw [if_pos hc]
    simp [h16]
  · have hunknown : knownParam code = false := by rw [knownParam, hc]; rfl
    rcases hv with hv | hv <;> simp [hv, hunknown]

/-- Neither PSET nor TWRT has a body of fewer than three bytes. -/
theorem lengthOk_short {body : List Byte} (h : body.length < 3) :
    lengthOk ⟨0x04, body⟩ = false ∧ lengthOk ⟨0x20, body⟩ = false := by
  have htwrt : lengthOk ⟨0x20, body⟩ =
      (decide (3 ≤ body.length) && decide ((body.length - 3) % entryBytes (body.headD 0).toNat = 0)) := rfl
  refine ⟨?_, by rw [htwrt, decide_eq_false (Nat.not_le.2 h), Bool.false_and]⟩
  match body, h with
  | [], _ => rfl
  | [_], _ => rfl
  | [_, _], _ => rfl
  | _ :: _ :: _ :: _, h => simp at h; omega

/-! ## Requests answered by the link (R175, R176) -/

/-- Every request command serves its request, whichever owner it goes to. -/
theorem exec_serves {i : Instr} {q : Request} (hw : i.wellFormed = true) (hq : requestOf i = some q) :
    ∃ owner, ∀ s, exec i s = .next (serve q owner s) := by
  cases i with
  | badKind kind body =>
    cases hq
    have hk : knownKind kind = false := by simpa using Bool.and_elim_left hw
    exact ⟨refuse .badKind, fun s => by simp only [exec, execBadKind, hk]; rfl⟩
  | idnt _ | stat _ | pget _ | pset _ | psetLevel _ _ _ | psetMin _ _ _ | psetMax _ _ _ | psetExpo _ _ _
  | psetMode _ _ _ | psetSteer _ _ _ | psetCeiling _ _ _ | psetDerateStart _ _ _ | psetCutoff _ _ _
  | psetSendMode _ _ _ | psetRiseEn _ _ _ | psetFallEn _ _ _ | psetNoticeEn _ _ _ | psetOutWidth _ _ _
  | psetOutHeight _ _ _ | psetBankSet _ _ _ | psetHasTone _ _ _ | psetProfileId _ _ _ | psetHeadBind _ _ _
  | psetLabel _ _ _ | ltch _ | sgo _ | shlt _ | stil _ | scan _ | zset _ | zget _ | twrt _ | trd _ | pact _ | psav _
  | pers _ | sers _ | pprt _ | plst _ | bwrt _ | brd _ | hprb _ | rset _ =>
    cases hq
    exact ⟨_, fun s => rfl⟩
  | _ => cases hq

section
variable {q : Request} {owner : State → Answer} {s : State}

/-- A request taken that the examination refuses is answered with the refusal, and nothing changes outside the link (R176). -/
theorem serve_refused {st : Status} (h : Takes q s)
    (he : ∀ hold, examine q owner (s.setCml { s.cml with holding := hold }) =
      refuse st (s.setCml { s.cml with holding := hold })) : Answered q.kind st [] s (serve q owner s) := by
  obtain ⟨hq, hold, hb⟩ := bring_takes h
  have hserve : serve q owner s = pump (composeReply q ⟨st, []⟩ (s.setCml { s.cml with holding := hold })) := by
    rw [hb] at hq
    simp only [serve, hb, hq, if_true, take, he, refuse]
  rw [hserve]
  exact ⟨newestReply_composed _ _ _, outsideLink_pump _⟩

/-- A request that arrives behind the next to be taken leaves that one the next. -/
theorem arrive_nextRequest {q' : Request} (h : s.cml.nextRequest = some q') :
    (arrive q s).cml.nextRequest = some q' := by
  rcases Nat.lt_or_ge s.cml.holding.length 2 with hroom | hfull
  · rw [arrive_joins q hroom]
    simp only [Link.nextRequest, State.setCml_cml, List.find?_append] at h ⊢
    split at h
    · cases h
    · next hr =>
      obtain ⟨x, hx, rfl⟩ := Option.map_eq_some_iff.1 h
      rw [if_neg hr, hx]
      rfl
  · rw [arrive_lost q hfull]
    exact h

/-- Another request being the next to be taken, a request command's request only arrives (R175). -/
theorem serve_waits {q' : Request} (h : s.cml.nextRequest = some q') (hne : q' ≠ q) (hrx : s.cml.rx = .hunt) :
    serve q owner s = pump (arrive q s) := by
  have hother {u : State} (hu : u.cml.nextRequest = some q') : u.cml.nextRequest ≠ some q := fun e =>
    hne (Option.some.inj (hu.symm.trans e))
  have hbring : bring q s = arrive q s := by rw [bring, if_neg (hother h), if_pos hrx]
  simp only [serve, hbring, if_neg (hother (arrive_nextRequest h))]

end

/-- Settles O40: the index's kinds and lengths, the examination's three refusals, and the request that waits. -/
theorem requestsRefusedBeforeTheirOwner : Obligations.RequestsRefusedBeforeTheirOwner := by
  refine ⟨fun kind st data => congrArg (LinkFrame.mk · _) (replyKind_eq kind), by decide,
    fun kind => ⟨List.contains_iff_mem, startUpKind_iff kind⟩, lengthOk_fixed, fun _ rest h => lengthOk_twrt_iff h rest,
    lengthOk_pset, fun _ => lengthOk_short, fun i q s hw hq => ?_⟩
  obtain ⟨owner, he⟩ := exec_serves hw hq
  refine ⟨fun ht => ⟨fun hk => ?_, fun hk hl => ?_, fun hk hl hs hu => ?_⟩, fun q' hnext hne hrx => ?_⟩
  · exact ⟨_, he s, serve_refused ht fun _ => if_pos hk⟩
  · exact ⟨_, he s, serve_refused ht fun _ => (if_neg (by simp [hk])).trans (if_pos hl)⟩
  · exact ⟨_, he s, serve_refused ht fun _ =>
      (if_neg (by simp [hk])).trans ((if_neg (by simp [hl])).trans (if_pos ⟨hs, hu⟩))⟩
  · refine ⟨_, (he s).trans (congrArg Host.Outcome.next (serve_waits hnext hne hrx)), fun hroom => ?_, fun hfull => ?_⟩
    · obtain ⟨-, hjoins, hout⟩ := pump_arrive_joins q hroom
      exact ⟨hjoins, hout⟩
    · obtain ⟨-, hstands, hout, hlatch⟩ := pump_linkError s
      rw [arrive_lost q hfull]
      exact ⟨hstands, hout, hlatch⟩

end Sys2Proof.Machine
end
